-- ==== Sys2Proof/Word.lean ====
section
/-! DEFINITION. The two word types of the HL48: the byte of a frame and the 16-bit word of a count,
a sample component or a payload field. Arithmetic on them beyond the library's own stands in
`Sys2Proof/Machine/Bytes.lean`. -/

namespace Sys2Proof

/-- One byte of a unit, a frame or a command's arguments (R2, R168). -/
abbrev Byte := BitVec 8

/-- A 16-bit value: the Time Count (R1), a sample counter or component (R8), a pen identifier (R8), the
frame check (R4). -/
abbrev Half := BitVec 16

end Sys2Proof
end

