-- ==== Sys2Proof/Syntax.lean ====
section
/-! DEFINITION. The commands of the HL48: one constructor of `Instr` for each row of
spec/opcode_table.json, with the operands the row's rule gives its event.

Three sorts of command stand side by side, as they do in the table: events of the outside world (a unit
completes at a port, a line changes level, a millisecond passes), events inside the part (a timer
expires, a transmitter ends an item, a block takes what another block delivered to it), and management
commands. A management command's operands are the channel and the argument bytes of the MGMT frame that
carries it, so that every argument length and every argument value is a command (R168, R169). -/

namespace Sys2Proof

/-- A logical channel 0..15 (R2). -/
abbrev Chan := Fin 16

/-- The sixteen event causes, in cause order (R173). -/
inductive EventCause
  | attach | detach | suspect | reject | grantLimited | penFound | penRemoved | chargeDone
  | chargeFault | chargeLockout | sleepRequest | sleepWithdrawn | wake | log | downFail | queueDrop
  deriving DecidableEq, Repr

/-- What the Management Unit takes as an event of its own: a delivery of a cause (R173), or the Posture Engine's
request of a STATE frame (R95, R96). -/
inductive ManagementEvent
  | cause (cause : EventCause) | stateRequest
  deriving DecidableEq, Repr

/-- The wake sources that reach the Power Policy Unit as events of their own (R164): all but LID_OPEN and
POSTURE, which come with a posture change event. -/
inductive EdgeSource
  | key | point | attach | detach | penOut | chargeDone
  deriving DecidableEq, Repr

/-- The two filters of the Input Gate, which deliver activity events (R158). -/
inductive InputFilter
  | key | pad
  deriving DecidableEq, Repr

/-- The blocks that deliver cap changes to the Charge Controller (R141). -/
inductive CapCause
  | posture | rail | hostState
  deriving DecidableEq, Repr

/-- The commands of the part, one constructor per row of spec/opcode_table.json, in the table's order. -/
inductive Instr
  /-- POWER_ON_RESET (R31). -/
  | powerOnReset
  /-- TIME_COUNT_TICK (R1): one millisecond passes. -/
  | timeCountTick
  /-- HOST_READY_CHANGE (R35): HOST_READY takes this level. -/
  | hostReadyChange (level : Bool)
  /-- PRESENCE_ASSERTED (R112). -/
  | presenceAsserted
  /-- PRESENCE_RELEASED (R112). -/
  | presenceReleased
  /-- B_PORT_UNIT_COMPLETED (R11): a unit of two or more bytes. -/
  | bPortUnitCompleted (b0 b1 : Byte) (rest : List Byte)
  /-- B_PORT_SYMBOL_RECEIVED (R21): a unit of one byte. -/
  | bPortSymbolReceived (symbol : Byte)
  /-- L_PORT_UNIT_COMPLETED (R17): a unit of one or more bytes, with the level of LIDSW at the event. -/
  | lPortUnitCompleted (lidsw : Bool) (b0 : Byte) (rest : List Byte)
  /-- P_PORT_UNIT_COMPLETED (R18): a unit of one or more bytes. -/
  | pPortUnitCompleted (b0 : Byte) (rest : List Byte)
  /-- S_PORT_UNIT_COMPLETED (R19): a unit of one or more bytes. -/
  | sPortUnitCompleted (b0 : Byte) (rest : List Byte)
  /-- HANDSHAKE_WAIT_EXPIRY (R21). -/
  | handshakeWaitExpiry
  /-- S_PORT_FRAME_END (R36). -/
  | sPortFrameEnd
  /-- B_PORT_SYMBOL_SENT (R16). -/
  | bPortSymbolSent
  /-- PART_ORIGINATED_FRAME_SENT (R20). -/
  | partOriginatedFrameSent
  /-- DOWNSTREAM_FRAME_SENT (R21). -/
  | downstreamFrameSent
  /-- BASE_FRESHNESS_EXPIRY (R64). -/
  | baseFreshnessExpiry
  /-- CONTACT_DEBOUNCE_EXPIRY (R113). -/
  | contactDebounceExpiry
  /-- IDENT_TIMEOUT_EXPIRY (R114). -/
  | identTimeoutExpiry
  /-- ALIVE_WINDOW_EXPIRY (R119). -/
  | aliveWindowExpiry
  /-- DRIVE_PERIOD_END (R137). -/
  | drivePeriodEnd
  /-- PING_EXPIRY (R146). -/
  | pingExpiry
  /-- PROBE_WINDOW_EXPIRY (R147). -/
  | probeWindowExpiry
  /-- PEN_SILENCE_EXPIRY (R149). -/
  | penSilenceExpiry
  /-- TOP_UP_EXPIRY (R151). -/
  | topUpExpiry
  /-- COOLDOWN_EXPIRY (R152). -/
  | cooldownExpiry
  /-- SLEEP_DELAY_EXPIRY (R162). -/
  | sleepDelayExpiry
  /-- IDLE_TIMER_EXPIRY (R159). -/
  | idleTimerExpiry
  /-- OWED_FRAME_EMISSION (R33). -/
  | owedFrameEmission
  /-- PENDING_ITEM_RETRY (R20). -/
  | pendingItemRetry
  /-- RELEASE_RETRY (R104). -/
  | releaseRetry
  /-- LIFT_RETRY (R108). -/
  | liftRetry
  /-- GATE_UPDATE (R97): `padFirst` says which filter acts first, an order R97 leaves open. -/
  | gateUpdate (padFirst : Bool)
  /-- INPUT_GATE_TEARDOWN (R106, R109): `padFirst` says which filter acts first. -/
  | inputGateTeardown (padFirst : Bool)
  /-- POSTURE_ADMISSION (R84). -/
  | postureAdmission
  /-- POSTURE_TEARDOWN (R84). -/
  | postureTeardown
  /-- TOGGLE_AND_HALT_RESET (R14). -/
  | toggleAndHaltReset
  /-- TRANSMITTER_TEARDOWN (R22). -/
  | transmitterTeardown
  /-- ADMISSION_GRANT (R130). -/
  | admissionGrant
  /-- RAIL_TEARDOWN (R133). -/
  | railTeardown
  /-- CAP_CHANGE (R141): the Charge Controller takes the cap change of this block. -/
  | capChange (cause : CapCause)
  /-- POWER_POSTURE_CHANGE (R160). -/
  | powerPostureChange
  /-- POWER_POLICY_EVENT (R161). -/
  | powerPolicyEvent
  /-- ACTIVITY_EVENT (R158): the unit takes the activity event of this filter. -/
  | activityEvent (filter : InputFilter)
  /-- WAKE_SOURCE_EVENT (R165): the unit takes an occurrence of this source. -/
  | wakeSourceEvent (source : EdgeSource)
  /-- EVENT_DELIVERY (R173): the Management Unit takes a delivery of this cause, or a request of a STATE frame
  (R96; assumption 35). -/
  | eventDelivery (event : ManagementEvent)
  /-- GET_INFO (R171), code 1. -/
  | getInfo (channel : Chan) (args : List Byte)
  /-- SOFT_RESET (R172), code 2. -/
  | softReset (channel : Chan) (args : List Byte)
  /-- WRITE_ROUTE (R41), code 3. -/
  | writeRoute (channel : Chan) (args : List Byte)
  /-- INVALIDATE_ROUTE (R42), code 4. -/
  | invalidateRoute (channel : Chan) (args : List Byte)
  /-- READ_ROUTE (R43), code 5. -/
  | readRoute (channel : Chan) (args : List Byte)
  /-- SET_DEFAULT_ROUTE (R45), code 6. -/
  | setDefaultRoute (channel : Chan) (args : List Byte)
  /-- WRITE_POSTURE (R77), code 7. -/
  | writePosture (channel : Chan) (args : List Byte)
  /-- INVALIDATE_POSTURE (R78), code 8. -/
  | invalidatePosture (channel : Chan) (args : List Byte)
  /-- READ_POSTURE_ENTRY (R78), code 9. -/
  | readPostureEntry (channel : Chan) (args : List Byte)
  /-- WRITE_POLICY (R92), code 10. -/
  | writePolicy (channel : Chan) (args : List Byte)
  /-- WRITE_AXIS_MAP (R59), code 11. -/
  | writeAxisMap (channel : Chan) (args : List Byte)
  /-- WRITE_ANGLE_PARAMS (R72), code 12. -/
  | writeAngleParams (channel : Chan) (args : List Byte)
  /-- READ_POSTURE_RECORD (R94), code 13. -/
  | readPostureRecord (channel : Chan) (args : List Byte)
  /-- SET_ROTATION_LOCK (R90), code 14. -/
  | setRotationLock (channel : Chan) (args : List Byte)
  /-- WRITE_BASE_CLASS (R123), code 15. -/
  | writeBaseClass (channel : Chan) (args : List Byte)
  /-- READ_BASE_RECORD (R125), code 16. -/
  | readBaseRecord (channel : Chan) (args : List Byte)
  /-- SET_LINK_TIMING (R124), code 17. -/
  | setLinkTiming (channel : Chan) (args : List Byte)
  /-- CHANNEL_HALT (R170), code 18. -/
  | channelHalt (channel : Chan) (args : List Byte)
  /-- CHANNEL_RESUME (R170), code 19. -/
  | channelResume (channel : Chan) (args : List Byte)
  /-- SET_BUDGET (R132), code 20. -/
  | setBudget (channel : Chan) (args : List Byte)
  /-- READ_BUDGET (R134), code 21. -/
  | readBudget (channel : Chan) (args : List Byte)
  /-- WRITE_DRIVE_LEVEL (R136), code 22. -/
  | writeDriveLevel (channel : Chan) (args : List Byte)
  /-- WRITE_CHARGE_CELL (R139), code 23. -/
  | writeChargeCell (channel : Chan) (args : List Byte)
  /-- SET_CHARGE_PARAMS (R143), code 24. -/
  | setChargeParams (channel : Chan) (args : List Byte)
  /-- CHARGE_ENABLE (R145), code 25. -/
  | chargeEnable (channel : Chan) (args : List Byte)
  /-- READ_CHARGE_RECORD (R153), code 26. -/
  | readChargeRecord (channel : Chan) (args : List Byte)
  /-- SET_HOST_STATE (R163), code 27. -/
  | setHostState (channel : Chan) (args : List Byte)
  /-- WRITE_WAKE_TABLE (R164), code 28. -/
  | writeWakeTable (channel : Chan) (args : List Byte)
  /-- READ_SLEEP_RECORD (R167), code 29. -/
  | readSleepRecord (channel : Chan) (args : List Byte)
  /-- SET_QUEUE (R26), code 30. -/
  | setQueue (channel : Chan) (args : List Byte)
  /-- FLUSH_QUEUE (R37), code 31. -/
  | flushQueue (channel : Chan) (args : List Byte)
  /-- READ_QUEUES (R170), code 32. -/
  | readQueues (channel : Chan) (args : List Byte)
  /-- READ_EVENTS (R175), code 33. -/
  | readEvents (channel : Chan) (args : List Byte)
  /-- CLEAR_EVENTS (R175), code 34. -/
  | clearEvents (channel : Chan) (args : List Byte)
  /-- SET_EVENT_ENABLE (R175), code 35. -/
  | setEventEnable (channel : Chan) (args : List Byte)
  /-- READ_LOG (R170), code 36. -/
  | readLog (channel : Chan) (args : List Byte)
  /-- CLEAR_LOG (R56), code 37. -/
  | clearLog (channel : Chan) (args : List Byte)
  /-- READ_COUNTERS (R176), code 38. -/
  | readCounters (channel : Chan) (args : List Byte)
  deriving DecidableEq, Repr

end Sys2Proof
end

