-- ==== Sys2Proof/Decode.lean ====
section
/-! DEFINITION. What a word spells by the table's bits. The part has no instruction words: its commands
are events and MGMT frames, and no row of spec/opcode_table.json gives any bits, so no word spells a
command. (The bytes of the frames that arrive at the ports are read by `Sys2Proof/Machine/Frames.lean`.) -/

namespace Sys2Proof

/-- The command that a word spells by the table's bits: none, since the table gives no row any bits. -/
def decodeTableWord (_nbits _w : Nat) : Option Instr := none

end Sys2Proof
end

