-- ==== Sys2Proof/Config.lean ====
section
/-! DEFINITION. What the manual fixes once for the part: capacities, fixed limits, the identity bytes of
GET_INFO and the constants of the frame check and of the vectoring. The manual leaves no VALUE of the
part to an implementation, so no constant here is without a body; the orders it leaves open are operands
of the commands they concern (see `Sys2Proof/Syntax.lean`). -/

namespace Sys2Proof.Config

/-- Buffers kept back for part-originated frames (R27). -/
def reserve : Nat := 4

/-- Bytes a staging frame and a buffer hold (R3, R24). -/
def frameCapacity : Nat := 37

/-- Largest payload (R2). -/
def maxPayload : Nat := 32

/-- Generator of the frame check, x^16 + x^12 + x^5 + 1 (R4). -/
def crcConstant : Half := 0x1021

/-- Start of the running value of the frame check (R4). -/
def crcStart : Half := 0xFFFF

/-- Fixed handshake wait of a downstream frame, in ms (R21). -/
def handshakeWait : Nat := 2

/-- Identity requests made before the base is rejected (R114, R124). -/
def identAttempts : Nat := 3

/-- Faults that lock the charger (R143, R152). -/
def faultLimit : Nat := 3

/-- Held Key Set capacity (R98, R100). -/
def heldCapacity : Nat := 14

/-- Largest requested load and load cap, in rail units (R9, R123). -/
def maxLoad : Nat := 40

/-- Saturation value of a 16-bit statistics counter (R23, R38, R53). -/
def counterMax : Nat := 65535

/-- Saturation value of the log's overflow count (R54, R55). -/
def overflowMax : Nat := 255

/-- Steps of one turn (R57 and the conventions of 00_scope). -/
def turn : Int := 4096

/-- The constants of the ten iterations of the vectoring, i = 0..9 (R61). -/
def vectorConstants : List Int := [512, 302, 160, 81, 41, 20, 10, 5, 3, 1]

/-- Family code returned by GET_INFO (R171). -/
def familyCode : Half := 0xC448

/-- Silicon revision returned by GET_INFO (R171). -/
def siliconRevision : Byte := 1

end Sys2Proof.Config
end

