-- ==== Sys2Proof/Machine/State.lean ====
section
/-! DEFINITION. The state of the HL48, block by block as 00_scope.md lists the blocks, each field with the
rule that names it, and the state after power-on reset. State is plain data: lists, vectors, numbers,
bit masks and closed inductives. -/

namespace Sys2Proof.Machine

/-- A 16-bit statistics counter, saturating at 65535 (R23, R38, R53). -/
abbrev Counter := Nat

/-- A timer: `none` stopped, `some n` running with `n` ms left; `some 0` is due, and its expiry is an event
still to be taken (00_scope, Time; R159). -/
abbrev Timer := Option Nat

/-- A buffer index 0..47 (R24). -/
abbrev BufIdx := Fin 48

/-- A drive level 0..7 (R135). -/
abbrev Level := Fin 8

/-- A gate class 0..7 (R39, R91). -/
abbrev GateClass := Fin 8

/-- A node number 0..7 (R5). -/
abbrev Node := Fin 8

/-! ### Frames -/

/-- The frame kinds, codes 0..12 (R6). -/
inductive Kind
  | data | keys | point | sample | pen | ident | alive | identReq | grant | mgmt | resp | note | state
  deriving DecidableEq, Repr

/-- The four frame ports (00_scope). -/
inductive Port
  | b | l | p | s
  deriving DecidableEq, Repr

/-- The ports whose frames the classifier takes (R39). -/
inductive UpPort
  | b | l | p
  deriving DecidableEq, Repr

/-- A frame that passed its port's frame and header checks: its header fields, its payload and its bytes as
they arrived (R2). -/
structure Frame where
  kind : Kind
  channel : Chan
  dest : Node
  toggle : Bool
  payload : List Byte
  raw : List Byte
  deriving DecidableEq, Repr

/-! ### Buffer Pool and Queue Manager -/

/-- The five queues (R25). -/
inductive QueueId
  | q0 | q1 | q2 | q3 | qd
  deriving DecidableEq, Repr

/-- The host-bound queues that a route can name (R39). -/
inductive HostQueue
  | q1 | q2 | q3
  deriving DecidableEq, Repr

/-- Overflow policies (R25). -/
inductive OverflowPolicy
  | dropOld | dropNew
  deriving DecidableEq, Repr

/-- The counters and the peak length of one queue (R38). -/
structure QueueCounters where
  placed : Counter := 0
  sent : Counter := 0
  evicted : Counter := 0
  refused : Counter := 0
  noBuffer : Counter := 0
  flushed : Counter := 0
  owed : Counter := 0
  overrun : Counter := 0
  deriving DecidableEq, Repr

/-- One queue: its buffer indexes, head first, its limit and its policy, none for Q0 (R25, R38). -/
structure Queue where
  items : List BufIdx := []
  limit : Nat
  policy : Option OverflowPolicy
  peak : Nat := 0
  counters : QueueCounters := {}
  deriving DecidableEq, Repr

/-- The buffer pool: the contents of the 48 buffers, the Free List and the five queues (R24, R25). -/
structure Pool where
  bufs : Vector (List Byte) 48
  free : List BufIdx
  q0 : Queue
  q1 : Queue
  q2 : Queue
  q3 : Queue
  qd : Queue
  deriving DecidableEq, Repr

/-! ### B-port -/

/-- Handshake symbol types (R3). -/
inductive SymbolType
  | ack | nak | halt
  deriving DecidableEq, Repr

/-- One entry of the owed-symbol list; `started` marks the symbol being sent (R16). -/
structure OwedSymbol where
  type : SymbolType
  channel : Chan
  started : Bool
  deriving DecidableEq, Repr

/-- What the B-port transmitter is sending (R20). -/
inductive BSending
  | idle
  /-- The head of the owed-symbol list. -/
  | symbol (type : SymbolType) (channel : Chan)
  /-- An IDENT_REQ or GRANT frame, in this buffer. -/
  | partOriginated (buf : BufIdx)
  /-- A downstream frame, in this buffer. -/
  | downstream (buf : BufIdx)
  deriving DecidableEq, Repr

/-- The counters of the B-port (R23). -/
structure BCounters where
  received : Counter := 0
  checkFailures : Counter := 0
  headerErrors : Counter := 0
  identAlive : Counter := 0
  notAttached : Counter := 0
  undeclared : Counter := 0
  kindMismatch : Counter := 0
  halted : Counter := 0
  duplicates : Counter := 0
  overlength : Counter := 0
  refused : Counter := 0
  shapeErrors : Counter := 0
  straySymbols : Counter := 0
  downSent : Counter := 0
  downAcked : Counter := 0
  downFailed : Counter := 0
  downAbandoned : Counter := 0
  deriving DecidableEq, Repr

/-- The B-port receiver and transmitter (R13, R14, R16, R20, R21). -/
structure BPort where
  staging : List Byte := []
  toggles : Vector Bool 16 := Vector.replicate 16 false
  halts : Vector Bool 16 := Vector.replicate 16 false
  owed : List OwedSymbol := []
  pendingIdent : Bool := false
  pendingGrant : Option Nat := none
  sending : BSending := .idle
  awaiting : Option BufIdx := none
  handshakeWait : Timer := none
  counters : BCounters := {}
  deriving DecidableEq, Repr

/-! ### L-port, P-port with the coil driver, S-port -/

/-- The counters of the L-port (R23). -/
structure LCounters where
  received : Counter := 0
  checkFailures : Counter := 0
  headerErrors : Counter := 0
  gaps : Counter := 0
  shapeErrors : Counter := 0
  deriving DecidableEq, Repr

/-- The L-port receiver: staging frame, last sample counter and its valid flag (R17). -/
structure LPort where
  staging : List Byte := []
  lastCounter : Half := 0
  lastValid : Bool := false
  counters : LCounters := {}
  deriving DecidableEq, Repr

/-- The coil driver (R137). -/
structure Coil where
  driving : Bool := false
  activeFreq : Nat := 200
  activeDuty : Nat := 0
  inEffect : Level := 0
  bufferedFreq : Nat := 200
  bufferedDuty : Nat := 0
  buffered : Level := 0
  swapPending : Bool := false
  deriving DecidableEq, Repr

/-- The counters of the P-port (R23). -/
structure PCounters where
  received : Counter := 0
  checkFailures : Counter := 0
  headerErrors : Counter := 0
  shapeErrors : Counter := 0
  deriving DecidableEq, Repr

/-- The P-port receiver and the coil driver (R18, R137). -/
structure PPort where
  staging : List Byte := []
  coil : Coil := {}
  counters : PCounters := {}
  deriving DecidableEq, Repr

/-- The counters of the S-port (R23). -/
structure SCounters where
  received : Counter := 0
  checkFailures : Counter := 0
  headerErrors : Counter := 0
  mgmtFrames : Counter := 0
  badDest : Counter := 0
  downAccepted : Counter := 0
  deriving DecidableEq, Repr

/-- The S-port: staging frame and the buffer in transmission, none when idle (R19, R35, R36). -/
structure SPort where
  staging : List Byte := []
  sending : Option BufIdx := none
  counters : SCounters := {}
  deriving DecidableEq, Repr

/-! ### Frame Classifier -/

/-- Route actions (R39). -/
inductive Action
  | forward | tap | consume | drop
  deriving DecidableEq, Repr

/-- One Route Table entry (R39): `kind` none is ANY, `queue` none is 0, `gate` none is NONE. -/
structure Route where
  valid : Bool := false
  port : UpPort := .b
  base : Nat := 0
  span : Nat := 1
  kind : Option Kind := none
  action : Action := .forward
  queue : Option HostQueue := some .q3
  gate : Option GateClass := none
  matchCount : Counter := 0
  deriving DecidableEq, Repr

/-- The Default Route (R45). -/
structure DefaultRoute where
  action : Action := .forward
  queue : Option HostQueue := some .q3
  matchCount : Counter := 0
  deriving DecidableEq, Repr

/-- Reasons of the Frame Error Log (R54). -/
inductive LogReason
  | crc | header | notAttached | undeclared | kindMismatch | overlength | badDest | mgmtOverrun
  deriving DecidableEq, Repr

/-- The Frame Error Log (R54). -/
structure ErrorLog where
  valid : Bool := false
  reason : LogReason := .crc
  port : Port := .b
  kind : BitVec 4 := 0
  channel : BitVec 4 := 0
  dest : BitVec 3 := 0
  length : Byte := 0
  time : Half := 0
  overflow : Nat := 0
  deriving DecidableEq, Repr

/-- The Frame Classifier: tables, counters and the error log (R39, R45, R53, R54). -/
structure Classifier where
  routes : Vector Route 24 := Vector.replicate 24 {}
  dflt : DefaultRoute := {}
  classified : Counter := 0
  gated : Counter := 0
  unconsumed : Counter := 0
  log : ErrorLog := {}
  deriving DecidableEq, Repr

/-! ### Posture Engine -/

/-- A sensor's own axes (R58). -/
inductive Axis
  | x | y | z
  deriving DecidableEq, Repr

/-- The source and sign of one canonical axis (R58). -/
structure AxisTerm where
  source : Axis
  negated : Bool
  deriving DecidableEq, Repr

/-- One Axis Map record (R58). -/
structure AxisRecord where
  x : AxisTerm := { source := .x, negated := false }
  y : AxisTerm := { source := .y, negated := false }
  z : AxisTerm := { source := .z, negated := false }
  deriving DecidableEq, Repr

/-- The ten Angle Parameters (R71). -/
structure AngleParams where
  hingeOffset : Nat := 0
  wrapBand : Nat := 256
  minProjection : Nat := 1100
  maxProjection : Nat := 4940
  baseFaceBand : Nat := 640
  flatThreshold : Nat := 700
  rotHysteresis : Nat := 114
  rotDwell : Nat := 6
  unmatchedDwell : Nat := 8
  baseFreshness : Nat := 40
  deriving DecidableEq, Repr

/-- A sample record: counter, components as received and arrival time (R73). -/
structure SampleRecord where
  counter : Half := 0
  x : Half := 0
  y : Half := 0
  z : Half := 0
  time : Half := 0
  deriving DecidableEq, Repr

/-- The eight postures (R75). -/
inductive Posture
  | unknown | detached | closed | laptop | flat | stand | tent | tablet
  deriving DecidableEq, Repr

/-- Base faces (R70). -/
inductive Face
  | up | edge | down
  deriving DecidableEq, Repr

/-- Screen orientations (R86). -/
inductive Orientation
  | rot0 | rot90 | rot180 | rot270
  deriving DecidableEq, Repr

/-- Lid conditions of a Posture Table entry (R76). -/
inductive LidCondition
  | any | asserted | released
  deriving DecidableEq, Repr

/-- One Posture Table entry (R76); bit 0 of the face mask is UP, bit 1 EDGE, bit 2 DOWN (R77). -/
structure PostureEntry where
  valid : Bool := false
  posture : Posture := .closed
  low : Nat := 0
  high : Nat := 0
  hysteresis : Nat := 0
  faces : BitVec 3 := 1
  lid : LidCondition := .any
  dwell : Nat := 1
  deriving DecidableEq, Repr

/-- The posture candidate (R79). -/
inductive Candidate
  | none | entry (i : Fin 8) | unmatched
  deriving DecidableEq, Repr

/-- Rotation modes (R89, R91). -/
inductive RotationMode
  | free | lock0 | hold
  deriving DecidableEq, Repr

/-- One Posture Policy Table row (R91): bit n of the gate mask opens class n; `sleepDelay` none is sleep
action NONE; idle timeout 0 is none. -/
structure PolicyRow where
  gateMask : BitVec 8 := 0xFF
  rotation : RotationMode := .free
  chargeCap : Level := 7
  sleepDelay : Option Nat := none
  idleTimeout : Nat := 0
  deriving DecidableEq, Repr

/-- The Posture Engine, the Posture Record among its fields (R58, R64, R69, R71, R73, R76, R79, R86, R90,
R91, R94). -/
structure PostureEngine where
  axisLid : AxisRecord := {}
  axisBase : AxisRecord := {}
  params : AngleParams := {}
  lid : SampleRecord := {}
  base : SampleRecord := {}
  baseValid : Bool := false
  baseFresh : Timer := none
  baseStale : Bool := false
  hinge : Nat := 0
  hingeValid : Bool := false
  table : Vector PostureEntry 8 := Vector.replicate 8 {}
  posture : Posture := .detached
  entry : Option (Fin 8) := none
  candidate : Candidate := .none
  candidateCount : Nat := 0
  face : Face := .up
  lidsw : Bool := false
  degenerate : Bool := false
  motion : Bool := false
  stale : Bool := false
  flat : Bool := false
  orientation : Orientation := .rot0
  rotCandidate : Option Orientation := none
  rotCount : Nat := 0
  rotLock : Bool := false
  policy : Vector PolicyRow 8 := Vector.replicate 8 {}
  changeCount : Half := 0
  changeTime : Half := 0
  deriving DecidableEq, Repr

/-! ### Input Gate -/

/-- The counters of the Key Filter (R110). -/
structure KeyCounters where
  forwarded : Counter := 0
  refused : Counter := 0
  unchanged : Counter := 0
  suppressed : Counter := 0
  foreign : Counter := 0
  fixups : Counter := 0
  overflow : Counter := 0
  releases : Counter := 0
  releaseFailures : Counter := 0
  deriving DecidableEq, Repr

/-- A synthetic frame waiting for a place, with its channel and queue (R98, R107). -/
structure PendingSynthetic where
  channel : Chan
  queue : HostQueue
  deriving DecidableEq, Repr

/-- The Key Filter (R98). -/
structure KeyFilter where
  held : List Byte := []
  masked : List Byte := []
  lastForwarded : List Byte := []
  bound : Option Chan := none
  cls : GateClass := 0
  queue : HostQueue := .q1
  gateOpen : Bool := true
  pending : Option PendingSynthetic := none
  counters : KeyCounters := {}
  deriving DecidableEq, Repr

/-- The counters of the Pad Filter (R110). -/
structure PadCounters where
  forwarded : Counter := 0
  refused : Counter := 0
  suppressed : Counter := 0
  awaitLiftDrops : Counter := 0
  lifts : Counter := 0
  liftFailures : Counter := 0
  deriving DecidableEq, Repr

/-- The Pad Filter (R107). -/
structure PadFilter where
  channel : Chan := 0
  cls : GateClass := 0
  queue : HostQueue := .q1
  gateOpen : Bool := true
  hadContacts : Bool := false
  awaitLift : Bool := false
  pending : Option PendingSynthetic := none
  counters : PadCounters := {}
  deriving DecidableEq, Repr

/-- The Input Gate: the gate states, bit n set while class n is open, and the two filters (R97). -/
structure InputGate where
  gates : BitVec 8 := 0xFF
  key : KeyFilter := {}
  pad : PadFilter := {}
  deriving DecidableEq, Repr

/-! ### Link Monitor -/

/-- Link states (R111). -/
inductive LinkState
  | detached | contact | identify | attached | suspect | rejected
  deriving DecidableEq, Repr

/-- The kinds a descriptor can declare (R9). -/
inductive DeclaredKind
  | data | keys | point | sample
  deriving DecidableEq, Repr

/-- One channel descriptor of the base (R9). -/
structure Descriptor where
  channel : Chan
  kind : DeclaredKind
  handshaked : Bool
  maxLength : Nat
  deriving DecidableEq, Repr

/-- The Base Record (R118). -/
structure BaseRecord where
  valid : Bool := false
  cls : Byte := 0
  revision : Byte := 0
  layout : Byte := 0
  requestedLoad : Nat := 0
  loadCap : Nat := 0
  attachTime : Half := 0
  descriptors : List Descriptor := []
  deriving DecidableEq, Repr

/-- One Base Class Table entry (R123). -/
structure BaseClass where
  valid : Bool := false
  cls : Byte := 0
  minRevision : Byte := 0
  loadCap : Nat := 0
  deriving DecidableEq, Repr

/-- The link timing parameters, in ms (R124). -/
structure LinkTiming where
  contactDebounce : Nat := 50
  identTimeout : Nat := 200
  aliveWindow : Nat := 100
  deriving DecidableEq, Repr

/-- Teardown causes (R111). -/
inductive TeardownCause
  | none | presence | silence | reident
  deriving DecidableEq, Repr

/-- Reject reasons (R111). -/
inductive RejectReason
  | none | shape | cls | noAnswer
  deriving DecidableEq, Repr

/-- The counters of the Link Monitor (R126). -/
structure LinkCounters where
  contacts : Counter := 0
  identRequests : Counter := 0
  admissions : Counter := 0
  rejections : Counter := 0
  ignoredIdents : Counter := 0
  suspects : Counter := 0
  recoveries : Counter := 0
  teardowns : Counter := 0
  deriving DecidableEq, Repr

/-- The Link Monitor (R111, R118, R123, R124). -/
structure Link where
  state : LinkState := .detached
  debounce : Timer := none
  identTimer : Timer := none
  alive : Timer := none
  attempts : Nat := 0
  record : BaseRecord := {}
  classes : Vector BaseClass 4 := Vector.replicate 4 {}
  defaultLoad : Nat := 10
  timing : LinkTiming := {}
  lastTeardown : TeardownCause := .none
  lastReject : RejectReason := .none
  counters : LinkCounters := {}
  deriving DecidableEq, Repr

/-! ### Rail Allocator -/

/-- The counters of the Rail Allocator (R134). -/
structure RailCounters where
  grants : Counter := 0
  deferredGrants : Counter := 0
  limitedGrants : Counter := 0
  deferredBudgets : Counter := 0
  clippedRequests : Counter := 0
  deriving DecidableEq, Repr

/-- The rail figures (R127). -/
structure Rail where
  total : Nat := 40
  effective : Nat := 40
  budgetPending : Bool := false
  grant : Nat := 0
  pendingGrant : Nat := 0
  grantPending : Bool := false
  penAlloc : Nat := 0
  active : Level := 0
  allocated : Level := 0
  cap : Level := 7
  counters : RailCounters := {}
  deriving DecidableEq, Repr

/-! ### Charge Controller -/

/-- One drive level (R135): frequency in kHz, duty in 1/256, power in rail units. -/
structure DriveLevel where
  freq : Nat := 200
  duty : Nat := 0
  power : Nat := 0
  deriving DecidableEq, Repr

/-- The nine charge parameters (R143). -/
structure ChargeParams where
  pingInterval : Nat := 500
  probeWindow : Nat := 20
  penSilence : Nat := 1000
  faultTemp : Int := 50
  cooldown : Nat := 60000
  topUp : Nat := 60000
  resume : Nat := 95
  standbyCap : Level := 2
  offCap : Level := 1
  deriving DecidableEq, Repr

/-- Session states (R144). -/
inductive Session
  | off | scan | probe | charging | topped | hold | fault | cooldown | lockout
  deriving DecidableEq, Repr

/-- Last fault causes (R144). -/
inductive FaultCause
  | none | error | temperature
  deriving DecidableEq, Repr

/-- The Pen Record (R142); the temperature is the signed byte as received. -/
structure PenRecord where
  valid : Bool := false
  id : Half := 0
  battery : Nat := 0
  temperature : Byte := 0
  full : Bool := false
  error : Bool := false
  time : Half := 0
  deriving DecidableEq, Repr

/-- The session timers (R144). -/
structure ChargeTimers where
  ping : Timer := none
  probe : Timer := none
  silence : Timer := none
  topUp : Timer := none
  cooldown : Timer := none
  deriving DecidableEq, Repr

/-- The counters of the Charge Controller (R154). -/
structure ChargeCounters where
  pings : Counter := 0
  starvedPings : Counter := 0
  unanswered : Counter := 0
  aborted : Counter := 0
  sessions : Counter := 0
  topOffs : Counter := 0
  removals : Counter := 0
  faults : Counter := 0
  lockouts : Counter := 0
  ignoredFrames : Counter := 0
  deriving DecidableEq, Repr

/-- The Charge Controller (R135, R139, R142, R143, R144). -/
structure Charge where
  levels : Vector DriveLevel 8 := Vector.replicate 8 {}
  cells : Vector Level 16 := Vector.replicate 16 0
  params : ChargeParams := {}
  session : Session := .off
  enabled : Bool := false
  faultCount : Nat := 0
  lastFault : FaultCause := .none
  pen : PenRecord := {}
  penPresent : Bool := false
  timers : ChargeTimers := {}
  counters : ChargeCounters := {}
  deriving DecidableEq, Repr

/-! ### Power Policy Unit -/

/-- Host power states (R155). -/
inductive HostPower
  | active | standby | off
  deriving DecidableEq, Repr

/-- States of the sleep vote (R156). -/
inductive Vote
  | awake | pending | requested | asleep | waking
  deriving DecidableEq, Repr

/-- Reasons of the sleep vote (R155). -/
inductive SleepReason
  | none | closed | idle
  deriving DecidableEq, Repr

/-- The counters of the Power Policy Unit (R167). -/
structure PowerCounters where
  sleepRequests : Counter := 0
  withdrawals : Counter := 0
  sleepEntries : Counter := 0
  wakes : Counter := 0
  wakeSuppressed : Counter := 0
  deriving DecidableEq, Repr

/-- The Power Policy Unit; bit n of a mask is wake source n (R155, R164). -/
structure Power where
  host : HostPower := .active
  vote : Vote := .awake
  reason : SleepReason := .none
  sleepDelay : Timer := none
  idle : Timer := none
  activityTime : Half := 0
  enables : BitVec 8 := 0x03
  latches : BitVec 8 := 0
  cause : BitVec 8 := 0
  wakeLine : Bool := false
  lidOpen : Bool := false
  counters : PowerCounters := {}
  deriving DecidableEq, Repr

/-! ### Management Unit -/

/-- The last reset (R171). -/
inductive LastReset
  | powerOn | soft
  deriving DecidableEq, Repr

/-- The counters of the Management Unit (R176). -/
structure MgmtCounters where
  commands : Counter := 0
  notOk : Counter := 0
  notices : Counter := 0
  stateReports : Counter := 0
  deriving DecidableEq, Repr

/-- The Management Unit; bit n of a mask is event cause n (R32, R171, R173). -/
structure Mgmt where
  flags : BitVec 16 := 0
  enables : BitVec 16 := 0
  owedNotices : BitVec 16 := 0
  owedState : Bool := false
  attn : Bool := false
  lastReset : LastReset := .powerOn
  counters : MgmtCounters := {}
  deriving DecidableEq, Repr

/-! ### Deliveries between blocks -/

/-- The input lines, read as levels (00_scope). LIDSW is presented with each L-port unit. -/
structure Lines where
  hostReady : Bool := false
  presence : Bool := false
  lidsw : Bool := false
  deriving DecidableEq, Repr

/-- The occasions at which a pending synthetic frame is retried (R104). -/
inductive RetryOccasion
  | dequeue (queue : HostQueue)
  | bufferAvailable
  deriving DecidableEq, Repr

/-- What the Posture Engine delivers to its three receivers: a posture change event with the old and the new
posture code, or a policy event with the current one (R93, R96). -/
inductive PostureEvent
  | change (old new : Posture)
  | policy (current : Posture)
  deriving DecidableEq, Repr

/-- What is delivered to the Charge Controller as a cap change (R141). It carries no cap: a posture change or
policy event carries its codes (R96). -/
inductive CapEvent
  | posture (event : PostureEvent)
  | rail
  | hostState
  deriving DecidableEq, Repr

/-- What one block has delivered to another and the receiver has not yet taken. Each is taken as an event of
its own by the command named for it (R34, R96, R117, R120, R141, R158, R165, R173). -/
inductive Delivery
  /-- PRESENCE read after a reset and found asserted (R111), taken by PRESENCE_ASSERTED. -/
  | presenceRead
  /-- A dequeue from Q0 or a buffer release while a frame is owed (R33). -/
  | owedEmission
  /-- A buffer release while an IDENT_REQ or GRANT is pending (R34). -/
  | itemRetry
  /-- A retry occasion of a pending synthetic release (R104). -/
  | releaseRetry (occasion : RetryOccasion)
  /-- A retry occasion of a pending synthetic lift (R108). -/
  | liftRetry (occasion : RetryOccasion)
  /-- A posture change or policy event at the Input Gate, with its codes and the gate mask of the row (R96, R97). -/
  | gateUpdate (event : PostureEvent) (mask : BitVec 8)
  /-- The teardown at the Input Gate (R106). -/
  | inputGateTeardown
  /-- The admission at the Posture Engine (R84). -/
  | postureAdmission
  /-- The teardown at the Posture Engine (R84). -/
  | postureTeardown
  /-- An admission or teardown at the B-port receiver (R13, R14). -/
  | toggleAndHaltReset
  /-- The teardown at the B-port transmitter (R22). -/
  | transmitterTeardown
  /-- The admission at the Rail Allocator (R130). -/
  | admissionGrant
  /-- The teardown at the Rail Allocator (R133). -/
  | railTeardown
  /-- A cap change at the Charge Controller (R141). -/
  | capChange (event : CapEvent)
  /-- A posture change event at the Power Policy Unit, with the posture codes it carries and the row of the
  new posture (R96, R160). -/
  | powerPostureChange (old new : Posture) (row : PolicyRow)
  /-- A policy event at the Power Policy Unit, with the current posture code and the rewritten row (R96, R161). -/
  | powerPolicyEvent (current : Posture) (row : PolicyRow)
  /-- An activity event at the Power Policy Unit (R158). -/
  | activity (filter : InputFilter)
  /-- A wake source occurrence at the Power Policy Unit (R165). -/
  | wakeSource (source : EdgeSource)
  /-- An event at the Management Unit (R173). -/
  | event (cause : EventCause)
  /-- A STATE frame requested of the Management Unit (R95, R96), taken by EVENT_DELIVERY (assumption 35). -/
  | stateRequest
  deriving DecidableEq, Repr

/-- The blocks that send and receive deliveries. -/
inductive Block
  | bReceiver | bTransmitter | sTransmitter | classifier | queueManager | postureEngine | inputGate
  | keyFilter | padFilter | linkMonitor | railAllocator | chargeController | powerPolicy | management
  deriving DecidableEq, Repr

/-! ### The whole part -/

/-- The state of the HL48: its lines, its blocks, what is under way between the blocks, and the queue of
commands that wait. -/
structure State where
  /-- The Time Count (R1). -/
  time : Half
  lines : Lines
  bport : BPort
  lport : LPort
  pport : PPort
  sport : SPort
  classifier : Classifier
  pool : Pool
  posture : PostureEngine
  gate : InputGate
  link : Link
  rail : Rail
  charge : Charge
  power : Power
  mgmt : Mgmt
  /-- Deliveries not yet taken, oldest first. -/
  deliveries : List Delivery
  /-- The MODEL's queue of commands, first in first out. -/
  pending : List Instr
  deriving DecidableEq, Repr

/-- The faults of the part: none. Every command of the table has an effect in every state, so no meaning
faults. Safe: nothing is answered by a fault. -/
inductive Fault
  deriving DecidableEq, Repr

/-- The refusals of the model. -/
inductive Refusal
  /-- Raised by a dispatch arm whose command has no meaning yet; safe, since no next state is claimed. No arm
  raises it. -/
  | notModelled (mnemonic : String)
  deriving DecidableEq, Repr

/-! ### Reset -/

/-- The pool after power-on reset: the Free List 0..47 ascending, every queue empty with its power-on limit
and policy (R24, R25, R31). The buffers' contents are a DESIGN CHOICE (empty; assumption 2). -/
def Pool.reset : Pool where
  bufs := Vector.replicate 48 []
  free := List.finRange 48
  q0 := { limit := 8, policy := none }
  q1 := { limit := 12, policy := some .dropNew }
  q2 := { limit := 16, policy := some .dropOld }
  q3 := { limit := 8, policy := some .dropOld }
  qd := { limit := 8, policy := some .dropNew }

/-- The part right after power-on reset: every field at the value its rule gives (R1, R31 and the reset
table of each block), the input lines deasserted (DESIGN CHOICE, assumption 1) and no command waiting. -/
def State.reset : State where
  time := 0
  lines := {}
  bport := {}
  lport := {}
  pport := {}
  sport := {}
  classifier := {}
  pool := Pool.reset
  posture := {}
  gate := {}
  link := {}
  rail := {}
  charge := {}
  power := {}
  mgmt := {}
  deliveries := []
  pending := []

/-! ### Updates of one field -/

def State.setTime (s : State) (v : Half) : State := { s with time := v }
def State.setLines (s : State) (v : Lines) : State := { s with lines := v }
def State.setBport (s : State) (v : BPort) : State := { s with bport := v }
def State.setLport (s : State) (v : LPort) : State := { s with lport := v }
def State.setPport (s : State) (v : PPort) : State := { s with pport := v }
def State.setSport (s : State) (v : SPort) : State := { s with sport := v }
def State.setClassifier (s : State) (v : Classifier) : State := { s with classifier := v }
def State.setPool (s : State) (v : Pool) : State := { s with pool := v }
def State.setPosture (s : State) (v : PostureEngine) : State := { s with posture := v }
def State.setGate (s : State) (v : InputGate) : State := { s with gate := v }
def State.setLink (s : State) (v : Link) : State := { s with link := v }
def State.setRail (s : State) (v : Rail) : State := { s with rail := v }
def State.setCharge (s : State) (v : Charge) : State := { s with charge := v }
def State.setPower (s : State) (v : Power) : State := { s with power := v }
def State.setMgmt (s : State) (v : Mgmt) : State := { s with mgmt := v }
def State.setDeliveries (s : State) (v : List Delivery) : State := { s with deliveries := v }
def State.setPending (s : State) (v : List Instr) : State := { s with pending := v }

end Sys2Proof.Machine
end

