-- ==== Sys2Proof/Machine/Bytes.lean ====
section
/-! DEFINITION. Bytes, 16-bit values, masks and saturating counts. -/

namespace Sys2Proof.Machine

/-- The low byte of a 16-bit value. -/
def lowByte (h : Half) : Byte := h.setWidth 8

/-- The high byte of a 16-bit value. -/
def highByte (h : Half) : Byte := (h >>> (8 : Nat)).setWidth 8

/-- A 16-bit payload field, least significant byte first (00_scope, Byte order). -/
def le16 (h : Half) : List Byte := [lowByte h, highByte h]

/-- A count as a 16-bit payload field. -/
def le16Nat (n : Nat) : List Byte := le16 (BitVec.ofNat 16 n)

/-- A count as a 32-bit payload field (R167). -/
def le32Nat (n : Nat) : List Byte := le16Nat n ++ le16Nat (n / 65536)

/-- A count as one byte. -/
def byteNat (n : Nat) : Byte := BitVec.ofNat 8 n

/-- A flag as one byte. -/
def byteBool (b : Bool) : Byte := if b then 1 else 0

/-- The 16-bit value of two payload bytes, the low one first. -/
def word16 (lo hi : Byte) : Half := hi ++ lo

/-- The number in two payload bytes. -/
def nat16 (lo hi : Byte) : Nat := lo.toNat + 256 * hi.toNat

/-- The number in four payload bytes. -/
def nat32 (b0 b1 b2 b3 : Byte) : Nat := nat16 b0 b1 + 65536 * nat16 b2 b3

/-- A statistics counter gains `n` and saturates at 65535 (R23, R38). -/
def satAdd (c : Counter) (n : Nat) : Counter := min (c + n) (max c Config.counterMax)

/-- A statistics counter gains one (R23, R38). -/
def satInc (c : Counter) : Counter := satAdd c 1

/-- Bit `i` of a mask set or cleared. -/
def setBit {w : Nat} (m : BitVec w) (i : Nat) (b : Bool) : BitVec w :=
  if b then m ||| BitVec.twoPow w i else m &&& ~~~ BitVec.twoPow w i

/-- A mask byte from its flags, bit 0 first. -/
def maskByte : List Bool → Byte
  | [] => 0
  | b :: bs => (maskByte bs <<< (1 : Nat)) ||| byteBool b

/-- A running timer loses one millisecond; a due or stopped one stays as it is. -/
def Timer.tick : Timer → Timer
  | some (n + 1) => some n
  | t => t

/-- A running timer has reached its expiry. -/
def Timer.due (t : Timer) : Bool := t == some 0

/-- Milliseconds left; 0 when stopped (R167). -/
def Timer.remaining (t : Timer) : Nat := t.getD 0

end Sys2Proof.Machine
end

