-- ==== Sys2Proof/Machine/Angle.lean ====
section
/-! DEFINITION. The Axis Map and the Angle Unit (R58, R60, R61, R66, R86, R88). Arithmetic on components is
exact on integers: R62 says that no value leaves the signed 24-bit width. -/

namespace Sys2Proof.Machine

/-- One canonical component of a sample record: the named source component, negated when the sign is
negative (R58). -/
def AxisTerm.apply (t : AxisTerm) (r : SampleRecord) : Int :=
  let v := match t.source with
    | .x => r.x.toInt
    | .y => r.y.toInt
    | .z => r.z.toInt
  if t.negated then -v else v

/-- The iterations of a vectoring, for the constants left and the number of the next one; the result is the
final x and z (R61). Right shifts are arithmetic. -/
def vectorLoop : Nat → List Int → Int → Int → Int → Int × Int
  | _, [], x, _, z => (x, z)
  | i, k :: ks, x, y, z =>
    if 0 ≤ y then vectorLoop (i + 1) ks (x + (y >>> i)) (y - (x >>> i)) (z + k)
    else vectorLoop (i + 1) ks (x - (y >>> i)) (y + (x >>> i)) (z - k)

/-- The vectoring of a pair (p, q): its angle in steps and its magnitude (R60, R61). -/
def vectoring (p q : Int) : Nat × Nat :=
  if p = 0 ∧ q = 0 then (0, 0)
  else
    let r :=
      if p < 0 then vectorLoop 0 Config.vectorConstants (-p) (-q) 2048
      else vectorLoop 0 Config.vectorConstants p q 0
    ((r.2 % Config.turn).toNat, r.1.toNat)

/-- The raw hinge angle of two tilts and the Hinge Offset (R66). -/
def rawHinge (base lid offset : Nat) : Nat :=
  (((base : Int) - lid + offset) % Config.turn).toNat

/-- The circular distance between two angles (R88). -/
def circularDistance (a b : Nat) : Nat :=
  let d := if a ≤ b then b - a else a - b
  min d (4096 - d)

/-- The sector in which a screen angle lies (R86). -/
def sectorOf (angle : Nat) : Orientation :=
  if angle < 512 then .rot0
  else if angle < 1536 then .rot90
  else if angle < 2560 then .rot180
  else if angle < 3584 then .rot270
  else .rot0

/-- The two bounds of an orientation's sector (R86). -/
def sectorBounds : Orientation → Nat × Nat
  | .rot0 => (3584, 511)
  | .rot90 => (512, 1535)
  | .rot180 => (1536, 2559)
  | .rot270 => (2560, 3583)

/-- The distance from an angle to the nearer bound of an orientation's sector (R88). -/
def sectorDistance (angle : Nat) (o : Orientation) : Nat :=
  min (circularDistance angle (sectorBounds o).1) (circularDistance angle (sectorBounds o).2)

/-- The base face of a base tilt under a Base Face band (R70). -/
def faceOf (band tilt : Nat) : Face :=
  if tilt ≤ band ∨ 4096 - band ≤ tilt then .up
  else if 2048 - band ≤ tilt ∧ tilt ≤ 2048 + band then .down
  else .edge

end Sys2Proof.Machine
end

