-- ==== Sys2Proof/Machine/Codes.lean ====
section
/-! DEFINITION. The codes the manual gives the named values, and the names of the codes. -/

namespace Sys2Proof.Machine

/-- Kind codes (R6). -/
def Kind.code : Kind → Nat
  | .data => 0 | .keys => 1 | .point => 2 | .sample => 3 | .pen => 4 | .ident => 5 | .alive => 6
  | .identReq => 7 | .grant => 8 | .mgmt => 9 | .resp => 10 | .note => 11 | .state => 12

/-- The kind of a code; 13, 14 and 15 name none (R6). -/
def Kind.ofCode : Nat → Option Kind
  | 0 => some .data | 1 => some .keys | 2 => some .point | 3 => some .sample | 4 => some .pen
  | 5 => some .ident | 6 => some .alive | 7 => some .identReq | 8 => some .grant | 9 => some .mgmt
  | 10 => some .resp | 11 => some .note | 12 => some .state | _ => none

/-- The kinds accepted on a port; the S-port makes no kind-against-port test (R6). -/
def Port.accepts : Port → Kind → Bool
  | .b, .data | .b, .keys | .b, .point | .b, .sample | .b, .ident | .b, .alive => true
  | .b, _ => false
  | .l, .sample => true
  | .l, _ => false
  | .p, .pen => true
  | .p, _ => false
  | .s, _ => true

/-- Port codes of READ_LOG (R170). -/
def Port.code : Port → Nat
  | .b => 0 | .l => 1 | .p => 2 | .s => 3

/-- Port codes of a route (R39). -/
def UpPort.code : UpPort → Nat
  | .b => 0 | .l => 1 | .p => 2

/-- The port of a code (R41). -/
def UpPort.ofCode : Nat → Option UpPort
  | 0 => some .b | 1 => some .l | 2 => some .p | _ => none

/-- The port an upstream frame came from. -/
def UpPort.toPort : UpPort → Port
  | .b => .b | .l => .l | .p => .p

/-- Route action codes (R39). -/
def Action.code : Action → Nat
  | .forward => 0 | .tap => 1 | .consume => 2 | .drop => 3

/-- The action of a code (R41). -/
def Action.ofCode : Nat → Option Action
  | 0 => some .forward | 1 => some .tap | 2 => some .consume | 3 => some .drop | _ => none

/-- Queue indexes (R25). -/
def QueueId.code : QueueId → Nat
  | .q0 => 0 | .q1 => 1 | .q2 => 2 | .q3 => 3 | .qd => 4

/-- The queue of an index (R26). -/
def QueueId.ofCode : Nat → Option QueueId
  | 0 => some .q0 | 1 => some .q1 | 2 => some .q2 | 3 => some .q3 | 4 => some .qd | _ => none

/-- A host-bound queue among the five. -/
def HostQueue.id : HostQueue → QueueId
  | .q1 => .q1 | .q2 => .q2 | .q3 => .q3

/-- The host-bound queue of a queue field, 1..3 (R39). -/
def HostQueue.ofCode : Nat → Option HostQueue
  | 1 => some .q1 | 2 => some .q2 | 3 => some .q3 | _ => none

/-- The queue field of a route, 0 when it has none (R39). -/
def queueField : Option HostQueue → Nat
  | none => 0
  | some q => q.id.code

/-- Overflow policy codes (R169, R170). -/
def OverflowPolicy.code : OverflowPolicy → Nat
  | .dropOld => 0 | .dropNew => 1

/-- The policy of a code (R26). -/
def OverflowPolicy.ofCode : Nat → Option OverflowPolicy
  | 0 => some .dropOld | 1 => some .dropNew | _ => none

/-- Symbol type codes (R3). -/
def SymbolType.code : SymbolType → Nat
  | .ack => 1 | .nak => 2 | .halt => 3

/-- The symbol type of a code (R3). -/
def SymbolType.ofCode : Nat → Option SymbolType
  | 1 => some .ack | 2 => some .nak | 3 => some .halt | _ => none

/-- Log reason codes (R170). -/
def LogReason.code : LogReason → Nat
  | .crc => 0 | .header => 1 | .notAttached => 2 | .undeclared => 3 | .kindMismatch => 4
  | .overlength => 5 | .badDest => 6 | .mgmtOverrun => 7

/-- Posture codes, which also number the policy rows (R75). -/
def Posture.code : Posture → Fin 8
  | .unknown => 0 | .detached => 1 | .closed => 2 | .laptop => 3 | .flat => 4 | .stand => 5
  | .tent => 6 | .tablet => 7

/-- The posture of a code (R75). -/
def Posture.ofCode : Nat → Option Posture
  | 0 => some .unknown | 1 => some .detached | 2 => some .closed | 3 => some .laptop
  | 4 => some .flat | 5 => some .stand | 6 => some .tent | 7 => some .tablet | _ => none

/-- Base face codes (R94). -/
def Face.code : Face → Nat
  | .up => 0 | .edge => 1 | .down => 2

/-- Orientation codes (R86). -/
def Orientation.code : Orientation → Nat
  | .rot0 => 0 | .rot90 => 1 | .rot180 => 2 | .rot270 => 3

/-- Rotation mode of a code (R92). -/
def RotationMode.ofCode : Nat → Option RotationMode
  | 0 => some .free | 1 => some .lock0 | 2 => some .hold | _ => none

/-- Lid condition codes (R77). -/
def LidCondition.code : LidCondition → Nat
  | .any => 0 | .asserted => 1 | .released => 2

/-- Lid condition of a code (R77). -/
def LidCondition.ofCode : Nat → Option LidCondition
  | 0 => some .any | 1 => some .asserted | 2 => some .released | _ => none

/-- The axis of a source code (R59). -/
def Axis.ofCode : Nat → Option Axis
  | 0 => some .x | 1 => some .y | 2 => some .z | _ => none

/-- Link state codes (R111). -/
def LinkState.code : LinkState → Nat
  | .detached => 0 | .contact => 1 | .identify => 2 | .attached => 3 | .suspect => 4 | .rejected => 5

/-- The two states in which the base's traffic is admitted (R111). -/
def LinkState.attachedOrSuspect : LinkState → Bool
  | .attached | .suspect => true
  | _ => false

/-- The kind a descriptor declares (R9). -/
def DeclaredKind.kind : DeclaredKind → Kind
  | .data => .data | .keys => .keys | .point => .point | .sample => .sample

/-- The declared kind of a code 0..3 (R9). -/
def DeclaredKind.ofCode : Nat → Option DeclaredKind
  | 0 => some .data | 1 => some .keys | 2 => some .point | 3 => some .sample | _ => none

/-- Teardown cause codes (R125). -/
def TeardownCause.code : TeardownCause → Nat
  | .none => 0 | .presence => 1 | .silence => 2 | .reident => 3

/-- Reject reason codes (R125). -/
def RejectReason.code : RejectReason → Nat
  | .none => 0 | .shape => 1 | .cls => 2 | .noAnswer => 3

/-- Session state codes (R144). -/
def Session.code : Session → Nat
  | .off => 0 | .scan => 1 | .probe => 2 | .charging => 3 | .topped => 4 | .hold => 5 | .fault => 6
  | .cooldown => 7 | .lockout => 8

/-- Last fault cause codes (R153). -/
def FaultCause.code : FaultCause → Nat
  | .none => 0 | .error => 1 | .temperature => 2

/-- Host power state codes (R163). -/
def HostPower.code : HostPower → Nat
  | .active => 0 | .standby => 1 | .off => 2

/-- The host power state of a code (R163). -/
def HostPower.ofCode : Nat → Option HostPower
  | 0 => some .active | 1 => some .standby | 2 => some .off | _ => none

/-- Vote state codes (R156). -/
def Vote.code : Vote → Nat
  | .awake => 0 | .pending => 1 | .requested => 2 | .asleep => 3 | .waking => 4

/-- Sleep reason codes (R162). -/
def SleepReason.code : SleepReason → Nat
  | .none => 0 | .closed => 1 | .idle => 2

/-- Last reset codes (R171). -/
def LastReset.code : LastReset → Nat
  | .powerOn => 0 | .soft => 1

/-- Cause numbers (R173). -/
def causeIndex : EventCause → Fin 16
  | .attach => 0 | .detach => 1 | .suspect => 2 | .reject => 3 | .grantLimited => 4 | .penFound => 5
  | .penRemoved => 6 | .chargeDone => 7 | .chargeFault => 8 | .chargeLockout => 9
  | .sleepRequest => 10 | .sleepWithdrawn => 11 | .wake => 12 | .log => 13 | .downFail => 14
  | .queueDrop => 15

/-- The causes in ascending number (R173). -/
def allCauses : List EventCause :=
  [.attach, .detach, .suspect, .reject, .grantLimited, .penFound, .penRemoved, .chargeDone,
   .chargeFault, .chargeLockout, .sleepRequest, .sleepWithdrawn, .wake, .log, .downFail, .queueDrop]

/-- The number of LID_OPEN among the wake sources (R164). -/
def lidOpenIndex : Nat := 0

/-- The number of POSTURE among the wake sources (R164). -/
def postureSourceIndex : Nat := 3

/-- The numbers of the other wake sources (R164). -/
def edgeIndex : EdgeSource → Nat
  | .key => 1 | .point => 2 | .attach => 4 | .detach => 5 | .penOut => 6 | .chargeDone => 7

end Sys2Proof.Machine
end

