-- ==== Sys2Proof/Machine/Operands.lean ====
section
/-! DEFINITION. The operands of the management commands: the values the argument bytes stand for, with their
range checks, each none or a status where a check fails (R26, R39 to R45, R59, R72, R77, R92, R123, R124,
R136, R139, R143, R168, R169). -/

namespace Sys2Proof.Machine

/-- Response statuses (R168). -/
inductive Status
  | ok | badCommand | badLength | badIndex | badValue | busy
  deriving DecidableEq, Repr

/-- Status codes (R168). -/
def Status.code : Status → Nat
  | .ok => 0 | .badCommand => 1 | .badLength => 2 | .badIndex => 3 | .badValue => 4 | .busy => 5

/-- A byte that must be 0 or 1: clear options, locks, enables, signs (R59, R90, R145, R169). -/
def flagOf (b : Byte) : Option Bool :=
  if b.toNat = 0 then some false else if b.toNat = 1 then some true else none

/-- A byte that must be below a bound: an index, a level, a band, a channel. -/
def finOf (n : Nat) (b : Byte) : Option (Fin n) := if h : b.toNat < n then some ⟨b.toNat, h⟩ else none

/-- A value is within its range, both ends included. -/
def inRange (low high v : Nat) : Bool := decide (low ≤ v) && decide (v ≤ high)

/-! ### Routes -/

/-- The kind argument of a route on a port: ANY, or a kind accepted on it and routable (R41, check 5). -/
def routeKindOf (port : UpPort) (b : Byte) : Option (Option Kind) :=
  if b.toNat = 15 then some none
  else
    match port, Kind.ofCode b.toNat with
    | .b, some .data => some (some .data)
    | .b, some .keys => some (some .keys)
    | .b, some .point => some (some .point)
    | .b, some .sample => some (some .sample)
    | .l, some .sample => some (some .sample)
    | .p, some .pen => some (some .pen)
    | _, _ => none

/-- The span argument: 1, 2, 4, 8 or 16 (R41, check 4). -/
def spanOf (b : Byte) : Option Nat :=
  if b.toNat = 1 ∨ b.toNat = 2 ∨ b.toNat = 4 ∨ b.toNat = 8 ∨ b.toNat = 16 then some b.toNat else none

/-- The queue of an action: none stored for CONSUME and DROP, a host-bound queue for FORWARD and TAP (R41,
check 7; R45). -/
def actionQueueOf (a : Action) (b : Byte) : Option (Option HostQueue) :=
  match a with
  | .consume | .drop => some none
  | .forward | .tap => (HostQueue.ofCode b.toNat).map some

/-- A route that may name a gate class (R41, check 8). -/
def gateAllowed (port : UpPort) (kind : Option Kind) (a : Action) : Bool :=
  port == .b && a == .forward && (kind == none || kind == some .keys || kind == some .point)

/-- The gate class argument: NONE, or a class on a route that may name one (R41, check 8). -/
def gateClassOf (port : UpPort) (kind : Option Kind) (a : Action) (b : Byte) : Option (Option GateClass) :=
  if b.toNat = 15 then some none
  else if gateAllowed port kind a then (finOf 8 b).map some
  else none

/-- The stored channel base: rounded down to a multiple of the span (R40). -/
def alignBase (base span : Nat) : Nat := base / span * span

/-- The route seven arguments describe, none where a check of R41, 2 to 8, fails (R40, R41). -/
def routeOf (port base span kind action queue gate : Byte) : Option Route :=
  match UpPort.ofCode port.toNat, finOf 16 base, spanOf span, Action.ofCode action.toNat with
  | some p, some b, some n, some a =>
    match routeKindOf p kind, actionQueueOf a queue with
    | some k, some q =>
      match gateClassOf p k a gate with
      | some g =>
        some { valid := true, port := p, base := alignBase b.val n, span := n, kind := k, action := a
               queue := q, gate := g, matchCount := 0 }
      | none => none
    | _, _ => none
  | _, _, _, _ => none

/-! ### Posture tables -/

/-- The Posture Table entry that nine arguments describe, none where a check of R77, 2 to 6, fails. -/
def postureEntryOf (code low0 low1 high0 high1 hysteresis faces lid dwell : Byte) : Option PostureEntry :=
  let low := nat16 low0 low1
  let high := nat16 high0 high1
  match Posture.ofCode code.toNat, LidCondition.ofCode lid.toNat with
  | some p, some l =>
    if inRange 2 7 code.toNat && decide (low ≤ 4095) && decide (high ≤ 4095) && decide (low ≤ high)
        && inRange 1 7 faces.toNat && inRange 1 64 dwell.toNat then
      some { valid := true, posture := p, low := low, high := high, hysteresis := hysteresis.toNat
             faces := faces.setWidth 3, lid := l, dwell := dwell.toNat }
    else none
  | _, _ => none

/-- The sleep action and its delay: with NONE the delay is not examined (R92, checks 4 and 5). -/
def sleepActionOf (action : Byte) (delay : Nat) : Option (Option Nat) :=
  match flagOf action with
  | some false => some none
  | some true => if delay ≤ 60000 then some (some delay) else none
  | none => none

/-- The policy row that ten arguments describe, none where a check of R92, 2 to 6, fails. -/
def policyRowOf (mask mode cap action d0 d1 t0 t1 t2 t3 : Byte) : Option PolicyRow :=
  let timeout := nat32 t0 t1 t2 t3
  match RotationMode.ofCode mode.toNat, finOf 8 cap, sleepActionOf action (nat16 d0 d1) with
  | some m, some c, some d =>
    if timeout = 0 ∨ inRange 1000 3600000 timeout then
      some { gateMask := mask, rotation := m, chargeCap := c, sleepDelay := d, idleTimeout := timeout }
    else none
  | _, _, _ => none

/-- One axis term: a source and a sign (R59). -/
def axisTermOf (source sign : Byte) : Option AxisTerm :=
  match Axis.ofCode source.toNat, flagOf sign with
  | some a, some n => some { source := a, negated := n }
  | _, _ => none

/-- The three source axes of a record are all different (R58, R59). -/
def AxisRecord.distinct (r : AxisRecord) : Bool :=
  r.x.source != r.y.source && r.x.source != r.z.source && r.y.source != r.z.source

/-- The axis record that six arguments describe, none where a check of R59, 2 or 3, fails. -/
def axisRecordOf (sx nx sy ny sz nz : Byte) : Option AxisRecord :=
  match axisTermOf sx nx, axisTermOf sy ny, axisTermOf sz nz with
  | some x, some y, some z =>
    let r : AxisRecord := { x := x, y := y, z := z }
    if r.distinct then some r else none
  | _, _, _ => none

/-- The ten Angle Parameters are within their ranges, Max not below Min (R71, R72). -/
def AngleParams.valid (p : AngleParams) : Bool :=
  decide (p.hingeOffset ≤ 4095) && inRange 16 1024 p.wrapBand && inRange 128 1023 p.baseFaceBand
    && decide (p.rotHysteresis ≤ 511) && inRange 1 64 p.rotDwell && inRange 1 64 p.unmatchedDwell
    && inRange 5 500 p.baseFreshness && decide (p.minProjection ≤ p.maxProjection)

/-! ### Link, rail and charge -/

/-- The timing parameters are within their ranges (R124). -/
def LinkTiming.valid (t : LinkTiming) : Bool :=
  inRange 10 500 t.contactDebounce && inRange 50 2000 t.identTimeout && inRange 20 1000 t.aliveWindow

/-- The level written by WRITE_DRIVE_LEVEL: 1..7 (R136, check 2). -/
def driveLevelOf (b : Byte) : Option Level := if b.toNat = 0 then none else finOf 8 b

/-- The charge parameters are within their ranges, the two caps aside (R143). -/
def ChargeParams.valid (p : ChargeParams) : Bool :=
  inRange 100 10000 p.pingInterval && inRange 5 200 p.probeWindow && inRange 100 10000 p.penSilence
    && decide (20 ≤ p.faultTemp) && decide (p.faultTemp ≤ 100) && inRange 1000 600000 p.cooldown
    && inRange 1000 3600000 p.topUp && inRange 50 100 p.resume

/-! ### Queues -/

/-- The smallest limit of a queue (R25). -/
def QueueId.leastLimit : QueueId → Nat
  | .q0 => 2
  | _ => 1

/-- The policy SET_QUEUE stores: none for Q0, whose argument is not examined (R26). -/
def policyOf (q : QueueId) (b : Byte) : Option (Option OverflowPolicy) :=
  match q with
  | .q0 => some none
  | _ => (OverflowPolicy.ofCode b.toNat).map some

/-- The queue FLUSH_QUEUE names: Q1, Q2, Q3 or QD (R37). -/
def flushableOf (b : Byte) : Option QueueId :=
  match QueueId.ofCode b.toNat with
  | some .q0 => none
  | r => r

end Sys2Proof.Machine
end

