-- ==== Sys2Proof/Machine/Flags.lean ====
section
/-! DEFINITION. The event flags and the ATTN line (R173, R175), as masks with bit n for cause n. -/

namespace Sys2Proof.Machine

/-- The bit of a cause in a mask (R173). -/
def hasCause (m : BitVec 16) (c : EventCause) : Bool := m.getLsbD (causeIndex c).val

/-- A mask with the bit of a cause set or cleared. -/
def setCause (m : BitVec 16) (c : EventCause) (b : Bool) : BitVec 16 := setBit m (causeIndex c).val b

/-- ATTN is asserted exactly when at least one enabled event flag is set (R173). -/
def attnOf (flags enables : BitVec 16) : Bool := flags &&& enables != 0

/-- The Management Unit with ATTN recomputed (R173). -/
def Mgmt.refreshAttn (m : Mgmt) : Mgmt := { m with attn := attnOf m.flags m.enables }

/-- A STATE or NOTE frame is owed (R32). -/
def Mgmt.owesFrame (m : Mgmt) : Bool := m.owedState || m.owedNotices != 0

/-- The bit of a wake source in a mask (R164). -/
def hasSource (m : BitVec 8) (i : Nat) : Bool := m.getLsbD i

/-- The gate of a class: open while its bit is set (R97). -/
def gateOf (gates : BitVec 8) (c : GateClass) : Bool := gates.getLsbD c.val

end Sys2Proof.Machine
end

