-- ==== Sys2Proof/Machine/Frames.lean ====
section
/-! DEFINITION. The frame format: building frames, the frame check, the header check (R2 to R6). -/

namespace Sys2Proof.Machine

/-- The eight shifts of one byte of the frame check, `n` of them still to make (R4). -/
def crcShifts : Nat → Half → Half
  | 0, c => c
  | n + 1, c =>
    crcShifts n (if c.msb then (c <<< (1 : Nat)) ^^^ Config.crcConstant else c <<< (1 : Nat))

/-- The running value after one more byte (R4). -/
def crcByte (c : Half) (b : Byte) : Half := crcShifts 8 (c ^^^ (b.setWidth 16 <<< (8 : Nat)))

/-- The frame check of a header and payload (R4). -/
def frameCheck (bytes : List Byte) : Half := bytes.foldl crcByte Config.crcStart

/-- The three header bytes (R2). -/
def headerBytes (kind : Kind) (channel : Chan) (dest : Node) (toggle : Bool) (length : Nat) : List Byte :=
  [byteNat (kind.code * 16 + channel.val),
   byteNat (dest.val * 32 + (if toggle then 16 else 0)),
   byteNat length]

/-- A header and payload closed by their frame check, high byte first (R2, R4). -/
def closeFrame (body : List Byte) : List Byte :=
  body ++ [highByte (frameCheck body), lowByte (frameCheck body)]

/-- A whole frame as it is sent (R2). -/
def buildFrame (kind : Kind) (channel : Chan) (dest : Node) (toggle : Bool) (payload : List Byte) :
    List Byte :=
  closeFrame (headerBytes kind channel dest toggle payload.length ++ payload)

/-- A part-originated frame for the host: channel 0, destination 1, toggle 0 (R5). -/
def hostFrame (kind : Kind) (payload : List Byte) : List Byte := buildFrame kind 0 1 false payload

/-- A part-originated frame for the base: channel 0, destination 2, toggle 0 (R5). -/
def baseFrame (kind : Kind) (payload : List Byte) : List Byte := buildFrame kind 0 2 false payload

/-- The symbol byte the part sends (R3). -/
def symbolByte (t : SymbolType) (c : Chan) : Byte := byteNat (t.code * 16 + c.val)

/-- What the staging frame keeps of a unit (R3). -/
def stage (unit : List Byte) : List Byte := unit.take Config.frameCapacity

/-- Byte `i` of a unit, 0 where the unit does not reach it (R54). -/
def unitByte (unit : List Byte) (i : Nat) : Byte := unit.getD i 0

/-- Bits 7-4 of byte 0 (R2). -/
def kindField (unit : List Byte) : Nat := (unitByte unit 0).toNat / 16

/-- Bits 3-0 of byte 0 (R2). -/
def channelField (unit : List Byte) : Chan := Fin.ofNat 16 ((unitByte unit 0).toNat % 16)

/-- Bits 7-5 of byte 1 (R2). -/
def destField (unit : List Byte) : Node := Fin.ofNat 8 ((unitByte unit 1).toNat / 32)

/-- Bit 4 of byte 1 (R2). -/
def toggleField (unit : List Byte) : Bool := (unitByte unit 1).getLsbD 4

/-- Bits 3-0 of byte 1 (R2). -/
def zeroField (unit : List Byte) : Nat := (unitByte unit 1).toNat % 16

/-- Byte 2 (R2). -/
def lengthField (unit : List Byte) : Nat := (unitByte unit 2).toNat

/-- The frame check of a completed unit: 5..37 bytes, the last two the check of all the others, high byte
first (R3, R4). -/
def frameCheckPasses (unit : List Byte) : Bool :=
  decide (5 ≤ unit.length) && decide (unit.length ≤ Config.frameCapacity)
    && (frameCheck (unit.take (unit.length - 2))
      == unitByte unit (unit.length - 2) ++ unitByte unit (unit.length - 1))

/-- The header check of a unit that passed the frame check, and the frame it holds (R6). -/
def headerCheck (port : Port) (unit : List Byte) : Option Frame :=
  match Kind.ofCode (kindField unit) with
  | none => none
  | some kind =>
    if zeroField unit = 0 ∧ lengthField unit ≤ Config.maxPayload
        ∧ lengthField unit + 5 = unit.length ∧ port.accepts kind = true then
      some { kind := kind, channel := channelField unit, dest := destField unit,
             toggle := toggleField unit, payload := (unit.drop 3).take (lengthField unit), raw := unit }
    else none

end Sys2Proof.Machine
end

