-- ==== Sys2Proof/Machine/Records.lean ====
section
/-! DEFINITION. The records as bytes: the Posture Record of STATE frames (R94) and the notice bodies
(R174). -/

namespace Sys2Proof.Machine

/-- An optional index as one byte, 255 for none (R94). -/
def indexByte (i : Option Nat) : Byte := byteNat (i.getD 255)

/-- The Posture Record in its 11-byte form (R94). -/
def postureRecord (p : PostureEngine) : List Byte :=
  [byteNat p.posture.code.val, indexByte (p.entry.map Fin.val)] ++ le16Nat p.hinge
    ++ [maskByte [p.hingeValid, p.lidsw, p.degenerate, p.motion, p.stale, p.flat],
        byteNat p.face.code, byteNat p.orientation.code]
    ++ le16 p.changeCount ++ le16 p.changeTime

/-- The STATE frame, built from the Posture Record as it stands (R95). -/
def stateFrame (s : State) : List Byte := hostFrame .state (postureRecord s.posture)

/-- The log fields READ_LOG and the LOG notice show: zeros while the valid flag is clear (R56). -/
def ErrorLog.shown (l : ErrorLog) : ErrorLog := if l.valid then l else { overflow := l.overflow }

/-- The notice body of the five charge causes (R142, R174). -/
def chargeBody (s : State) : List Byte :=
  [byteNat s.charge.session.code] ++ le16 s.charge.pen.id
    ++ [byteNat s.charge.pen.battery, s.charge.pen.temperature]

/-- The notice body of the two sleep causes (R162, R174). -/
def sleepBody (s : State) : List Byte :=
  [byteNat s.power.vote.code, byteNat s.power.reason.code, byteNat s.posture.posture.code.val,
   byteNat s.power.host.code]

/-- The notice body of a cause, from the state as it stands at emission (R174). -/
def noticeBody (c : EventCause) (s : State) : List Byte :=
  match c with
  | .attach =>
    [s.link.record.cls, s.link.record.revision, s.link.record.layout,
     byteNat s.link.record.requestedLoad, byteNat s.link.record.loadCap,
     byteNat s.link.record.descriptors.length]
  | .detach => [byteNat s.link.lastTeardown.code, byteNat s.link.state.code]
  | .suspect => [byteNat s.link.state.code]
  | .reject => [byteNat s.link.lastReject.code, byteNat s.link.state.code]
  | .grantLimited =>
    [byteNat s.rail.grant, byteNat s.rail.pendingGrant, byteNat s.link.record.requestedLoad]
  | .penFound | .penRemoved | .chargeDone | .chargeFault | .chargeLockout => chargeBody s
  | .sleepRequest | .sleepWithdrawn => sleepBody s
  | .wake =>
    [s.power.cause, byteNat s.power.vote.code, byteNat s.power.host.code,
     byteNat s.posture.posture.code.val]
  | .log =>
    let l := s.classifier.log.shown
    [byteBool l.valid, byteNat l.reason.code, byteNat l.port.code, byteNat l.overflow]
  | .downFail => le16Nat s.bport.counters.downFailed ++ [byteNat s.pool.qd.items.length]
  | .queueDrop =>
    [byteNat s.pool.free.length, byteNat s.pool.q1.items.length, byteNat s.pool.q2.items.length,
     byteNat s.pool.q3.items.length, byteNat s.pool.qd.items.length]

/-- The NOTE frame of a cause: the cause number, the Time Count at emission and the notice body (R174). -/
def noteFrame (c : EventCause) (s : State) : List Byte :=
  hostFrame .note ([byteNat (causeIndex c).val] ++ le16 s.time ++ noticeBody c s)

end Sys2Proof.Machine
end

