-- ==== Sys2Proof/Machine/Ops.lean ====
section
/-! DEFINITION. The operations the blocks share: deliveries between blocks, the buffer pool and its
queues, part-originated frames on Q0, the Frame Error Log, and the two transmitters' looks for work. -/

namespace Sys2Proof.Machine

/-! ### Deliveries -/

/-- The cause a cap change is taken under (R141). -/
def CapEvent.cause : CapEvent → CapCause
  | .posture _ => .posture
  | .rail => .rail
  | .hostState => .hostState

/-- The sender of a cap change of each cause, and its receiver (R141). -/
def capRoute : CapCause → Block × Block
  | .posture => (.postureEngine, .chargeController)
  | .rail => (.railAllocator, .chargeController)
  | .hostState => (.powerPolicy, .chargeController)

/-- The sender and the receiver of a delivery. Deliveries of one sender to one receiver are taken in the
order they were made; all others are taken in either order (R34, R96, R117, R120, R121, R173; assumption
3). -/
def Delivery.route : Delivery → Block × Block
  | .presenceRead => (.linkMonitor, .linkMonitor)
  | .owedEmission => (.sTransmitter, .management)
  | .itemRetry => (.queueManager, .bTransmitter)
  | .releaseRetry _ => (.sTransmitter, .keyFilter)
  | .liftRetry _ => (.sTransmitter, .padFilter)
  | .gateUpdate _ _ => (.postureEngine, .inputGate)
  | .inputGateTeardown => (.linkMonitor, .inputGate)
  | .postureAdmission => (.linkMonitor, .postureEngine)
  | .postureTeardown => (.linkMonitor, .postureEngine)
  | .toggleAndHaltReset => (.linkMonitor, .bReceiver)
  | .transmitterTeardown => (.linkMonitor, .bTransmitter)
  | .admissionGrant => (.linkMonitor, .railAllocator)
  | .railTeardown => (.linkMonitor, .railAllocator)
  | .capChange e => capRoute e.cause
  | .powerPostureChange _ _ _ => (.postureEngine, .powerPolicy)
  | .powerPolicyEvent _ _ => (.postureEngine, .powerPolicy)
  | .activity .key => (.keyFilter, .powerPolicy)
  | .activity .pad => (.padFilter, .powerPolicy)
  | .wakeSource .key => (.keyFilter, .powerPolicy)
  | .wakeSource .point => (.padFilter, .powerPolicy)
  | .wakeSource .attach => (.linkMonitor, .powerPolicy)
  | .wakeSource .detach => (.linkMonitor, .powerPolicy)
  | .wakeSource .penOut => (.chargeController, .powerPolicy)
  | .wakeSource .chargeDone => (.chargeController, .powerPolicy)
  | .event .attach => (.linkMonitor, .management)
  | .event .detach => (.linkMonitor, .management)
  | .event .suspect => (.linkMonitor, .management)
  | .event .reject => (.linkMonitor, .management)
  | .event .grantLimited => (.railAllocator, .management)
  | .event .penFound => (.chargeController, .management)
  | .event .penRemoved => (.chargeController, .management)
  | .event .chargeDone => (.chargeController, .management)
  | .event .chargeFault => (.chargeController, .management)
  | .event .chargeLockout => (.chargeController, .management)
  | .event .sleepRequest => (.powerPolicy, .management)
  | .event .sleepWithdrawn => (.powerPolicy, .management)
  | .event .wake => (.powerPolicy, .management)
  | .event .log => (.classifier, .management)
  | .event .downFail => (.bTransmitter, .management)
  | .event .queueDrop => (.queueManager, .management)
  | .stateRequest => (.postureEngine, .management)

/-- A delivery is made: it joins the deliveries not yet taken. -/
def post (d : Delivery) (s : State) : State := s.setDeliveries (s.deliveries ++ [d])

/-- Several deliveries are made, in order. -/
def postAll (ds : List Delivery) (s : State) : State := s.setDeliveries (s.deliveries ++ ds)

/-- An event is delivered to the Management Unit (R173). -/
def deliver (c : EventCause) (s : State) : State := post (.event c) s

/-- The oldest delivery on a route is taken if `select` accepts it; the others keep their order. -/
def takeNext {α : Type} (route : Block × Block) (select : Delivery → Option α) :
    List Delivery → Option (α × List Delivery)
  | [] => none
  | d :: ds =>
    if d.route = route then (select d).map (fun a => (a, ds))
    else (takeNext route select ds).map (fun r => (r.1, d :: r.2))

/-- The step of taking a delivery: `act` on what was delivered, with the delivery gone. Where no such
delivery is next on its route, the event does not occur and nothing changes (assumption 3). -/
def taking {α : Type} (route : Block × Block) (select : Delivery → Option α) (act : α → State → State)
    (s : State) : State :=
  match takeNext route select s.deliveries with
  | none => s
  | some (a, ds) => act a (s.setDeliveries ds)

/-- Takes one particular delivery. -/
def takingOne (d : Delivery) (act : State → State) (s : State) : State :=
  taking d.route (fun e => if e = d then some () else none) (fun _ => act) s

/-! ### The buffer pool -/

/-- One of the five queues. -/
def Pool.queue (p : Pool) : QueueId → Queue
  | .q0 => p.q0
  | .q1 => p.q1
  | .q2 => p.q2
  | .q3 => p.q3
  | .qd => p.qd

/-- The pool with one of its queues replaced. -/
def Pool.setQueue (p : Pool) (q : QueueId) (v : Queue) : Pool :=
  match q with
  | .q0 => { p with q0 := v }
  | .q1 => { p with q1 := v }
  | .q2 => { p with q2 := v }
  | .q3 => { p with q3 := v }
  | .qd => { p with qd := v }

/-- A queue after an index joined its tail (R38: placed, peak length). -/
def Queue.push (v : Queue) (i : BufIdx) : Queue :=
  { v with
    items := v.items ++ [i]
    peak := max v.peak (v.items.length + 1)
    counters := { v.counters with placed := satInc v.counters.placed } }

/-- The head of the Free List receives a frame and joins the tail of a queue (R28, R29, R32). -/
def Pool.join (p : Pool) (q : QueueId) (frame : List Byte) : Option (BufIdx × Pool) :=
  match p.free with
  | [] => none
  | i :: rest =>
    some (i, ({ p with free := rest, bufs := p.bufs.set i frame }).setQueue q ((p.queue q).push i))

/-- An eviction or a recycling: the head of a queue receives a frame and joins the tail (R28). -/
def Pool.recycle (p : Pool) (q : QueueId) (frame : List Byte) : Option Pool :=
  match (p.queue q).items with
  | [] => none
  | i :: rest =>
    some (({ p with bufs := p.bufs.set i frame }).setQueue q
      { p.queue q with
        items := rest ++ [i]
        counters := { (p.queue q).counters with
          placed := satInc (p.queue q).counters.placed
          evicted := satInc (p.queue q).counters.evicted } })

/-- How a placement ended (R28). -/
inductive Placement
  | placed | full | noBuffer
  deriving DecidableEq, Repr

/-- Placement of a received frame: the table of R28. -/
def Pool.placeReceived (p : Pool) (q : QueueId) (frame : List Byte) : Placement × Pool :=
  let v := p.queue q
  if v.limit ≤ v.items.length then
    if v.policy = some .dropOld then
      match p.recycle q frame with
      | some p' => (.placed, p')
      | none => (.full, p)
    else (.full, p)
  else if Config.reserve < p.free.length then
    match p.join q frame with
    | some (_, p') => (.placed, p')
    | none => (.noBuffer, p)
  else if v.policy = some .dropOld then
    match p.recycle q frame with
    | some p' => (.placed, p')
    | none => (.noBuffer, p)
  else (.noBuffer, p)

/-- Placement of a synthetic frame on a gated route's queue: the table of R29; none where it failed. -/
def Pool.placeSynthetic (p : Pool) (q : HostQueue) (frame : List Byte) : Option Pool :=
  let v := p.queue q.id
  if v.limit ≤ v.items.length then
    if v.policy = some .dropOld then p.recycle q.id frame else none
  else
    match p.join q.id frame with
    | some (_, p') => some p'
    | none => if v.policy = some .dropOld then p.recycle q.id frame else none

/-- Q0 has room: its length is below its limit and the Free List is non-empty (R30). -/
def Pool.hasRoom (p : Pool) : Bool := decide (p.q0.items.length < p.q0.limit) && !p.free.isEmpty

/-- A buffer joins the tail of the Free List (R34). -/
def Pool.release (p : Pool) (i : BufIdx) : Pool := { p with free := p.free ++ [i] }

/-- The head of a queue is taken by a transmitter (R20, R35). -/
def Pool.takeHead (p : Pool) (q : QueueId) : Option (BufIdx × Pool) :=
  match (p.queue q).items with
  | [] => none
  | i :: rest =>
    some (i, p.setQueue q
      { p.queue q with
        items := rest
        counters := { (p.queue q).counters with sent := satInc (p.queue q).counters.sent } })

/-- Every buffer of a queue moves to the tail of the Free List, head first (R37). -/
def Pool.flush (p : Pool) (q : QueueId) : Pool :=
  let v := p.queue q
  ({ p with free := p.free ++ v.items }).setQueue q
    { v with
      items := []
      counters := { v.counters with flushed := satAdd v.counters.flushed v.items.length } }

/-- The pool after a soft reset: Free List rebuilt, queues emptied, counters and peaks zeroed, limits,
policies and buffer contents kept (R24, R31, R38). -/
def Pool.softReset (p : Pool) : Pool :=
  { p with
    free := List.finRange 48
    q0 := { limit := p.q0.limit, policy := p.q0.policy }
    q1 := { limit := p.q1.limit, policy := p.q1.policy }
    q2 := { limit := p.q2.limit, policy := p.q2.policy }
    q3 := { limit := p.q3.limit, policy := p.q3.policy }
    qd := { limit := p.qd.limit, policy := p.qd.policy } }

/-! ### Retry and emission occasions -/

/-- A retry occasion concerns a pending synthetic frame: a buffer is available, or its queue was dequeued
(R104). -/
def RetryOccasion.concerns (o : RetryOccasion) (w : Option PendingSynthetic) : Bool :=
  match w, o with
  | none, _ => false
  | some _, .bufferAvailable => true
  | some w, .dequeue q => w.queue == q

/-- A retry occasion for the Input Gate: delivered to each filter whose pending synthetic frame waits for
it (R34, R35, R37, R104, R108). -/
def postRetries (o : RetryOccasion) (s : State) : State :=
  postAll ((if o.concerns s.gate.key.pending then [.releaseRetry o] else [])
    ++ (if o.concerns s.gate.pad.pending then [.liftRetry o] else [])) s

/-- A buffer-available event, delivered to each block that has a frame waiting (R34). -/
def bufferAvailable (s : State) : State :=
  postRetries .bufferAvailable
    (postAll ((if s.bport.pendingIdent || s.bport.pendingGrant.isSome then [.itemRetry] else [])
      ++ (if s.mgmt.owesFrame then [.owedEmission] else [])) s)

/-- A buffer is released to the Free List (R34). -/
def releaseBuffer (i : BufIdx) (s : State) : State := bufferAvailable (s.setPool (s.pool.release i))

/-- A dequeue from a host-bound queue (R33, R35, R37). -/
def dequeued (q : QueueId) (s : State) : State :=
  match q with
  | .q0 => if s.mgmt.owesFrame then post .owedEmission s else s
  | .q1 => postRetries (.dequeue .q1) s
  | .q2 => postRetries (.dequeue .q2) s
  | .q3 => postRetries (.dequeue .q3) s
  | .qd => s

/-! ### Placement -/

/-- A queue's counters after a refusal (R28, R38). -/
def countRefusal (v : Queue) (r : Placement) : Queue :=
  match r with
  | .placed => v
  | .full => { v with counters := { v.counters with refused := satInc v.counters.refused } }
  | .noBuffer => { v with counters := { v.counters with noBuffer := satInc v.counters.noBuffer } }

/-- Placement of a received frame. A refusal is counted and delivers QUEUE_DROP (R28). The Bool says
placed. -/
def placeReceived (q : QueueId) (frame : List Byte) (s : State) : Bool × State :=
  match s.pool.placeReceived q frame with
  | (.placed, p) => (true, s.setPool p)
  | (r, p) => (false, deliver .queueDrop (s.setPool (p.setQueue q (countRefusal (p.queue q) r))))

/-- A frame built by the Management Unit joins Q0; nothing where the Free List is empty (R32). -/
def placeOnQ0 (frame : List Byte) (s : State) : State :=
  match s.pool.join .q0 frame with
  | some (_, p) => s.setPool p
  | none => s

/-- A STATE frame is placed and counted (R32, R176). -/
def placeState (s : State) : State :=
  let t := placeOnQ0 (stateFrame s) s
  t.setMgmt { t.mgmt with counters := { t.mgmt.counters with
    stateReports := satInc t.mgmt.counters.stateReports } }

/-- A NOTE frame is placed and counted (R32, R176). The frame is built before its buffer is taken, so that the
Free List length in a QUEUE_DROP notice counts the buffer the notice itself takes (R32, R174; DESIGN CHOICE,
assumption 30). -/
def placeNote (c : EventCause) (s : State) : State :=
  let t := placeOnQ0 (noteFrame c s) s
  t.setMgmt { t.mgmt with counters := { t.mgmt.counters with
    notices := satInc t.mgmt.counters.notices } }

/-- One more frame became owed (R32, R38). -/
def countOwed (s : State) : State :=
  s.setPool { s.pool with q0 := { s.pool.q0 with counters :=
    { s.pool.q0.counters with owed := satInc s.pool.q0.counters.owed } } }

/-- A requested STATE frame is placed, or becomes owed where Q0 has no room or a frame is owed (R32). -/
def requestState (s : State) : State :=
  if s.pool.hasRoom && !s.mgmt.owesFrame then placeState s
  else if s.mgmt.owedState then s
  else countOwed (s.setMgmt { s.mgmt with owedState := true })

/-- A NOTE frame is requested: placed, or its cause joins the owed-notice set (R32). -/
def requestNote (c : EventCause) (s : State) : State :=
  if s.pool.hasRoom && !s.mgmt.owesFrame then placeNote c s
  else countOwed (s.setMgmt { s.mgmt with owedNotices := setCause s.mgmt.owedNotices c true })

/-- Owed notices of these causes are placed in order, until one finds no room (R33). -/
def emitNotices : List EventCause → State → State
  | [], s => s
  | c :: cs, s =>
    if hasCause s.mgmt.owedNotices c then
      if s.pool.hasRoom then
        emitNotices cs
          (placeNote c (s.setMgmt { s.mgmt with owedNotices := setCause s.mgmt.owedNotices c false }))
      else s
    else emitNotices cs s

/-- The emission at an occasion: the owed STATE frame first, then owed notices in ascending cause number,
while Q0 has room (R33). -/
def emitOwed (s : State) : State :=
  if s.mgmt.owedState then
    if s.pool.hasRoom then
      emitNotices allCauses (placeState (s.setMgmt { s.mgmt with owedState := false }))
    else s
  else emitNotices allCauses s

/-! ### The Frame Error Log -/

/-- A frame error is reported: it fills a clear log and delivers LOG, or adds to the overflow count (R54,
R55). -/
def reportError (reason : LogReason) (port : Port) (unit : List Byte) (s : State) : State :=
  let c := s.classifier
  if c.log.valid then
    s.setClassifier { c with log := { c.log with overflow := min (c.log.overflow + 1) Config.overflowMax } }
  else
    deliver .log (s.setClassifier { c with log :=
      { valid := true, reason := reason, port := port
        kind := BitVec.ofNat 4 (kindField unit)
        channel := BitVec.ofNat 4 (channelField unit).val
        dest := BitVec.ofNat 3 (destField unit).val
        length := unitByte unit 2
        time := s.time
        overflow := c.log.overflow } })

/-! ### The S-port transmitter -/

/-- The first non-empty host-bound queue in the order Q0, Q1, Q2, Q3 (R35). -/
def Pool.firstWaiting (p : Pool) : Option QueueId :=
  [QueueId.q0, .q1, .q2, .q3].find? (fun q => !(p.queue q).items.isEmpty)

/-- The S-port transmitter looks for work (R35). -/
def sLook (s : State) : State :=
  if s.sport.sending.isNone && s.lines.hostReady then
    match s.pool.firstWaiting with
    | none => s
    | some q =>
      match s.pool.takeHead q with
      | none => s
      | some (i, p) => dequeued q ((s.setPool p).setSport { s.sport with sending := some i })
  else s

/-! ### The B-port transmitter -/

/-- A symbol becomes owed: it replaces its channel's symbol in the list, or joins the tail (R16; for the
symbol being sent, assumption 5). -/
def oweSymbol (t : SymbolType) (c : Chan) (s : State) : State :=
  let sym : OwedSymbol := { type := t, channel := c, started := false }
  let list := s.bport.owed
  let next :=
    if list.any (fun o => o.channel == c) then list.map (fun o => if o.channel = c then sym else o)
    else list ++ [sym]
  s.setBport { s.bport with owed := next }

/-- An IDENT_REQ is requested (R20). -/
def requestIdent (s : State) : State := s.setBport { s.bport with pendingIdent := true }

/-- A pending IDENT_REQ is cancelled (R20). -/
def cancelIdent (s : State) : State := s.setBport { s.bport with pendingIdent := false }

/-- A GRANT is requested: the value replaces a pending one (R20). -/
def requestGrant (v : Nat) (s : State) : State := s.setBport { s.bport with pendingGrant := some v }

/-- A frame the transmitter builds goes into the buffer at the head of the Free List and starts; none where
the Free List is empty (R20). -/
def startPartOriginated (frame : List Byte) (s : State) : Option State :=
  match s.pool.free with
  | [] => none
  | i :: rest =>
    some ((s.setPool { s.pool with free := rest, bufs := s.pool.bufs.set i frame }).setBport
      { s.bport with sending := .partOriginated i })

/-- The pending IDENT_REQ starts, if there is one and a buffer for it (R20). -/
def startIdent (s : State) : Option State :=
  if s.bport.pendingIdent then startPartOriginated (baseFrame .identReq []) (cancelIdent s) else none

/-- The pending GRANT starts, if there is one and a buffer for it (R20). -/
def startGrant (s : State) : Option State :=
  match s.bport.pendingGrant with
  | none => none
  | some v =>
    startPartOriginated (baseFrame .grant [byteNat v]) (s.setBport { s.bport with pendingGrant := none })

/-- The head of QD starts, if there is one and no downstream frame awaits its handshake (R20). -/
def startDownstream (s : State) : Option State :=
  if s.bport.awaiting.isSome then none
  else
    match s.pool.takeHead .qd with
    | none => none
    | some (i, p) =>
      some ((s.setPool p).setBport { s.bport with
        sending := .downstream i
        counters := { s.bport.counters with downSent := satInc s.bport.counters.downSent } })

/-- The head of the owed-symbol list starts (R16, R20). -/
def startSymbol (s : State) : Option State :=
  match s.bport.owed with
  | [] => none
  | o :: rest =>
    some (s.setBport { s.bport with
      owed := { o with started := true } :: rest
      sending := .symbol o.type o.channel })

/-- The B-port transmitter, not sending a unit, starts the first item that is waiting: the owed symbol, the
IDENT_REQ, the GRANT, the QD head (R20). An item that finds no buffer is passed over (assumption 6). -/
def bLook (s : State) : State :=
  match s.bport.sending with
  | .idle => ((((startSymbol s).or (startIdent s)).or (startGrant s)).or (startDownstream s)).getD s
  | _ => s

/-- A step from `s` to `t` gave the B-port transmitter an owed symbol or a GRANT; a deferred grant that completed
gave one, be it the value that was pending already (R16, R20, R131). The causes that one event alone can have, an
IDENT_REQ, the GRANT of an admission and a placement on QD, are looks in that event. -/
def bGiven (s t : State) : Bool :=
  (!t.bport.owed.isEmpty && t.bport.owed != s.bport.owed)
    || (t.bport.pendingGrant.isSome && (t.bport.pendingGrant != s.bport.pendingGrant
      || (s.rail.grantPending && !t.rail.grantPending)))

/-- The B-port transmitter's look at the end of another block's step from `s` to `t`: only if the step gave it
something. An IDENT_REQ or GRANT that found the Free List empty is not tried again by a step that gave nothing,
so that a released buffer is met in any order by the blocks that wait for one (R20, R34; assumption 22). -/
def bLookAfter (s t : State) : State := if bGiven s t then bLook t else t

/-- Both transmitters look for work at the end of another block's step from `s` to `t` (R20, R34, R35;
assumption 22). -/
def lookAfter (s t : State) : State := bLookAfter s (sLook t)

end Sys2Proof.Machine
end

