-- ==== Sys2Proof/Machine/Answers.lean ====
section
/-! DEFINITION. How the Management Unit answers a command: the response place, the execution, the filling and
the overrun (R30, R168), and the setting of an event flag (R173, R174). -/

namespace Sys2Proof.Machine

/-- What a command returns: its status, its data and the state it leaves (R168). -/
structure Answer where
  status : Status
  data : List Byte
  state : State
  deriving DecidableEq, Repr

/-- An answer OK with data (R168). -/
def okay (data : List Byte) (s : State) : Answer := { status := .ok, data := data, state := s }

/-- A refusal: no data and no effect (R168). -/
def refuse (st : Status) (s : State) : Answer := { status := st, data := [], state := s }

/-- The RESP frame of an answer (R168). -/
def respFrame (code : Byte) (st : Status) (data : List Byte) : List Byte :=
  hostFrame .resp ([code, byteNat st.code] ++ data)

/-- The counters of the Management Unit changed. -/
def countMgmt (f : MgmtCounters → MgmtCounters) (s : State) : State :=
  s.setMgmt { s.mgmt with counters := f s.mgmt.counters }

/-- The response buffer is filled and the command counted (R30, R176). -/
def complete (code : Byte) (i : BufIdx) (a : Answer) : State :=
  countMgmt (fun c => { c with
      commands := satInc c.commands
      notOk := if a.status = .ok then c.notOk else satInc c.notOk })
    (a.state.setPool { a.state.pool with
      bufs := a.state.pool.bufs.set i (respFrame code a.status a.data) })

/-- A MGMT frame that finds no room: logged and counted, not executed (R30). -/
def overrun (unit : List Byte) (s : State) : State :=
  reportError .mgmtOverrun .s unit (s.setPool { s.pool with q0 := { s.pool.q0 with counters :=
    { s.pool.q0.counters with overrun := satInc s.pool.q0.counters.overrun } } })

/-- A command with its response place taken first: placement, execution and filling in one event (R30,
R168). -/
def respond (code : Byte) (unit : List Byte) (run : State → Answer) (s : State) : State :=
  if s.pool.hasRoom then
    match s.pool.join .q0 [] with
    | some (i, p) => complete code i (run (s.setPool p))
    | none => overrun unit s
  else overrun unit s

/-- The MGMT frame of a command as its header fields were received (R54, R168). -/
def mgmtUnit (channel : Chan) (code : Byte) (args : List Byte) : List Byte :=
  buildFrame .mgmt channel 0 false (code :: args)

/-- An event delivered to the Management Unit: its flag is set, a NOTE requested when it was clear and
enabled, and ATTN recomputed (R173, R174). -/
def takeEvent (c : EventCause) (s : State) : State :=
  let fresh := !hasCause s.mgmt.flags c && hasCause s.mgmt.enables c
  let t := s.setMgmt { s.mgmt with flags := setCause s.mgmt.flags c true }.refreshAttn
  if fresh then requestNote c t else t

end Sys2Proof.Machine
end

