-- ==== Sys2Proof/Machine/PostureOps.lean ====
section
/-! DEFINITION. The Posture Engine: samples, evaluations, posture selection, rotation, and the reporting of
changes (R63 to R70, R73, R74, R79 to R89, R93, R95, R96). -/

namespace Sys2Proof.Machine

/-! ### Rotation -/

/-- The row of the current posture (R91). -/
def PostureEngine.currentRow (p : PostureEngine) : PolicyRow := p.policy[p.posture.code]

/-- The effective rotation mode: FREE is taken as HOLD while the rotation lock is on (R89). -/
def PostureEngine.effectiveMode (p : PostureEngine) : RotationMode :=
  match p.currentRow.rotation with
  | .free => if p.rotLock then .hold else .free
  | m => m

/-- The rotation candidate cleared and its count 0. -/
def PostureEngine.clearRotCandidate (p : PostureEngine) : PostureEngine :=
  { p with rotCandidate := none, rotCount := 0 }

/-- What the effective mode does when it takes effect (R89). -/
def PostureEngine.applyMode (p : PostureEngine) : PostureEngine :=
  match p.effectiveMode with
  | .free => p
  | .hold => p.clearRotCandidate
  | .lock0 => { p.clearRotCandidate with orientation := .rot0 }

/-- The comparison of an unheld screen angle with the sectors under mode FREE (R88). -/
def PostureEngine.followScreen (p : PostureEngine) (angle : Nat) : PostureEngine :=
  if sectorOf angle = p.orientation then p.clearRotCandidate
  else if sectorDistance angle p.orientation ≤ p.params.rotHysteresis then p.clearRotCandidate
  else
    let o := sectorOf angle
    let n := if p.rotCandidate = some o then p.rotCount + 1 else 1
    if p.params.rotDwell ≤ n then { p.clearRotCandidate with orientation := o }
    else { p with rotCandidate := some o, rotCount := n }

/-- The rotation motion condition, on the exact magnitude (R61, R87; where R71 says that Max Projection 65535 never
finds it, assumption 31). -/
def PostureEngine.rotMotion (p : PostureEngine) (magnitude : Nat) : Bool :=
  decide (p.params.maxProjection < magnitude)

/-- The rotation step of an evaluation, but for the motion flag, which the hinge work shares (R65, R87 to
R89). -/
def PostureEngine.rotationStep (p : PostureEngine) (angle magnitude : Nat) : PostureEngine :=
  let flat := decide (magnitude < p.params.flatThreshold)
  let q := { p with flat := flat }
  match q.effectiveMode with
  | .free => if flat || q.rotMotion magnitude then q else q.followScreen angle
  | _ => q.applyMode

/-! ### Hinge work -/

/-- What the hinge work of an evaluation hands posture selection (R69). -/
inductive HingeOutcome
  | held | unresolved | resolved
  deriving DecidableEq, Repr

/-- The resolution of a raw hinge angle (R67, R68). -/
def PostureEngine.resolveHinge (p : PostureEngine) (raw : Nat) : HingeOutcome × PostureEngine :=
  let w := p.params.wrapBand
  if p.hingeValid then
    if p.hinge < 2048 then
      (.resolved, { p with hinge := if 4096 - w ≤ raw then 0 else raw })
    else (.resolved, { p with hinge := if raw < w then 4095 else raw })
  else if w ≤ raw ∧ raw < 4096 - w then (.resolved, { p with hinge := raw, hingeValid := true })
  else (.unresolved, p)

/-- The base sample is stale: invalid, or expired since it was taken (R64). -/
def PostureEngine.sampleStale (p : PostureEngine) : Bool := !p.baseValid || p.baseStale

/-- The lid tilt: angle and magnitude of (Zl, Yl) (R63). -/
def PostureEngine.lidTilt (p : PostureEngine) : Nat × Nat :=
  vectoring (p.axisLid.z.apply p.lid) (p.axisLid.y.apply p.lid)

/-- The base tilt: angle and magnitude of (Zb, Yb) (R63). -/
def PostureEngine.baseTilt (p : PostureEngine) : Nat × Nat :=
  vectoring (p.axisBase.z.apply p.base) (p.axisBase.y.apply p.base)

/-- The screen angle: angle and magnitude of (−Yl, Xl) (R63). -/
def PostureEngine.screenAngle (p : PostureEngine) : Nat × Nat :=
  vectoring (-(p.axisLid.y.apply p.lid)) (p.axisLid.x.apply p.lid)

/-- The degenerate condition (R65). -/
def PostureEngine.isDegenerate (p : PostureEngine) : Bool :=
  decide (p.lidTilt.2 < p.params.minProjection)
    || (!p.sampleStale && decide (p.baseTilt.2 < p.params.minProjection))

/-- The motion condition of the hinge work, on the exact magnitudes (R61, R65; where R71 says that Max Projection
65535 never finds it, assumption 31). -/
def PostureEngine.hingeMotion (p : PostureEngine) : Bool :=
  decide (p.params.maxProjection < p.lidTilt.2)
    || (!p.sampleStale && decide (p.params.maxProjection < p.baseTilt.2))

/-- The hinge work of an evaluation, given the rotation motion condition (R63 to R70). -/
def PostureEngine.hingeWork (p : PostureEngine) (rotMotion : Bool) : HingeOutcome × PostureEngine :=
  let q := { p with
    degenerate := p.isDegenerate
    stale := p.sampleStale
    motion := p.hingeMotion || rotMotion }
  if p.sampleStale || p.isDegenerate || p.hingeMotion then (.held, q)
  else
    let faced := { q with face := faceOf p.params.baseFaceBand p.baseTilt.1 }
    faced.resolveHinge (rawHinge p.baseTilt.1 p.lidTilt.1 p.params.hingeOffset)

/-! ### Posture selection -/

/-- An entry's face mask accepts a base face (R76, R77). -/
def PostureEntry.acceptsFace (e : PostureEntry) (f : Face) : Bool := e.faces.getLsbD f.code

/-- An entry's lid condition is met by a level of LIDSW (R76). -/
def PostureEntry.acceptsLid (e : PostureEntry) (lidsw : Bool) : Bool :=
  match e.lid with
  | .any => true
  | .asserted => lidsw
  | .released => !lidsw

/-- A valid entry matches with the band low..high in place of its own (R76, R80). -/
def PostureEngine.entryMatches (p : PostureEngine) (e : PostureEntry) (low high : Nat) : Bool :=
  e.valid && decide (low ≤ p.hinge) && decide (p.hinge ≤ high) && e.acceptsFace p.face
    && e.acceptsLid p.lidsw

/-- The hold test: the current entry, widened by its hysteresis, keeps the posture (R80). -/
def PostureEngine.holdTest (p : PostureEngine) : Bool :=
  match p.entry with
  | none => false
  | some i =>
    let e := p.table[i]
    e.posture == p.posture
      && p.entryMatches e (e.low - e.hysteresis) (min 4095 (e.high + e.hysteresis))

/-- The search: the valid entry of lowest index that matches unwidened (R81). -/
def PostureEngine.search (p : PostureEngine) : Option (Fin 8) :=
  (List.finRange 8).find? (fun i => p.entryMatches p.table[i] p.table[i].low p.table[i].high)

/-- The posture candidate cleared and its count 0. -/
def PostureEngine.clearCandidate (p : PostureEngine) : PostureEngine :=
  { p with candidate := .none, candidateCount := 0 }

/-- A change of the posture code, recorded (R83). -/
def PostureEngine.change (p : PostureEngine) (new : Posture) (entry : Option (Fin 8)) (time : Half) :
    PostureEngine :=
  { p.clearCandidate with
    posture := new
    entry := entry
    changeCount := p.changeCount + 1
    changeTime := time }

/-- Counting toward a candidate, and the change when its dwell is reached (R82, R83). -/
def PostureEngine.countCandidate (p : PostureEngine) (c : Candidate) (time : Half) : PostureEngine :=
  let n := if p.candidate = c then p.candidateCount + 1 else 1
  let counted := { p with candidate := c, candidateCount := n }
  match c with
  | .none => p
  | .entry i =>
    if p.table[i].dwell ≤ n then p.change p.table[i].posture (some i) time else counted
  | .unmatched => if p.params.unmatchedDwell ≤ n then p.change .unknown none time else counted

/-- Posture selection at a resolved evaluation (R79 to R83). -/
def PostureEngine.select (p : PostureEngine) (time : Half) : PostureEngine :=
  if p.holdTest then p.clearCandidate
  else
    match p.search with
    | some i =>
      if p.table[i].posture = p.posture then { p.clearCandidate with entry := some i }
      else p.countCandidate (.entry i) time
    | none =>
      if p.posture = .unknown then p.clearCandidate else p.countCandidate .unmatched time

/-- Step 4 of an evaluation: the hinge work and, on a resolved outcome, posture selection; without hinge
work the hold flags follow R65 (R65, R69, R74). -/
def PostureEngine.hingeStep (p : PostureEngine) (attached rotMotion : Bool) (time : Half) :
    PostureEngine :=
  if attached then
    match p.hingeWork rotMotion with
    | (.resolved, q) => q.select time
    | (_, q) => q
  else { p with degenerate := false, stale := false, motion := rotMotion }

/-- The Posture Engine after one evaluation (R74, steps 1 to 5). -/
def PostureEngine.evaluate (p : PostureEngine) (lidsw attached : Bool) (time : Half) : PostureEngine :=
  let a := p.screenAngle
  let turned := { p with lidsw := lidsw }.rotationStep a.1 a.2
  (turned.hingeStep attached (p.rotMotion a.2) time).applyMode

/-! ### Reporting -/

/-- The deliveries of a posture change event, each with the old and the new posture code (R96). The Charge
Controller's carries no row: it reads the posture cap when it takes the event (R140, R141). -/
def changeDeliveries (old new : Posture) (row : PolicyRow) : List Delivery :=
  [.gateUpdate (.change old new) row.gateMask, .capChange (.posture (.change old new)),
   .powerPostureChange old new row]

/-- The deliveries of a policy event, each with the current posture code (R93, R96). -/
def policyDeliveries (current : Posture) (row : PolicyRow) : List Delivery :=
  [.gateUpdate (.policy current) row.gateMask, .capChange (.posture (.policy current)),
   .powerPolicyEvent current row]

/-- The end of an event of the Posture Engine: one STATE frame requested when it changed the posture or the
orientation, and a posture change event delivered when it changed the posture (R74, R83, R95). The request goes
to the Management Unit as the change goes to its receivers, an event of its own (R96; assumption 35). -/
def reportPosture (old : PostureEngine) (s : State) : State :=
  let p := s.posture
  let t := if p.posture = old.posture ∧ p.orientation = old.orientation then s else post .stateRequest s
  if p.posture = old.posture then t
  else postAll (changeDeliveries old.posture p.posture p.currentRow) t

/-- An event of the Posture Engine that sets the posture with no entry, unless it holds it already: the
change is recorded and the new posture's rotation mode takes effect (R83, R84, R85, R89). -/
def PostureEngine.override (p : PostureEngine) (new : Posture) (time : Half) : PostureEngine :=
  if p.posture = new then { p.clearCandidate with entry := none }
  else (p.change new none time).applyMode

/-! ### Samples -/

/-- The sample a well-shaped SAMPLE payload carries (R8). -/
def sampleOf (payload : List Byte) (time : Half) : SampleRecord where
  counter := word16 (unitByte payload 0) (unitByte payload 1)
  x := word16 (unitByte payload 2) (unitByte payload 3)
  y := word16 (unitByte payload 4) (unitByte payload 5)
  z := word16 (unitByte payload 6) (unitByte payload 7)
  time := time

/-- A lid sample is taken and evaluated, with the link state as it stands (R63, R73, R74; between the Link
Monitor's teardown and the Posture Engine's, assumption 32). -/
def takeLidSample (payload : List Byte) (s : State) : State :=
  let p := { s.posture with lid := sampleOf payload s.time }
  reportPosture s.posture
    (s.setPosture (p.evaluate s.lines.lidsw s.link.state.attachedOrSuspect s.time))

/-- A base sample is taken and the freshness timer started (R64, R73). -/
def takeBaseSample (payload : List Byte) (s : State) : State :=
  s.setPosture { s.posture with
    base := sampleOf payload s.time
    baseValid := true
    baseStale := false
    baseFresh := some s.posture.params.baseFreshness }

end Sys2Proof.Machine
end

