-- ==== Sys2Proof/Machine/RailOps.lean ====
section
/-! DEFINITION. The Rail Allocator: room and budget cap, the Charge Controller's reports, grants, budgets
and their completion (R127 to R133). -/

namespace Sys2Proof.Machine

/-- The power of a drive level (R135). -/
def Charge.power (c : Charge) (l : Level) : Nat := c.levels[l].power

/-- The room for the pen (R128). -/
def Rail.room (r : Rail) : Int := (r.total : Int) - r.grant - r.pendingGrant

/-- The highest drive level whose power is at most the room, 0 when none is (R128). -/
def capFor (c : Charge) (room : Int) : Level :=
  (((List.finRange 8).filter (fun l => decide ((c.power l : Int) ≤ room))).getLast?).getD 0

/-- The budget cap is recomputed; a cap change is delivered when it moved (R128). -/
def recomputeCap (s : State) : State :=
  let cap := capFor s.charge s.rail.room
  let t := s.setRail { s.rail with cap := cap }
  if cap = s.rail.cap then t else post (.capChange .rail) t

/-- P after a report: the larger of the powers of the active and the allocated level (R129). -/
def Rail.account (r : Rail) (c : Charge) : Rail :=
  { r with penAlloc := max (c.power r.active) (c.power r.allocated) }

/-- The completion test of a pending grant (R131, test 1). -/
def completeGrant (s : State) : State :=
  let r := s.rail
  if r.grantPending ∧ r.penAlloc + r.pendingGrant ≤ r.effective then
    requestGrant r.pendingGrant
      (s.setRail { r with
        grant := r.pendingGrant
        pendingGrant := 0
        grantPending := false
        counters := { r.counters with grants := satInc r.counters.grants } })
  else s

/-- The completion test of a pending budget lowering (R131, test 2). -/
def completeBudget (s : State) : State :=
  let r := s.rail
  if r.budgetPending ∧ r.penAlloc + r.grant ≤ r.total then
    s.setRail { r with effective := r.total, budgetPending := false }
  else s

/-- The completion tests, and the recomputation where one completed (R131). -/
def completionTests (s : State) : State :=
  let t := completeBudget (completeGrant s)
  if t.rail.grantPending = s.rail.grantPending ∧ t.rail.budgetPending = s.rail.budgetPending then t
  else recomputeCap t

/-- The level allocated to a request: the level asked where its power fits the room, otherwise the budget
cap (R129). -/
def allocation (s : State) (l : Level) : Level :=
  if (s.charge.power l : Int) ≤ s.rail.room then l else s.rail.cap

/-- A level request; the level allocated is returned (R129). -/
def levelRequest (l : Level) (s : State) : Level × State :=
  let a := allocation s l
  let r := s.rail
  (a, completionTests (s.setRail (({ r with
    allocated := a
    counters := { r.counters with
      clippedRequests := if a = l then r.counters.clippedRequests
        else satInc r.counters.clippedRequests } } : Rail).account s.charge)))

/-- A swap is reported (R129). -/
def swapReport (s : State) : State :=
  completionTests (s.setRail ({ s.rail with active := s.rail.allocated }.account s.charge))

/-- A stop is reported (R129). -/
def stopReport (s : State) : State :=
  completionTests (s.setRail ({ s.rail with active := 0, allocated := 0 }.account s.charge))

/-- The grant computed at an admission: the smallest of the requested load, the load cap and Te (R130). -/
def grantOf (s : State) : Nat :=
  min s.link.record.requestedLoad (min s.link.record.loadCap s.rail.effective)

/-- The grant of an admission fits beside the pen and is put in force at once (R130). -/
def grantFits (s : State) : Bool := decide (s.rail.penAlloc + grantOf s ≤ s.rail.effective)

/-- A grant is put in force with a GRANT frame, or deferred (R130). -/
def putGrant (g : Nat) (s : State) : State :=
  let r := s.rail
  if r.penAlloc + g ≤ r.effective then
    requestGrant g (s.setRail { r with
      grant := g, counters := { r.counters with grants := satInc r.counters.grants } })
  else
    s.setRail { r with
      pendingGrant := g
      grantPending := true
      counters := { r.counters with deferredGrants := satInc r.counters.deferredGrants } }

/-- A grant below the requested load is delivered and counted (R130). -/
def noteLimited (g : Nat) (s : State) : State :=
  if g < s.link.record.requestedLoad then
    deliver .grantLimited (s.setRail { s.rail with counters := { s.rail.counters with
      limitedGrants := satInc s.rail.counters.limitedGrants } })
  else s

/-- The admission at the Rail Allocator (R130). -/
def admitLoad (s : State) : State :=
  recomputeCap (noteLimited (grantOf s) (putGrant (grantOf s) s))

/-- The teardown at the Rail Allocator (R133). -/
def releaseLoad (s : State) : State :=
  recomputeCap (completeBudget (s.setRail { s.rail with
    grant := 0, pendingGrant := 0, grantPending := false }))

/-- A new budget that passed its checks, in force at once or deferred (R132). The Bool says deferred. -/
def newBudget (v : Nat) (s : State) : Bool × State :=
  let r := s.rail
  if r.grant + r.penAlloc ≤ v then
    (false, recomputeCap (s.setRail { r with total := v, effective := v, budgetPending := false }))
  else
    (true, recomputeCap (s.setRail { r with
      total := v
      budgetPending := true
      counters := { r.counters with deferredBudgets := satInc r.counters.deferredBudgets } }))

end Sys2Proof.Machine
end

