-- ==== Sys2Proof/Machine/ChargeOps.lean ====
section
/-! DEFINITION. The Charge Controller and the coil it commands: drive changes, caps and targets, cap changes,
pen frames and the session (R137, R138, R140 to R152). -/

namespace Sys2Proof.Machine

/-! ### The coil -/

/-- The coil driver replaced. -/
def setCoil (c : Coil) (s : State) : State := s.setPport { s.pport with coil := c }

/-- The coil driven from its first period at a level (R137). -/
def coilAt (c : Charge) (l : Level) : Coil where
  driving := true
  activeFreq := c.levels[l].freq
  activeDuty := c.levels[l].duty
  inEffect := l
  bufferedFreq := c.levels[l].freq
  bufferedDuty := c.levels[l].duty
  buffered := l
  swapPending := false

/-- The coil with a swap to a level pending (R137). -/
def Coil.swapTo (k : Coil) (c : Charge) (l : Level) : Coil :=
  { k with
    bufferedFreq := c.levels[l].freq
    bufferedDuty := c.levels[l].duty
    buffered := l
    swapPending := true }

/-- The coil at the end of a period: a pending swap is made (R137). -/
def Coil.swapped (k : Coil) : Coil :=
  { k with
    activeFreq := k.bufferedFreq
    activeDuty := k.bufferedDuty
    inEffect := k.buffered
    swapPending := false }

/-- The coil is started from idle at the level the Rail Allocator returns for a request; a returned level 0
leaves it idle (R137, R140). The Bool says started. -/
def startCoil (l : Level) (s : State) : Bool × State :=
  let r := levelRequest l s
  if r.1 = 0 then (false, r.2)
  else (true, swapReport (setCoil (coilAt r.2.charge r.1) r.2))

/-- An immediate stop; nothing happens to an idle coil (R138). -/
def stopCoil (s : State) : State :=
  if s.pport.coil.driving then stopReport (setCoil {} s) else s

/-- The end of a drive period: nothing but, with a swap pending, the swap and its report (R137). -/
def endPeriod (s : State) : State :=
  if s.pport.coil.driving && s.pport.coil.swapPending then swapReport (setCoil s.pport.coil.swapped s)
  else s

/-! ### Caps and targets -/

/-- The battery band of a percentage (R139). -/
def batteryBand (battery : Nat) : Fin 4 :=
  if battery < 20 then 0 else if battery < 80 then 1 else if battery < 95 then 2 else 3

/-- The temperature band of a signed temperature (R139). -/
def temperatureBand (temperature : Int) : Fin 4 :=
  if temperature < 0 then 0 else if temperature < 35 then 1 else if temperature < 45 then 2 else 3

/-- The place of a cell in the Charge Table: four temperature bands to a battery band (R139). -/
def cellIndex (battery temperature : Fin 4) : Fin 16 :=
  ⟨4 * battery.val + temperature.val, by omega⟩

/-- The cell cap (R140). -/
def Charge.cellCap (c : Charge) : Level :=
  if c.pen.valid then
    c.cells[cellIndex (batteryBand c.pen.battery) (temperatureBand c.pen.temperature.toInt)]
  else 0

/-- The sleep cap (R140). -/
def sleepCap (s : State) : Level :=
  match s.power.host with
  | .active => 7
  | .standby => s.charge.params.standbyCap
  | .off => s.charge.params.offCap

/-- The posture cap: the charge cap of the current row (R91, R140). -/
def postureCap (s : State) : Level := s.posture.currentRow.chargeCap

/-- The smallest of the posture, budget and sleep caps (R140). -/
def outerCap (s : State) : Level := min (postureCap s) (min s.rail.cap (sleepCap s))

/-- The charge target: the smallest of the four caps (R140). -/
def chargeTarget (s : State) : Level := min s.charge.cellCap (outerCap s)

/-- The probe target: the smaller of 1 and the smallest of the three outer caps (R140). -/
def probeTarget (s : State) : Level := min 1 (outerCap s)

/-- The drive target of the session (R140). -/
def driveTarget (s : State) : Level :=
  match s.charge.session with
  | .probe => probeTarget s
  | .charging => chargeTarget s
  | _ => 0

/-! ### Sessions -/

/-- A move to a session state with the timers of that state; every other timer is stopped (R144). -/
def enterSession (x : Session) (t : ChargeTimers) (s : State) : State :=
  s.setCharge { s.charge with session := x, timers := t }

/-- The counters of the Charge Controller changed. -/
def countCharge (f : ChargeCounters → ChargeCounters) (s : State) : State :=
  s.setCharge { s.charge with counters := f s.charge.counters }

/-- One more starved ping (R146, R151). -/
def countStarved (s : State) : State :=
  countCharge (fun c => { c with starvedPings := satInc c.starvedPings }) s

/-- SCAN entered, with the ping timer started (R146). -/
def enterScan (s : State) : State :=
  enterSession .scan { ping := some s.charge.params.pingInterval } s

/-- HOLD entered: the coil is stopped and no timer runs (R150). -/
def enterHold (s : State) : State := enterSession .hold {} (stopCoil s)

/-- One more ping that started a probe (R146, R154). -/
def countPing (s : State) : State := countCharge (fun c => { c with pings := satInc c.pings }) s

/-- PROBE entered with the coil already started: the Probe Window starts (R146). -/
def enterProbe (s : State) : State :=
  enterSession .probe { probe := some s.charge.params.probeWindow } s

/-- A probe is started at level 1 and followed by `started`, or, where the request returns 0, counted as starved,
with `starved` the state that remains (R146, R151). -/
def startProbe (started starved : State → State) (s : State) : State :=
  match startCoil 1 s with
  | (true, t) => started (enterProbe t)
  | (false, t) => countStarved (starved t)

/-- The removal of a pen whose flag is set: PEN_REMOVED at both its receivers (R142, R147, R149). -/
def removePen (s : State) : State :=
  postAll [.event .penRemoved, .wakeSource .penOut]
    (countCharge (fun c => { c with removals := satInc c.removals })
      (s.setCharge { s.charge with penPresent := false }))

/-- PEN_FOUND at an entry to CHARGING with the pen-present flag clear (R147). -/
def findPen (s : State) : State :=
  if s.charge.penPresent then s
  else
    deliver .penFound (countCharge (fun c => { c with sessions := satInc c.sessions })
      (s.setCharge { s.charge with penPresent := true }))

/-- The drive moved to the charge target by a level change; a returned level 0 is HOLD (R137, R140, R149). -/
def changeLevel (l : Level) (s : State) : State :=
  let r := levelRequest l s
  if r.1 = 0 then enterHold r.2
  else setCoil (r.2.pport.coil.swapTo r.2.charge r.1) r.2

/-- The drive brought to the charge target in CHARGING: nothing when the buffered level is the target,
a start from idle, or a level change (R137, R147, R149). -/
def driveAt (l : Level) (s : State) : State :=
  if s.pport.coil.driving then
    if l = s.pport.coil.buffered then s else changeLevel l s
  else
    match startCoil l s with
    | (true, t) => t
    | (false, t) => enterHold t

/-- CHARGING entered from PROBE or TOPPED at the charge target (R147). -/
def enterCharging (s : State) : State :=
  let t := findPen (enterSession .charging { silence := some s.charge.params.penSilence } s)
  driveAt (chargeTarget t) t

/-- CHARGING kept by a pen frame: Pen Silence is restarted and the drive brought to the charge target
(R149). -/
def stayCharging (s : State) : State :=
  let t := enterSession .charging { silence := some s.charge.params.penSilence } s
  driveAt (chargeTarget t) t

/-- TOPPED entered from PROBE or CHARGING (R151). -/
def enterTopped (s : State) : State :=
  let t := stopCoil s
  let u := enterSession .topped { topUp := some t.charge.params.topUp }
    (t.setCharge { t.charge with faultCount := 0 })
  postAll [.event .chargeDone, .wakeSource .chargeDone]
    (countCharge (fun c => { c with topOffs := satInc c.topOffs }) u)

/-- A fault: cause, event and count, then LOCKOUT at the third, otherwise COOLDOWN (R152). -/
def enterFault (s : State) : State :=
  let t := stopCoil s
  let n := t.charge.faultCount + 1
  let u := deliver .chargeFault (countCharge (fun c => { c with faults := satInc c.faults })
    (t.setCharge { t.charge with
      lastFault := if t.charge.pen.error then .error else .temperature
      faultCount := n }))
  if Config.faultLimit ≤ n then
    deliver .chargeLockout (countCharge (fun c => { c with lockouts := satInc c.lockouts })
      (enterSession .lockout {} u))
  else enterSession .cooldown { cooldown := some u.charge.params.cooldown } u

/-! ### The pen tests -/

/-- Outcomes of the pen tests (R147). -/
inductive PenOutcome
  | fault | full | noTarget | charge
  deriving DecidableEq, Repr

/-- The pen tests on the Pen Record, in order (R147). -/
def penTests (s : State) : PenOutcome :=
  let c := s.charge
  if c.pen.error ∨ c.params.faultTemp ≤ c.pen.temperature.toInt then .fault
  else if c.pen.full ∨ (95 ≤ c.pen.battery ∧ c.params.resume ≤ c.pen.battery) then .full
  else if chargeTarget s = 0 then .noTarget
  else .charge

/-- The Pen Record filled from a well-shaped PEN payload (R8, R142). -/
def penOf (payload : List Byte) (time : Half) : PenRecord where
  valid := true
  id := word16 (unitByte payload 0) (unitByte payload 1)
  battery := min (unitByte payload 2).toNat 100
  temperature := unitByte payload 3
  full := (unitByte payload 4).getLsbD 0
  error := (unitByte payload 4).getLsbD 1
  time := time

/-- A pen frame in PROBE, its record filled (R147). -/
def probeFrame (s : State) : State :=
  match penTests s with
  | .fault => enterFault s
  | .full => enterTopped s
  | .noTarget => enterHold s
  | .charge => enterCharging s

/-- A pen frame in CHARGING, its record filled (R149). -/
def chargingFrame (s : State) : State :=
  match penTests s with
  | .fault => enterFault s
  | .full => enterTopped s
  | .noTarget => enterHold s
  | .charge => stayCharging s

/-- A pen frame in TOPPED, its record filled: tested only below the Resume Threshold; full stays (R151). -/
def toppedFrame (s : State) : State :=
  if s.charge.pen.battery < s.charge.params.resume then
    match penTests s with
    | .fault => enterFault s
    | .full => s
    | .noTarget => enterHold s
    | .charge => enterCharging s
  else s

/-- HOLD at a cap change or a pen frame: a probe once the charge target is 1 or more, counted as a ping (R146,
R150; assumption 12). -/
def recheckHold (s : State) : State := if chargeTarget s = 0 then s else startProbe countPing id s

/-- A well-shaped pen frame at the Charge Controller (R142, R147 to R151). -/
def takePenFrame (payload : List Byte) (s : State) : State :=
  if s.charge.session = .off then
    countCharge (fun c => { c with ignoredFrames := satInc c.ignoredFrames }) s
  else
    let t := s.setCharge { s.charge with pen := penOf payload s.time }
    match t.charge.session with
    | .probe => probeFrame t
    | .charging => chargingFrame t
    | .topped => toppedFrame t
    | .hold => recheckHold t
    | _ => t

/-- A cap change at the Charge Controller, by session state (R141). -/
def takeCapChange (s : State) : State :=
  match s.charge.session with
  | .probe =>
    if probeTarget s = 0 then
      countCharge (fun c => { c with aborted := satInc c.aborted }) (enterScan (stopCoil s))
    else s
  | .charging => if chargeTarget s = 0 then enterHold s else driveAt (chargeTarget s) s
  | .hold => recheckHold s
  | _ => s

/-! ### Timer expiries -/

/-- The ping timer expires (R146). -/
def pingExpired (s : State) : State :=
  if probeTarget s = 0 then countStarved (enterScan s) else startProbe countPing enterScan s

/-- The Probe Window expires: no pen has answered (R147). -/
def probeExpired (s : State) : State :=
  let t := countCharge (fun c => { c with unanswered := satInc c.unanswered }) (enterScan (stopCoil s))
  if t.charge.penPresent then removePen t else t

/-- Pen Silence expires: the pen has left (R149). -/
def silenceExpired (s : State) : State := removePen (enterScan (stopCoil s))

/-- TOPPED stays, and the Top-up Interval starts again (R146, R151). -/
def restartTopUp (s : State) : State :=
  enterSession .topped { topUp := some s.charge.params.topUp } s

/-- The Top-up Interval expires: a top-up probe, which is no ping (R151, R154; assumption 12). -/
def topUpExpired (s : State) : State :=
  if probeTarget s = 0 then countStarved (restartTopUp s) else startProbe id restartTopUp s

/-! ### Enabling and disabling -/

/-- The power of each level 1..7 is at least the power of the level below it (R145). -/
def Charge.powersRise (c : Charge) : Bool :=
  (List.finRange 7).all (fun i => decide (c.power i.castSucc ≤ c.power i.succ))

/-- The charger is enabled from OFF or LOCKOUT (R145). -/
def enableCharger (s : State) : State :=
  enterScan (s.setCharge { s.charge with enabled := true, faultCount := 0, lastFault := .none })

/-- The charger disable (R145). -/
def disableCharger (s : State) : State :=
  let t := stopCoil s
  enterSession .off {} (t.setCharge { t.charge with
    enabled := false
    penPresent := false
    pen := { t.charge.pen with valid := false } })

end Sys2Proof.Machine
end

