-- ==== Sys2Proof/Machine/Gating.lean ====
section
/-! DEFINITION. The Input Gate: the Key Filter and the Pad Filter (R97 to R109). -/

namespace Sys2Proof.Machine

/-- The Key Filter replaced. -/
def setKey (k : KeyFilter) (s : State) : State := s.setGate { s.gate with key := k }

/-- The Pad Filter replaced. -/
def setPad (p : PadFilter) (s : State) : State := s.setGate { s.gate with pad := p }

/-- A synthetic frame is placed on a gated route's queue (R29). The Bool says placed. -/
def placeSynthetic (q : HostQueue) (frame : List Byte) (s : State) : Bool × State :=
  match s.pool.placeSynthetic q frame with
  | some p => (true, s.setPool p)
  | none => (false, s)

/-- The decision a gated frame is passed with: the entry's index, its gate class and its queue (R46, R52). The
filters act on class and queue; no rule has them act on the index. -/
structure GatedDecision where
  entry : Fin 24
  gate : GateClass
  queue : HostQueue
  deriving DecidableEq, Repr

/-! ### Key Filter -/

/-- The synthetic release of a channel (R103). -/
def releaseFrame (c : Chan) : List Byte := buildFrame .keys c 1 false []

/-- A synthetic release is made: placed and counted, or left pending and counted. Last Forwarded becomes
empty either way (R103). -/
def makeRelease (c : Chan) (q : HostQueue) (s : State) : State :=
  match placeSynthetic q (releaseFrame c) s with
  | (true, t) =>
    setKey { t.gate.key with
      lastForwarded := []
      pending := none
      counters := { t.gate.key.counters with releases := satInc t.gate.key.counters.releases } } t
  | (false, t) =>
    setKey { t.gate.key with
      lastForwarded := []
      pending := some { channel := c, queue := q }
      counters := { t.gate.key.counters with
        releaseFailures := satInc t.gate.key.counters.releaseFailures } } t

/-- The synthetic release of the bound channel, if the host was told of keys pressed (R103, R106). -/
def releaseIfForwarded (s : State) : State :=
  match s.gate.key.bound with
  | none => s
  | some c => if s.gate.key.lastForwarded = [] then s else makeRelease c s.gate.key.queue s

/-- The closing transition of the filter gate (R103). -/
def keyClose (s : State) : State :=
  releaseIfForwarded (setKey { s.gate.key with gateOpen := false, masked := s.gate.key.held } s)

/-- The opening transition of the filter gate (R105). -/
def keyOpen (s : State) : State :=
  setKey { s.gate.key with gateOpen := true, masked := s.gate.key.held } s

/-- The transition that takes the filter gate to a setting, if it differs (R97, R99). -/
def keyToGate (isOpen : Bool) (s : State) : State :=
  if s.gate.key.gateOpen = isOpen then s
  else if isOpen then keyOpen s
  else keyClose s

/-- The members of a list at their first places (R100). -/
def firstPlaces : List Byte → List Byte
  | [] => []
  | c :: cs => c :: (firstPlaces cs).filter (fun d => d ≠ c)

/-- A report without its zero codes (R100, step 1). -/
def nonzeroCodes (report : List Byte) : List Byte := report.filter (fun c => c ≠ 0)

/-- The cleaned report (R100). -/
def cleanReport (report : List Byte) : List Byte :=
  (firstPlaces (nonzeroCodes report)).take Config.heldCapacity

/-- The report contained a repeat (R100, step 2). -/
def hasRepeat (report : List Byte) : Bool :=
  (firstPlaces (nonzeroCodes report)).length != (nonzeroCodes report).length

/-- A code of the report was ignored (R100, step 3). -/
def hasOverflow (report : List Byte) : Bool :=
  decide (Config.heldCapacity < (firstPlaces (nonzeroCodes report)).length)

/-- Held after a cleaned report: members keep their places, new codes join at the tail (R100). -/
def updateHeld (held cleaned : List Byte) : List Byte :=
  held.filter (fun c => c ∈ cleaned) ++ cleaned.filter (fun c => c ∉ held)

/-- The Key Filter after the cleaning of a report (R100). -/
def KeyFilter.takeReport (k : KeyFilter) (report : List Byte) : KeyFilter :=
  let held := updateHeld k.held (cleanReport report)
  { k with
    held := held
    masked := k.masked.filter (fun c => c ∈ held)
    counters := { k.counters with
      fixups := if hasRepeat report then satInc k.counters.fixups else k.counters.fixups
      overflow := if hasOverflow report then satInc k.counters.overflow else k.counters.overflow } }

/-- The keys to report: Held minus Masked, in Held's order (R102). -/
def KeyFilter.visible (k : KeyFilter) : List Byte := k.held.filter (fun c => c ∉ k.masked)

/-- The binding at a frame's arrival; none for a foreign frame (R99). -/
def keyBind (c : Chan) (cls : GateClass) (q : HostQueue) (s : State) : Option State :=
  let k := s.gate.key
  match k.bound with
  | none =>
    some (setKey { k with
      bound := some c, cls := cls, queue := q, gateOpen := gateOf s.gate.gates cls } s)
  | some b =>
    if b = c then
      if cls = k.cls then some (setKey { k with queue := q } s)
      else some (keyToGate (gateOf s.gate.gates cls) (setKey { k with queue := q, cls := cls } s))
    else none

/-- The forwarding of the visible keys with the gate open (R102). The Bool says acceptance. -/
def keyForward (f : Frame) (q : HostQueue) (s : State) : Bool × State :=
  let k := s.gate.key
  let keys := k.visible
  if keys = k.lastForwarded then
    (true, setKey { k with counters := { k.counters with unchanged := satInc k.counters.unchanged } } s)
  else
    match placeReceived q.id (buildFrame f.kind f.channel f.dest f.toggle keys) s with
    | (true, t) =>
      let u := setKey { k with
        lastForwarded := keys
        pending := none
        counters := { k.counters with forwarded := satInc k.counters.forwarded } } t
      (true, postAll ((if keys = [] then [] else [.activity .key])
        ++ (if keys.any (fun c => c ∉ k.lastForwarded) then [.wakeSource .key] else [])) u)
    | (false, t) =>
      (false, setKey { k with counters := { k.counters with refused := satInc k.counters.refused } } t)

/-- A KEYS frame passed by the classifier with its decision (R52, R99 to R102). The Bool says acceptance. -/
def keyFilterFrame (f : Frame) (d : GatedDecision) (s : State) : Bool × State :=
  match keyBind f.channel d.gate d.queue s with
  | none =>
    let k := s.gate.key
    (true, setKey { k with counters := { k.counters with foreign := satInc k.counters.foreign } } s)
  | some t =>
    let k := t.gate.key.takeReport f.payload
    if k.gateOpen then keyForward f d.queue (setKey k t)
    else
      (true, setKey { k with
        masked := k.held
        counters := { k.counters with suppressed := satInc k.counters.suppressed } } t)

/-- A retry of the pending release; a failed one counts nothing (R104). -/
def retryRelease (s : State) : State :=
  match s.gate.key.pending with
  | none => s
  | some w =>
    match placeSynthetic w.queue (releaseFrame w.channel) s with
    | (true, t) =>
      setKey { t.gate.key with
        pending := none
        counters := { t.gate.key.counters with releases := satInc t.gate.key.counters.releases } } t
    | (false, t) => t

/-- The Key Filter at a teardown: unbound, with class, queue and gate kept (R106; assumption 23). -/
def keyTeardown (s : State) : State :=
  let t := releaseIfForwarded s
  setKey { t.gate.key with lastForwarded := [], held := [], masked := [], bound := none } t

/-! ### Pad Filter -/

/-- The synthetic lift of a channel (R108). -/
def liftFrame (c : Chan) : List Byte := buildFrame .point c 1 false [0]

/-- A synthetic lift is made if the host was told of contacts: placed and counted, or left pending and
counted; had-contacts is cleared either way (R108). -/
def liftIfContacts (s : State) : State :=
  let p := s.gate.pad
  if p.hadContacts then
    match placeSynthetic p.queue (liftFrame p.channel) s with
    | (true, t) =>
      setPad { p with
        hadContacts := false
        pending := none
        counters := { p.counters with lifts := satInc p.counters.lifts } } t
    | (false, t) =>
      setPad { p with
        hadContacts := false
        pending := some { channel := p.channel, queue := p.queue }
        counters := { p.counters with liftFailures := satInc p.counters.liftFailures } } t
  else s

/-- The closing transition of the pad gate (R108). -/
def padClose (s : State) : State := liftIfContacts (setPad { s.gate.pad with gateOpen := false } s)

/-- The opening transition of the pad gate (R108). -/
def padOpen (s : State) : State := setPad { s.gate.pad with gateOpen := true, awaitLift := true } s

/-- The transition that takes the pad gate to a setting, if it differs (R97, R107). -/
def padToGate (isOpen : Bool) (s : State) : State :=
  if s.gate.pad.gateOpen = isOpen then s
  else if isOpen then padOpen s
  else padClose s

/-- The contact count of a POINT payload (R7). -/
def contactCount (payload : List Byte) : Nat := (unitByte payload 0).toNat

/-- The Pad Filter takes channel, queue and class of a frame's decision; a differing gate runs its
transition (R107). -/
def padFollow (c : Chan) (cls : GateClass) (q : HostQueue) (s : State) : State :=
  let p := s.gate.pad
  if cls = p.cls then setPad { p with channel := c, queue := q } s
  else padToGate (gateOf s.gate.gates cls) (setPad { p with channel := c, queue := q, cls := cls } s)

/-- The forwarding of a POINT frame, unchanged (R107). The Bool says acceptance. -/
def padForward (f : Frame) (q : HostQueue) (s : State) : Bool × State :=
  let p := s.gate.pad
  let contacts := decide (0 < contactCount f.payload)
  match placeReceived q.id f.raw s with
  | (true, t) =>
    let u := setPad { p with
      hadContacts := contacts
      awaitLift := false
      pending := none
      counters := { p.counters with forwarded := satInc p.counters.forwarded } } t
    (true, postAll (if contacts then [.activity .pad, .wakeSource .point] else []) u)
  | (false, t) =>
    (false, setPad { p with counters := { p.counters with refused := satInc p.counters.refused } } t)

/-- A POINT frame passed by the classifier with its decision (R52, R107). The Bool says acceptance. -/
def padFilterFrame (f : Frame) (d : GatedDecision) (s : State) : Bool × State :=
  let t := padFollow f.channel d.gate d.queue s
  let p := t.gate.pad
  if p.gateOpen then
    if p.awaitLift && decide (0 < contactCount f.payload) then
      (true, setPad { p with counters := { p.counters with
        awaitLiftDrops := satInc p.counters.awaitLiftDrops } } t)
    else padForward f d.queue t
  else (true, setPad { p with counters := { p.counters with suppressed := satInc p.counters.suppressed } } t)

/-- A retry of the pending lift; a failed one counts nothing (R108). -/
def retryLift (s : State) : State :=
  match s.gate.pad.pending with
  | none => s
  | some w =>
    match placeSynthetic w.queue (liftFrame w.channel) s with
    | (true, t) =>
      setPad { t.gate.pad with
        pending := none
        counters := { t.gate.pad.counters with lifts := satInc t.gate.pad.counters.lifts } } t
    | (false, t) => t

/-- The Pad Filter at a teardown (R109). -/
def padTeardown (s : State) : State :=
  let t := liftIfContacts s
  setPad { t.gate.pad with hadContacts := false, awaitLift := false } t

/-! ### The Input Gate's own events -/

/-- Two actions of one event, in the order the command gives (R97, R106; assumption 7). -/
def inOrder (padFirst : Bool) (key pad : State → State) (s : State) : State :=
  if padFirst then key (pad s) else pad (key s)

/-- The class the filter gate follows: the bound class, and class 0 while the channel is unbound (R98). -/
def KeyFilter.followed (k : KeyFilter) : GateClass := if k.bound.isSome then k.cls else 0

/-- The gates take a mask, and each filter runs the transition of the class it follows (R97; for the Key Filter
unbound after a teardown, assumption 23). -/
def updateGates (mask : BitVec 8) (padFirst : Bool) (s : State) : State :=
  let old := s.gate.gates
  let keyClass := s.gate.key.followed
  let keyMove := gateOf old keyClass != gateOf mask keyClass
  let padMove := gateOf old s.gate.pad.cls != gateOf mask s.gate.pad.cls
  inOrder padFirst
    (fun t => if keyMove then keyToGate (gateOf mask keyClass) t else t)
    (fun t => if padMove then padToGate (gateOf mask s.gate.pad.cls) t else t)
    (s.setGate { s.gate with gates := mask })

/-- The teardown event at the Input Gate (R106, R109). -/
def gateTeardown (padFirst : Bool) (s : State) : State := inOrder padFirst keyTeardown padTeardown s

end Sys2Proof.Machine
end

