-- ==== Sys2Proof/Machine/Classify.lean ====
section
/-! DEFINITION. The Frame Classifier: lookup, decision, actions and internal consumers (R8, R44 to R53). -/

namespace Sys2Proof.Machine

/-- An entry matches a frame from a port (R40, R44). -/
def Route.accepts (r : Route) (port : UpPort) (f : Frame) : Bool :=
  r.valid && r.port == port && decide (r.base ≤ f.channel.val)
    && decide (f.channel.val < r.base + r.span)
    && (match r.kind with
        | none => true
        | some k => k == f.kind)

/-- The valid entry of lowest index that matches, none where the Default Route decides (R44). -/
def Classifier.lookup (c : Classifier) (port : UpPort) (f : Frame) : Option (Fin 24) :=
  (List.finRange 24).find? (fun i => c.routes[i].accepts port f)

/-- A decision: the deciding route's action and queue and, for a Route Table entry, its index and gate class
(R46). -/
structure Decision where
  entry : Option (Fin 24)
  action : Action
  queue : Option HostQueue
  gate : Option GateClass
  deriving DecidableEq, Repr

/-- The decision of a frame (R44 to R46). -/
def Classifier.decision (c : Classifier) (port : UpPort) (f : Frame) : Decision :=
  match c.lookup port f with
  | some i =>
    { entry := some i, action := c.routes[i].action, queue := c.routes[i].queue, gate := c.routes[i].gate }
  | none => { entry := none, action := c.dflt.action, queue := c.dflt.queue, gate := none }

/-- The match counter of the deciding route and the classified counter gain one (R44, R53). -/
def Classifier.countMatch (c : Classifier) (port : UpPort) (f : Frame) : Classifier :=
  match c.lookup port f with
  | some i =>
    { c with
      routes := c.routes.set i { c.routes[i] with matchCount := satInc c.routes[i].matchCount }
      classified := satInc c.classified }
  | none =>
    { c with
      dflt := { c.dflt with matchCount := satInc c.dflt.matchCount }
      classified := satInc c.classified }

/-- A shape error, counted against the frame's port (R8). -/
def countShape (port : UpPort) (s : State) : State :=
  match port with
  | .b =>
    s.setBport { s.bport with counters :=
      { s.bport.counters with shapeErrors := satInc s.bport.counters.shapeErrors } }
  | .l =>
    s.setLport { s.lport with counters :=
      { s.lport.counters with shapeErrors := satInc s.lport.counters.shapeErrors } }
  | .p =>
    s.setPport { s.pport with counters :=
      { s.pport.counters with shapeErrors := satInc s.pport.counters.shapeErrors } }

/-- The internal consumers (R51). -/
inductive Consumer
  | lidSample | baseSample | penFrame
  deriving DecidableEq, Repr

/-- The consumer of a port and kind, none where there is none (R51). -/
def consumerOf : UpPort → Kind → Option Consumer
  | .l, .sample => some .lidSample
  | .b, .sample => some .baseSample
  | .p, .pen => some .penFrame
  | _, _ => none

/-- The payload length a consumer requires (R8). -/
def Consumer.payloadLength : Consumer → Nat
  | .lidSample | .baseSample => 8
  | .penFrame => 5

/-- A consumer takes a payload of the right length (R51). -/
def Consumer.take (c : Consumer) (payload : List Byte) (s : State) : State :=
  match c with
  | .lidSample => takeLidSample payload s
  | .baseSample => takeBaseSample payload s
  | .penFrame => takePenFrame payload s

/-- A consumer is handed a frame; one of the wrong length is a shape error and nothing else (R8, R51). -/
def consume (c : Consumer) (port : UpPort) (payload : List Byte) (s : State) : State :=
  if payload.length = c.payloadLength then c.take payload s else countShape port s

/-- A frame discarded under CONSUME for want of a consumer (R49, R53). -/
def countUnconsumed (s : State) : State :=
  s.setClassifier { s.classifier with unconsumed := satInc s.classifier.unconsumed }

/-- A frame passed to the Input Gate (R52, R53). -/
def countGated (s : State) : State :=
  s.setClassifier { s.classifier with gated := satInc s.classifier.gated }

/-- The placement of a forwarded frame as it arrived (R47); a decision without a queue places nothing. -/
def forward (q : Option HostQueue) (f : Frame) (s : State) : Bool × State :=
  match q with
  | some q => placeReceived q.id f.raw s
  | none => (true, s)

/-- A FORWARD decision: key and touchpad reports of a gated entry pass to the filters with the decision,
everything else is placed (R47, R52). -/
def forwardDecided (d : Decision) (f : Frame) (s : State) : Bool × State :=
  match d.entry, d.gate, d.queue, f.kind with
  | some i, some c, some q, .keys => keyFilterFrame f { entry := i, gate := c, queue := q } (countGated s)
  | some i, some c, some q, .point => padFilterFrame f { entry := i, gate := c, queue := q } (countGated s)
  | _, _, q, _ => forward q f s

/-- What follows a decision (R47 to R52). The Bool says acceptance. -/
def act (d : Decision) (port : UpPort) (f : Frame) (s : State) : Bool × State :=
  match d.action, consumerOf port f.kind with
  | .forward, _ => forwardDecided d f s
  | .tap, some c => forward d.queue f (consume c port f.payload s)
  | .tap, none => forward d.queue f s
  | .consume, some c => (true, consume c port f.payload s)
  | .consume, none => (true, countUnconsumed s)
  | .drop, _ => (true, s)

/-- A frame handed to the classifier by its port: looked up, counted and handled (R44, R53). The Bool says
acceptance. -/
def classify (port : UpPort) (f : Frame) (s : State) : Bool × State :=
  act (s.classifier.decision port f) port f (s.setClassifier (s.classifier.countMatch port f))

end Sys2Proof.Machine
end

