-- ==== Sys2Proof/Machine/LinkOps.lean ====
section
/-! DEFINITION. The Link Monitor: presence, identification, admission, keepalive and teardown (R9, R111 to
R123). -/

namespace Sys2Proof.Machine

/-! ### Identity payloads -/

/-- One descriptor from its three bytes, none where a field is out of range; bit 6 is ignored (R9). -/
def descriptorOf (b0 b1 b2 : Byte) : Option Descriptor :=
  if h : b0.toNat < 16 then
    match DeclaredKind.ofCode b1.toNat with
    | none => none
    | some k =>
      if b2.toNat % 64 ≤ Config.maxPayload then
        some { channel := ⟨b0.toNat, h⟩, kind := k, handshaked := b2.getLsbD 7,
               maxLength := b2.toNat % 64 }
      else none
  else none

/-- The descriptors of a list of bytes, three bytes each (R9). -/
def descriptorsOf : List Byte → Option (List Descriptor)
  | [] => some []
  | b0 :: b1 :: b2 :: rest =>
    match descriptorOf b0 b1 b2, descriptorsOf rest with
    | some d, some ds => some (d :: ds)
    | _, _ => none
  | _ => none

/-- No channel appears in two descriptors (R9). -/
def channelsDistinct (ds : List Descriptor) : Bool := decide (ds.map (fun d => d.channel)).Nodup

/-- What a well-shaped IDENT says of its base (R9). -/
structure Identity where
  cls : Byte
  revision : Byte
  layout : Byte
  requestedLoad : Nat
  descriptors : List Descriptor
  deriving DecidableEq, Repr

/-- The shape test of an IDENT payload and what it holds; the requested load is clamped to 40 (R9). -/
def identityOf : List Byte → Option Identity
  | cls :: revision :: layout :: load :: n :: rest =>
    if n.toNat ≤ 8 ∧ rest.length = 3 * n.toNat then
      match descriptorsOf rest with
      | none => none
      | some ds =>
        if channelsDistinct ds then
          some { cls := cls, revision := revision, layout := layout
                 requestedLoad := min load.toNat Config.maxLoad, descriptors := ds }
        else none
    else none
  | _ => none

/-! ### States and timers -/

/-- The three timers of the Link Monitor (R111). -/
structure LinkTimers where
  debounce : Timer := none
  ident : Timer := none
  alive : Timer := none
  deriving DecidableEq, Repr

/-- A move to a link state with the timers of that state, the others stopped; leaving IDENTIFY cancels a
pending IDENT_REQ, and entry to DETACHED sets the attempt count to 0 (R20, R111, R112). -/
def moveLink (x : LinkState) (t : LinkTimers) (s : State) : State :=
  let u := s.setLink { s.link with
    state := x
    debounce := t.debounce
    identTimer := t.ident
    alive := t.alive
    attempts := if x = .detached then 0 else s.link.attempts }
  if s.link.state = .identify ∧ x ≠ .identify then cancelIdent u else u

/-- The counters of the Link Monitor changed. -/
def countLink (f : LinkCounters → LinkCounters) (s : State) : State :=
  s.setLink { s.link with counters := f s.link.counters }

/-- CONTACT entered, with the debounce started (R112). -/
def enterContact (s : State) : State :=
  countLink (fun c => { c with contacts := satInc c.contacts })
    (moveLink .contact { debounce := some s.link.timing.contactDebounce } s)

/-- REJECTED entered, or kept, with its reason (R111, R114 to R116, R122). -/
def enterRejected (r : RejectReason) (s : State) : State :=
  let t := moveLink .rejected {} s
  deliver .reject (countLink (fun c => { c with rejections := satInc c.rejections })
    (t.setLink { t.link with lastReject := r }))

/-- An identity request: IDENT_REQ, Ident Timeout and counter (R113, R114). -/
def askIdentity (attempts : Nat) (s : State) : State :=
  let t := moveLink .identify { ident := some s.link.timing.identTimeout } s
  countLink (fun c => { c with identRequests := satInc c.identRequests })
    (requestIdent (t.setLink { t.link with attempts := attempts }))

/-! ### Admission and teardown -/

/-- The load cap under which a base is admitted, none where it is rejected (R116). -/
def Link.admissionCap (l : Link) (cls revision : Byte) : Option Nat :=
  if l.classes.toList.any (fun e => e.valid) then
    (l.classes.toList.find? (fun e => e.valid && e.cls == cls && decide (e.minRevision.toNat ≤ revision.toNat))).map
      (fun e => e.loadCap)
  else some l.defaultLoad

/-- The deliveries of an admission (R117). -/
def admissionDeliveries : List Delivery :=
  [.toggleAndHaltReset, .postureAdmission, .admissionGrant, .event .attach, .wakeSource .attach]

/-- The deliveries of a teardown (R120). -/
def teardownDeliveries : List Delivery :=
  [.toggleAndHaltReset, .transmitterTeardown, .inputGateTeardown, .postureTeardown, .railTeardown,
   .event .detach, .wakeSource .detach]

/-- The admission of a base (R117, R118). -/
def admitBase (i : Identity) (loadCap : Nat) (s : State) : State :=
  let t := moveLink .attached { alive := some s.link.timing.aliveWindow } s
  postAll admissionDeliveries
    (countLink (fun c => { c with admissions := satInc c.admissions })
      (t.setLink { t.link with record :=
        { valid := true, cls := i.cls, revision := i.revision, layout := i.layout
          requestedLoad := i.requestedLoad, loadCap := loadCap, attachTime := s.time
          descriptors := i.descriptors } }))

/-- The admission check (R116). -/
def checkAdmission (i : Identity) (s : State) : State :=
  match s.link.admissionCap i.cls i.revision with
  | some cap => admitBase i cap s
  | none => enterRejected .cls s

/-- The teardown in the Link Monitor, but for the move of the link state (R120). -/
def teardown (c : TeardownCause) (s : State) : State :=
  postAll teardownDeliveries
    (countLink (fun k => { k with teardowns := satInc k.teardowns })
      (s.setLink { s.link with alive := none, record := {}, lastTeardown := c }))

/-! ### Events of the Link Monitor -/

/-- PRESENCE asserted (R112). -/
def presenceUp (s : State) : State :=
  match s.link.state with
  | .detached | .rejected => enterContact s
  | _ => s

/-- PRESENCE released (R112). -/
def presenceDown (s : State) : State :=
  match s.link.state with
  | .detached => s
  | .contact | .identify | .rejected => moveLink .detached {} s
  | .attached | .suspect => moveLink .detached {} (teardown .presence s)

/-- Contact Debounce expires (R113). -/
def debounceExpired (s : State) : State := askIdentity 1 s

/-- Ident Timeout expires (R114). -/
def identExpired (s : State) : State :=
  if s.link.attempts < Config.identAttempts then askIdentity (s.link.attempts + 1) s
  else enterRejected .noAnswer s

/-- A well-shaped IDENT, by link state (R115). -/
def takeIdentity (i : Identity) (s : State) : State :=
  match s.link.state with
  | .detached | .contact =>
    countLink (fun c => { c with ignoredIdents := satInc c.ignoredIdents }) s
  | .identify | .rejected => checkAdmission i s
  | .attached | .suspect => checkAdmission i (teardown .reident s)

/-- A malformed IDENT, by link state (R115). -/
def takeMalformed (s : State) : State :=
  if s.link.state.attachedOrSuspect then enterRejected .shape (teardown .reident s)
  else enterRejected .shape s

/-- An IDENT handed to the Link Monitor (R115). -/
def takeIdent (payload : List Byte) (s : State) : State :=
  match identityOf payload with
  | some i => takeIdentity i s
  | none => takeMalformed s

/-- A live frame (R119). -/
def liveFrame (s : State) : State :=
  match s.link.state with
  | .attached => s.setLink { s.link with alive := some s.link.timing.aliveWindow }
  | .suspect =>
    countLink (fun c => { c with recoveries := satInc c.recoveries })
      (moveLink .attached { alive := some s.link.timing.aliveWindow } s)
  | _ => s

/-- The Alive Window expires (R119). -/
def aliveExpired (s : State) : State :=
  match s.link.state with
  | .attached =>
    deliver .suspect (countLink (fun c => { c with suspects := satInc c.suspects })
      (moveLink .suspect { alive := some s.link.timing.aliveWindow } s))
  | .suspect =>
    let t := teardown .silence s
    if t.lines.presence then enterContact t else moveLink .detached {} t
  | _ => s

end Sys2Proof.Machine
end

