-- ==== Sys2Proof/Machine/PortOps.lean ====
section
/-! DEFINITION. Reception at the B-, L- and P-ports, the downstream handshake and the B-port transmitter's
events (R3, R11 to R18, R20 to R22). -/

namespace Sys2Proof.Machine

/-! ### Counters -/

/-- The counters of the B-port changed. -/
def countB (f : BCounters → BCounters) (s : State) : State :=
  s.setBport { s.bport with counters := f s.bport.counters }

/-- The counters of the L-port changed. -/
def countL (f : LCounters → LCounters) (s : State) : State :=
  s.setLport { s.lport with counters := f s.lport.counters }

/-- The counters of the P-port changed. -/
def countP (f : PCounters → PCounters) (s : State) : State :=
  s.setPport { s.pport with counters := f s.pport.counters }

/-- The counters of the S-port changed. -/
def countS (f : SCounters → SCounters) (s : State) : State :=
  s.setSport { s.sport with counters := f s.sport.counters }

/-! ### B-port reception -/

/-- The descriptor of a channel in the Base Record (R12). -/
def Link.descriptor (l : Link) (c : Chan) : Option Descriptor :=
  l.record.descriptors.find? (fun d => d.channel == c)

/-- A symbol for a channel, on a handshaked channel only (R13 to R15). -/
def answer (d : Descriptor) (t : SymbolType) (c : Chan) (s : State) : State :=
  if d.handshaked then oweSymbol t c s else s

/-- The expected toggle of a channel inverted (R14). -/
def invertToggle (c : Chan) (s : State) : State :=
  s.setBport { s.bport with toggles := s.bport.toggles.set c (!s.bport.toggles[c]) }

/-- The outcome of classification at the B-port: acceptance or refusal (R15). -/
def settle (d : Descriptor) (c : Chan) (accepted : Bool) (s : State) : State :=
  if accepted then
    if d.handshaked then invertToggle c (oweSymbol .ack c s) else s
  else answer d .nak c (countB (fun k => { k with refused := satInc k.refused }) s)

/-- The checks of a declared channel's frame: halt, toggle, length; then classification (R13 to R15). -/
def checkDeclared (d : Descriptor) (f : Frame) (s : State) : State :=
  let c := f.channel
  if s.bport.halts[c] then
    answer d .halt c (countB (fun k => { k with halted := satInc k.halted }) s)
  else if d.handshaked && f.toggle != s.bport.toggles[c] then
    oweSymbol .ack c (countB (fun k => { k with duplicates := satInc k.duplicates }) s)
  else if d.maxLength < f.payload.length then
    reportError .overlength .b f.raw
      (answer d .nak c (countB (fun k => { k with overlength := satInc k.overlength }) s))
  else
    let r := classify .b f s
    settle d c r.1 r.2

/-- The checks against the attached base (R12). -/
def checkAttached (f : Frame) (s : State) : State :=
  if s.link.state.attachedOrSuspect then
    match s.link.descriptor f.channel with
    | none =>
      reportError .undeclared .b f.raw
        (countB (fun k => { k with undeclared := satInc k.undeclared }) s)
    | some d =>
      if f.kind = d.kind.kind then checkDeclared d f s
      else
        reportError .kindMismatch .b f.raw
          (countB (fun k => { k with kindMismatch := satInc k.kindMismatch }) s)
  else
    reportError .notAttached .b f.raw
      (countB (fun k => { k with notAttached := satInc k.notAttached }) s)

/-- A frame that passed both checks at the B-port: live, then IDENT and ALIVE to the Link Monitor, any
other kind to the checks (R11). -/
def takeBaseFrame (f : Frame) (s : State) : State :=
  let t := liveFrame s
  match f.kind with
  | .ident =>
    takeIdent f.payload (countB (fun k => { k with identAlive := satInc k.identAlive }) t)
  | .alive => countB (fun k => { k with identAlive := satInc k.identAlive }) t
  | _ => checkAttached f t

/-- A unit of two or more bytes at the B-port (R3, R11). -/
def receiveB (unit : List Byte) (s : State) : State :=
  let t := countB (fun k => { k with received := satInc k.received })
    (s.setBport { s.bport with staging := stage unit })
  if frameCheckPasses unit then
    match headerCheck .b unit with
    | some f => takeBaseFrame f t
    | none =>
      reportError .header .b unit (countB (fun k => { k with headerErrors := satInc k.headerErrors }) t)
  else
    reportError .crc .b unit (countB (fun k => { k with checkFailures := satInc k.checkFailures }) t)

/-! ### L-port and P-port reception -/

/-- What a unit leaves in a staging frame: a symbol is discarded, a longer unit is staged (R3). -/
def staged (old unit : List Byte) : List Byte := if unit.length ≤ 1 then old else stage unit

/-- The gap test of a well-shaped sample. A SAMPLE of another length takes no part in it, as R17 says; R8 says
that the gap test is the same for it as for a frame of correct shape (DEDUCED, assumption 36). -/
def gapTest (payload : List Byte) (s : State) : State :=
  if payload.length = 8 then
    let n := word16 (unitByte payload 0) (unitByte payload 1)
    let gap := s.lport.lastValid && n != s.lport.lastCounter + 1
    s.setLport { s.lport with
      lastCounter := n
      lastValid := true
      counters := { s.lport.counters with
        gaps := if gap then satInc s.lport.counters.gaps else s.lport.counters.gaps } }
  else s

/-- A unit at the L-port, a symbol included (R3, R17). -/
def receiveL (unit : List Byte) (s : State) : State :=
  let t := countL (fun k => { k with received := satInc k.received })
    (s.setLport { s.lport with staging := staged s.lport.staging unit })
  if frameCheckPasses unit then
    match headerCheck .l unit with
    | some f => (classify .l f (gapTest f.payload t)).2
    | none =>
      reportError .header .l unit (countL (fun k => { k with headerErrors := satInc k.headerErrors }) t)
  else
    reportError .crc .l unit (countL (fun k => { k with checkFailures := satInc k.checkFailures }) t)

/-- A unit at the P-port, a symbol included (R3, R18). -/
def receiveP (unit : List Byte) (s : State) : State :=
  let t := countP (fun k => { k with received := satInc k.received })
    (s.setPport { s.pport with staging := staged s.pport.staging unit })
  if frameCheckPasses unit then
    match headerCheck .p unit with
    | some f => (classify .p f t).2
    | none =>
      reportError .header .p unit (countP (fun k => { k with headerErrors := satInc k.headerErrors }) t)
  else
    reportError .crc .p unit (countP (fun k => { k with checkFailures := satInc k.checkFailures }) t)

/-! ### The downstream handshake -/

/-- The channel of the frame in a buffer (R21). -/
def frameChannel (i : BufIdx) (s : State) : Chan := channelField s.pool.bufs[i]

/-- The wait ends and no downstream frame is awaited (R21). -/
def endWait (s : State) : State :=
  s.setBport { s.bport with awaiting := none, handshakeWait := none }

/-- The awaited frame is acknowledged (R21). -/
def acknowledge (i : BufIdx) (s : State) : State :=
  releaseBuffer i (countB (fun k => { k with downAcked := satInc k.downAcked }) (endWait s))

/-- The awaited frame is dropped: counted, DOWN_FAIL delivered (R21). -/
def dropAwaited (i : BufIdx) (s : State) : State :=
  deliver .downFail
    (releaseBuffer i (countB (fun k => { k with downFailed := satInc k.downFailed }) (endWait s)))

/-- A stray symbol (R21). -/
def countStray (s : State) : State :=
  countB (fun k => { k with straySymbols := satInc k.straySymbols }) s

/-- The channel of a symbol (R3). -/
def symbolChannel (b : Byte) : Chan := Fin.ofNat 16 (b.toNat % 16)

/-- A symbol received on the B-port: where it ends the wait, the transmitter looks for work (R20, R21). -/
def takeSymbol (b : Byte) (s : State) : State :=
  match s.bport.awaiting with
  | none => countStray s
  | some i =>
    if symbolChannel b = frameChannel i s then
      match SymbolType.ofCode (b.toNat / 16) with
      | some .ack => bLook (acknowledge i s)
      | some .nak | some .halt => bLook (dropAwaited i s)
      | none => countStray s
    else countStray s

/-! ### The B-port transmitter's own events -/

/-- The list after its head was sent: it leaves unless a newer symbol of its channel took its place
(R16; assumption 5). -/
def afterSymbol : List OwedSymbol → List OwedSymbol
  | [] => []
  | o :: rest => if o.started then rest else o :: rest

/-- The last bit of a symbol is sent (R16). -/
def symbolSent (s : State) : State :=
  match s.bport.sending with
  | .symbol _ _ =>
    bLook (s.setBport { s.bport with sending := .idle, owed := afterSymbol s.bport.owed })
  | _ => s

/-- The last byte of an IDENT_REQ or GRANT frame is sent (R20). -/
def partFrameSent (s : State) : State :=
  match s.bport.sending with
  | .partOriginated i => bLook (releaseBuffer i (s.setBport { s.bport with sending := .idle }))
  | _ => s

/-- The last byte of a downstream frame is sent: the handshake wait starts (R21). -/
def downFrameSent (s : State) : State :=
  match s.bport.sending with
  | .downstream i =>
    bLook (s.setBport { s.bport with
      sending := .idle
      awaiting := some i
      handshakeWait := some Config.handshakeWait })
  | _ => s

/-- A downstream frame abandoned at a teardown: counted and its buffer released (R22). -/
def abandon (i : BufIdx) (s : State) : State :=
  releaseBuffer i (countB (fun k => { k with downAbandoned := satInc k.downAbandoned }) s)

/-- The buffer of a unit cut short is released; a downstream frame is counted abandoned (R22). -/
def cutShort (b : BSending) (s : State) : State :=
  match b with
  | .idle | .symbol _ _ => s
  | .partOriginated i => releaseBuffer i s
  | .downstream i => abandon i s

/-- A flush of a queue: its buffers join the Free List, with one buffer-available event if it moved any
(R34, R37). -/
def flushQueue (q : QueueId) (s : State) : State :=
  let t := s.setPool (s.pool.flush q)
  if (s.pool.queue q).items = [] then t else bufferAvailable t

/-- The teardown at the B-port transmitter: work stopped, buffers released, then QD flushed (R22, R37). -/
def stopTransmitter (s : State) : State :=
  let b := s.bport
  let stopped := s.setBport { b with
    owed := [], pendingGrant := none, sending := .idle, awaiting := none, handshakeWait := none }
  let cut := cutShort b.sending stopped
  let freed := match b.awaiting with
    | none => cut
    | some i => abandon i cut
  flushQueue .qd freed

end Sys2Proof.Machine
end

