-- ==== Sys2Proof/Machine/PowerOps.lean ====
section
/-! DEFINITION. The Power Policy Unit: the sleep vote, activity, host reports, wake latches and waking (R155
to R166). -/

namespace Sys2Proof.Machine

/-- The counters of the Power Policy Unit changed. -/
def countPower (f : PowerCounters → PowerCounters) (s : State) : State :=
  s.setPower { s.power with counters := f s.power.counters }

/-! ### The vote -/

/-- The idle timer an idle timeout starts, none for 0 (R157). -/
def idleTimerOf (timeout : Nat) : Timer := if timeout = 0 then none else some timeout

/-- AWAKE entered, with the reason test on a row (R157). -/
def Power.awake (p : Power) (row : PolicyRow) : Power :=
  match row.sleepDelay with
  | some d =>
    { p with vote := .pending, reason := .closed, sleepDelay := some d, idle := none, wakeLine := false }
  | none =>
    { p with
      vote := .awake
      reason := .none
      sleepDelay := none
      idle := idleTimerOf row.idleTimeout
      wakeLine := false }

/-- AWAKE entered under a row (R157). -/
def enterAwake (row : PolicyRow) (s : State) : State := s.setPower (s.power.awake row)

/-- A request withdrawn, and AWAKE entered under a row (R162). -/
def withdraw (row : PolicyRow) (s : State) : State :=
  deliver .sleepWithdrawn
    (countPower (fun c => { c with withdrawals := satInc c.withdrawals }) (enterAwake row s))

/-- The latches at an entry to ASLEEP: LID_OPEN as its condition stands, every edge latch clear (R165). -/
def Power.latchSetup (p : Power) : BitVec 8 := setBit 0 lidOpenIndex p.lidOpen

/-- ASLEEP entered, with the latch setup (R163, R165). -/
def enterAsleep (s : State) : State :=
  countPower (fun c => { c with sleepEntries := satInc c.sleepEntries })
    (s.setPower { s.power with
      vote := .asleep
      reason := .none
      sleepDelay := none
      idle := none
      wakeLine := false
      latches := s.power.latchSetup })

/-! ### Wake sources -/

/-- The number of sources in a mask. -/
def maskCount (m : BitVec 8) : Nat := ((List.range 8).filter (fun i => m.getLsbD i)).length

/-- The vote is ASLEEP or WAKING: the latches follow the sources (R165). -/
def Power.sleeping (p : Power) : Bool :=
  match p.vote with
  | .asleep | .waking => true
  | _ => false

/-- WAKING entered for the sources that woke (R166). -/
def wakeUp (cause : BitVec 8) (s : State) : State :=
  deliver .wake (countPower (fun c => { c with wakes := satInc c.wakes })
    (s.setPower { s.power with vote := .waking, wakeLine := true, cause := cause }))

/-- Occurrences of sources, as a mask: latches rise, rises of disabled sources are counted, and in ASLEEP a
rise of an enabled source wakes (R165, R166). Nothing while the vote is neither ASLEEP nor WAKING. -/
def raiseSources (m : BitVec 8) (s : State) : State :=
  if s.power.sleeping then
    let p := s.power
    let rises := m &&& ~~~p.latches
    let t := s.setPower { p with
      latches := p.latches ||| m
      counters := { p.counters with
        wakeSuppressed := satAdd p.counters.wakeSuppressed (maskCount (rises &&& ~~~p.enables)) } }
    if p.vote = .asleep ∧ rises &&& p.enables ≠ 0 then wakeUp (rises &&& p.enables) t else t
  else s

/-- An edge source's occurrence (R165). -/
def edgeOccurs (e : EdgeSource) (s : State) : State := raiseSources (setBit 0 (edgeIndex e) true) s

/-- The LID_OPEN condition of a posture (R164). -/
def lidOpenIn : Posture → Bool
  | .closed | .detached => false
  | _ => true

/-- The sources a posture change event raises, given whether the LID_OPEN condition goes true (R164,
R165). -/
def postureSources (opens : Bool) : BitVec 8 :=
  setBit (setBit 0 postureSourceIndex true) lidOpenIndex opens

/-- The wake source handling of a posture change event: the LID_OPEN condition is updated in every vote
state, and while the vote is ASLEEP or WAKING its latch follows it and POSTURE occurs (R164, R165). -/
def postureWake (new : Posture) (s : State) : State :=
  let was := s.power.lidOpen
  let is := lidOpenIn new
  let falls := was && !is && s.power.sleeping
  raiseSources (postureSources (!was && is))
    (s.setPower { s.power with
      lidOpen := is
      latches := if falls then setBit s.power.latches lidOpenIndex false else s.power.latches })

/-! ### Events of the Power Policy Unit -/

/-- The activity time takes the Time Count (R158). -/
def noteActivity (s : State) : State := s.setPower { s.power with activityTime := s.time }

/-- The row of the current posture as it stands (R157). -/
def rowNow (s : State) : PolicyRow := s.posture.currentRow

/-- Key or pad activity (R158; for the first event after a reset, R155 and assumption 34). -/
def activity (s : State) : State :=
  let t := noteActivity s
  match t.power.vote, t.power.reason with
  | .awake, _ =>
    if (rowNow t).idleTimeout = 0 then t
    else t.setPower { t.power with idle := some (rowNow t).idleTimeout }
  | .pending, .idle => enterAwake (rowNow t) t
  | .requested, .idle => withdraw (rowNow t) t
  | _, _ => t

/-- A posture change event, with the row of the new posture (R158, R160, R165). -/
def powerPostureChanged (new : Posture) (row : PolicyRow) (s : State) : State :=
  let t := postureWake new (noteActivity s)
  match s.power.vote with
  | .awake | .pending => enterAwake row t
  | .requested => withdraw row t
  | .asleep | .waking => t

/-- The end of a reason at a policy event (R161). -/
def endReason (row : PolicyRow) (s : State) : State :=
  if s.power.vote = .requested then withdraw row s else enterAwake row s

/-- A policy event with reason CLOSED held, by the row's sleep action (R161). -/
def policyClosed (row : PolicyRow) (s : State) : State :=
  match row.sleepDelay with
  | none => endReason row s
  | some d =>
    if s.power.vote = .pending then s.setPower { s.power with sleepDelay := some d } else s

/-- A policy event (R161). -/
def powerPolicyChanged (row : PolicyRow) (s : State) : State :=
  match s.power.vote with
  | .awake => enterAwake row s
  | .pending | .requested =>
    match s.power.reason with
    | .idle => if row.idleTimeout = 0 then endReason row s else s
    | _ => policyClosed row s
  | .asleep | .waking => s

/-- The idle timer expires (R159). -/
def idleExpired (s : State) : State :=
  s.setPower { s.power with vote := .pending, reason := .idle, idle := none, sleepDelay := some 0 }

/-- The Sleep Delay expires (R162). -/
def sleepDelayExpired (s : State) : State :=
  deliver .sleepRequest (countPower (fun c => { c with sleepRequests := satInc c.sleepRequests })
    (s.setPower { s.power with vote := .requested, sleepDelay := none }))

/-- The host power state takes a reported value; a change is delivered to the Charge Controller (R163). -/
def setHost (h : HostPower) (s : State) : State :=
  let t := s.setPower { s.power with host := h }
  if h = s.power.host then t else post (.capChange .hostState) t

/-- A host report, by vote state (R163). -/
def hostReport (h : HostPower) (s : State) : State :=
  match s.power.vote, h with
  | .awake, .active | .pending, .active | .requested, .active => s
  | .asleep, .active | .waking, .active => enterAwake (rowNow s) (setHost h s)
  | .asleep, _ => setHost h s
  | _, _ => enterAsleep (setHost h s)

/-- The latches after a Wake Table write: a source newly enabled is re-latched, in every vote state (R164; beside
R165's record of the last sleep, assumption 33). -/
def Power.relatch (p : Power) (mask : BitVec 8) : BitVec 8 :=
  let fresh := mask &&& ~~~p.enables
  (p.latches &&& ~~~fresh) ||| (fresh &&& setBit 0 lidOpenIndex p.lidOpen)

/-- The Wake Table written, with the re-latching of R164 (assumption 33). -/
def writeEnables (mask : BitVec 8) (s : State) : State :=
  s.setPower { s.power with enables := mask, latches := s.power.relatch mask }

end Sys2Proof.Machine
end

