-- ==== Sys2Proof/Machine/BlockEvents.lean ====
section
/-! DEFINITION. The meanings of the events inside the part: what one block delivered and another takes (rows
OWED_FRAME_EMISSION to EVENT_DELIVERY of the opcode table). Each takes the oldest delivery on its route,
and changes nothing where no such delivery is next (assumption 3). -/

namespace Sys2Proof.Machine

/-! ### Retries and emissions -/

/-- OWED_FRAME_EMISSION (R33). -/
def execOwedFrameEmission (s : State) : Host.Outcome State Fault Refusal :=
  .next (takingOne .owedEmission (fun t => sLook (emitOwed t)) s)

/-- PENDING_ITEM_RETRY (R20, R34). -/
def execPendingItemRetry (s : State) : Host.Outcome State Fault Refusal :=
  .next (takingOne .itemRetry bLook s)

/-- The occasion of a release retry. -/
def releaseOccasion : Delivery → Option RetryOccasion
  | .releaseRetry o => some o
  | _ => none

/-- A retry of the pending release where the occasion concerns it (R104). -/
def tryRelease (o : RetryOccasion) (s : State) : State :=
  if o.concerns s.gate.key.pending then retryRelease s else s

/-- RELEASE_RETRY (R104). -/
def execReleaseRetry (s : State) : Host.Outcome State Fault Refusal :=
  .next (taking (.sTransmitter, .keyFilter) releaseOccasion
    (fun o t => sLook (tryRelease o t)) s)

/-- The occasion of a lift retry. -/
def liftOccasion : Delivery → Option RetryOccasion
  | .liftRetry o => some o
  | _ => none

/-- A retry of the pending lift where the occasion concerns it (R108). -/
def tryLift (o : RetryOccasion) (s : State) : State :=
  if o.concerns s.gate.pad.pending then retryLift s else s

/-- LIFT_RETRY (R108). -/
def execLiftRetry (s : State) : Host.Outcome State Fault Refusal :=
  .next (taking (.sTransmitter, .padFilter) liftOccasion
    (fun o t => sLook (tryLift o t)) s)

/-! ### The Input Gate -/

/-- The gate mask of a posture change or policy event. -/
def gateMaskOf : Delivery → Option (BitVec 8)
  | .gateUpdate _ m => some m
  | _ => none

/-- GATE_UPDATE (R97). -/
def execGateUpdate (padFirst : Bool) (s : State) : Host.Outcome State Fault Refusal :=
  .next (taking (.postureEngine, .inputGate) gateMaskOf
    (fun m t => sLook (updateGates m padFirst t)) s)

/-- INPUT_GATE_TEARDOWN (R106, R109). -/
def execInputGateTeardown (padFirst : Bool) (s : State) : Host.Outcome State Fault Refusal :=
  .next (takingOne .inputGateTeardown (fun t => sLook (gateTeardown padFirst t)) s)

/-! ### Admission and teardown -/

/-- The Posture Engine at an admission: Hinge Record and candidate cleared, posture UNKNOWN (R69, R84). -/
def PostureEngine.admitted (p : PostureEngine) (time : Half) : PostureEngine :=
  { p with hinge := 0, hingeValid := false }.override .unknown time

/-- The admission at the Posture Engine, reported (R84, R95, R96). -/
def admitPosture (s : State) : State :=
  reportPosture s.posture (s.setPosture (s.posture.admitted s.time))

/-- POSTURE_ADMISSION (R84). -/
def execPostureAdmission (s : State) : Host.Outcome State Fault Refusal :=
  .next (takingOne .postureAdmission (fun t => sLook (admitPosture t)) s)

/-- The teardown at the Posture Engine, reported (R84, R95, R96). -/
def tearPosture (s : State) : State :=
  reportPosture s.posture (s.setPosture (s.posture.override .detached s.time))

/-- POSTURE_TEARDOWN (R84). -/
def execPostureTeardown (s : State) : Host.Outcome State Fault Refusal :=
  .next (takingOne .postureTeardown (fun t => sLook (tearPosture t)) s)

/-- Every expected toggle 0 and every halt flag clear (R13, R14). -/
def resetToggles (s : State) : State :=
  s.setBport { s.bport with toggles := Vector.replicate 16 false, halts := Vector.replicate 16 false }

/-- TOGGLE_AND_HALT_RESET (R14). -/
def execToggleAndHaltReset (s : State) : Host.Outcome State Fault Refusal :=
  .next (takingOne .toggleAndHaltReset resetToggles s)

/-- TRANSMITTER_TEARDOWN (R22). -/
def execTransmitterTeardown (s : State) : Host.Outcome State Fault Refusal :=
  .next (takingOne .transmitterTeardown (fun t => bLook (stopTransmitter t)) s)

/-- ADMISSION_GRANT (R130): a GRANT requested is a cause for the B-port transmitter to look for work (R20). -/
def execAdmissionGrant (s : State) : Host.Outcome State Fault Refusal :=
  .next (takingOne .admissionGrant (fun t => if grantFits t then bLook (admitLoad t) else admitLoad t) s)

/-- RAIL_TEARDOWN (R133). -/
def execRailTeardown (s : State) : Host.Outcome State Fault Refusal :=
  .next (takingOne .railTeardown releaseLoad s)

/-! ### Charge Controller and Power Policy Unit -/

/-- What a cap change carries. -/
def capEventOf : Delivery → Option CapEvent
  | .capChange e => some e
  | _ => none

/-- CAP_CHANGE (R141): whatever it carries, the caps are read as they stand when it is taken. -/
def execCapChange (cause : CapCause) (s : State) : Host.Outcome State Fault Refusal :=
  .next (taking (capRoute cause) capEventOf (fun _ t => bLookAfter s (takeCapChange t)) s)

/-- What a posture change event carries to the Power Policy Unit. -/
def powerChangeOf : Delivery → Option (Posture × PolicyRow)
  | .powerPostureChange _ new row => some (new, row)
  | _ => none

/-- POWER_POSTURE_CHANGE (R160). -/
def execPowerPostureChange (s : State) : Host.Outcome State Fault Refusal :=
  .next (taking (.postureEngine, .powerPolicy) powerChangeOf
    (fun c => powerPostureChanged c.1 c.2) s)

/-- The row of a policy event. -/
def powerRowOf : Delivery → Option PolicyRow
  | .powerPolicyEvent _ row => some row
  | _ => none

/-- POWER_POLICY_EVENT (R161). -/
def execPowerPolicyEvent (s : State) : Host.Outcome State Fault Refusal :=
  .next (taking (.postureEngine, .powerPolicy) powerRowOf powerPolicyChanged s)

/-- ACTIVITY_EVENT (R158). -/
def execActivityEvent (filter : InputFilter) (s : State) : Host.Outcome State Fault Refusal :=
  .next (takingOne (.activity filter) activity s)

/-- WAKE_SOURCE_EVENT (R165). -/
def execWakeSourceEvent (source : EdgeSource) (s : State) : Host.Outcome State Fault Refusal :=
  .next (takingOne (.wakeSource source) (edgeOccurs source) s)

/-! ### The Management Unit -/

/-- The delivery that brings an event to the Management Unit. -/
def managementDelivery : ManagementEvent → Delivery
  | .cause c => .event c
  | .stateRequest => .stateRequest

/-- What the Management Unit does with an event: the flag of a cause (R173), or a STATE frame (R32, R96). -/
def takeManagementEvent (e : ManagementEvent) (s : State) : State :=
  match e with
  | .cause c => takeEvent c s
  | .stateRequest => requestState s

/-- EVENT_DELIVERY (R173; for a STATE request R96 and assumption 35). -/
def execEventDelivery (event : ManagementEvent) (s : State) : Host.Outcome State Fault Refusal :=
  .next (takingOne (managementDelivery event) (fun t => sLook (takeManagementEvent event t)) s)

end Sys2Proof.Machine
end

