-- ==== Sys2Proof/Machine/EventCommands.lean ====
section
/-! DEFINITION. The management commands over the queues, the event flags, the error log and the counters (R26,
R37, R56, R170, R175, R176). -/

namespace Sys2Proof.Machine

/-! ### Queues -/

/-- SET_QUEUE (R26). -/
def cmdSetQueue (args : List Byte) (s : State) : Answer :=
  match args with
  | [index, limit, policy] =>
    match QueueId.ofCode index.toNat with
    | none => refuse .badIndex s
    | some q =>
      if !inRange q.leastLimit 48 limit.toNat then refuse .badValue s
      else
        match policyOf q policy with
        | none => refuse .badValue s
        | some v =>
          if limit.toNat < (s.pool.queue q).items.length then refuse .busy s
          else
            okay [] (s.setPool (s.pool.setQueue q
              { s.pool.queue q with limit := limit.toNat, policy := v }))
  | _ => refuse .badLength s

/-- FLUSH_QUEUE: the flush, then the dequeue delivered to the Input Gate (R37). -/
def cmdFlushQueue (args : List Byte) (s : State) : Answer :=
  match args with
  | [index] =>
    match flushableOf index with
    | none => refuse .badIndex s
    | some q => okay [] (dequeued q (flushQueue q s))
  | _ => refuse .badLength s

/-- The policy byte of READ_QUEUES, 255 for Q0 (R170). -/
def policyByte : Option OverflowPolicy → Byte
  | none => 255
  | some p => byteNat p.code

/-- The counters of a queue as bytes (R38, R170). -/
def queueCounterBytes (c : QueueCounters) : List Byte :=
  [c.placed, c.sent, c.evicted, c.refused, c.noBuffer, c.flushed, c.owed, c.overrun].flatMap le16Nat

/-- The 22 bytes of READ_QUEUES (R170). -/
def queueBytes (p : Pool) (q : QueueId) : List Byte :=
  let v := p.queue q
  [byteNat q.code, byteNat v.items.length, byteNat v.limit, policyByte v.policy, byteNat v.peak,
   byteNat p.free.length] ++ queueCounterBytes v.counters

/-- A queue's counters zeroed and its peak set to its present length (R38). -/
def Queue.cleared (v : Queue) : Queue := { v with counters := {}, peak := v.items.length }

/-- READ_QUEUES (R38, R170). -/
def cmdReadQueues (args : List Byte) (s : State) : Answer :=
  match args with
  | [index, option] =>
    match QueueId.ofCode index.toNat with
    | none => refuse .badIndex s
    | some q =>
      match flagOf option with
      | none => refuse .badValue s
      | some clear =>
        okay (queueBytes s.pool q)
          (if clear then s.setPool (s.pool.setQueue q (s.pool.queue q).cleared) else s)
  | _ => refuse .badLength s

/-! ### Event flags -/

/-- READ_EVENTS (R175). -/
def cmdReadEvents (args : List Byte) (s : State) : Answer :=
  match args with
  | [] =>
    okay (le16 s.mgmt.flags ++ le16 s.mgmt.enables ++ le16 s.mgmt.owedNotices
      ++ [byteBool s.mgmt.owedState]) s
  | _ => refuse .badLength s

/-- Flags cleared: the causes leave the owed-notice set too, and ATTN is recomputed (R33, R175). -/
def Mgmt.clearFlags (m : Mgmt) (mask : BitVec 16) : Mgmt :=
  { m with flags := m.flags &&& ~~~mask, owedNotices := m.owedNotices &&& ~~~mask }.refreshAttn

/-- CLEAR_EVENTS (R175). -/
def cmdClearEvents (args : List Byte) (s : State) : Answer :=
  match args with
  | [m0, m1] =>
    let m := s.mgmt.clearFlags (word16 m0 m1)
    okay (le16 m.flags) (s.setMgmt m)
  | _ => refuse .badLength s

/-- NOTE frames requested for these causes, in order, where the cause is newly on, its flag set and no notice
of it owed (R174, R175). -/
def announce (fresh : BitVec 16) : List EventCause → State → State
  | [], s => s
  | c :: cs, s =>
    if hasCause fresh c && hasCause s.mgmt.flags c && !hasCause s.mgmt.owedNotices c then
      announce fresh cs (requestNote c s)
    else announce fresh cs s

/-- The enables set to a mask, with the notices of the causes it turns on and ATTN recomputed (R174, R175;
a cause already on is not turned on, assumption 14). -/
def setEnables (mask : BitVec 16) (s : State) : State :=
  announce (mask &&& ~~~s.mgmt.enables) allCauses
    (s.setMgmt { s.mgmt with enables := mask }.refreshAttn)

/-- SET_EVENT_ENABLE (R175). -/
def cmdSetEventEnable (args : List Byte) (s : State) : Answer :=
  match args with
  | [m0, m1] => okay [] (setEnables (word16 m0 m1) s)
  | _ => refuse .badLength s

/-! ### The Frame Error Log -/

/-- The ten bytes of READ_LOG (R56, R170). -/
def logBytes (l : ErrorLog) : List Byte :=
  [byteBool l.valid, byteNat l.reason.code, byteNat l.port.code, l.kind.setWidth 8,
   l.channel.setWidth 8, l.dest.setWidth 8, l.length] ++ le16 l.time ++ [byteNat l.overflow]

/-- READ_LOG (R56). -/
def cmdReadLog (args : List Byte) (s : State) : Answer :=
  match args with
  | [] => okay (logBytes s.classifier.log.shown) s
  | _ => refuse .badLength s

/-- CLEAR_LOG (R56). -/
def cmdClearLog (args : List Byte) (s : State) : Answer :=
  match args with
  | [] =>
    okay [] (s.setClassifier { s.classifier with
      log := { s.classifier.log with valid := false, overflow := 0 } })
  | _ => refuse .badLength s

/-! ### Counters -/

/-- The counters of a group, in the order of their tables (R176). -/
def groupCounters (g : Fin 11) (s : State) : List Counter :=
  let b := s.bport.counters
  let l := s.lport.counters
  let p := s.pport.counters
  let h := s.sport.counters
  let k := s.gate.key.counters
  let d := s.gate.pad.counters
  let n := s.link.counters
  let r := s.rail.counters
  let c := s.charge.counters
  let w := s.power.counters
  let m := s.mgmt.counters
  match g with
  | 0 => [b.received, b.checkFailures, b.headerErrors, b.identAlive, b.notAttached, b.undeclared,
      b.kindMismatch, b.halted, b.duplicates, b.overlength, b.refused]
  | 1 => [b.shapeErrors, b.straySymbols, b.downSent, b.downAcked, b.downFailed, b.downAbandoned]
  | 2 => [l.received, l.checkFailures, l.headerErrors, l.gaps, l.shapeErrors, p.received,
      p.checkFailures, p.headerErrors, p.shapeErrors]
  | 3 => [h.received, h.checkFailures, h.headerErrors, h.mgmtFrames, h.badDest, h.downAccepted,
      s.classifier.classified, s.classifier.gated, s.classifier.unconsumed]
  | 4 => [k.forwarded, k.refused, k.unchanged, k.suppressed, k.foreign, k.fixups, k.overflow,
      k.releases, k.releaseFailures]
  | 5 => [d.forwarded, d.refused, d.suppressed, d.awaitLiftDrops, d.lifts, d.liftFailures]
  | 6 => [n.contacts, n.identRequests, n.admissions, n.rejections, n.ignoredIdents, n.suspects,
      n.recoveries, n.teardowns]
  | 7 => [r.grants, r.deferredGrants, r.limitedGrants, r.deferredBudgets, r.clippedRequests]
  | 8 => [c.pings, c.starvedPings, c.unanswered, c.aborted, c.sessions, c.topOffs, c.removals,
      c.faults, c.lockouts, c.ignoredFrames]
  | 9 => [w.sleepRequests, w.withdrawals, w.sleepEntries, w.wakes, w.wakeSuppressed]
  | 10 => [m.commands, m.notOk, m.notices, m.stateReports]

/-- The counters of a group zeroed, others untouched (R176). -/
def clearGroup (g : Fin 11) (s : State) : State :=
  let b := s.bport.counters
  match g with
  | 0 =>
    s.setBport { s.bport with counters :=
      { shapeErrors := b.shapeErrors, straySymbols := b.straySymbols, downSent := b.downSent
        downAcked := b.downAcked, downFailed := b.downFailed, downAbandoned := b.downAbandoned } }
  | 1 =>
    s.setBport { s.bport with counters :=
      { b with
        shapeErrors := 0, straySymbols := 0, downSent := 0, downAcked := 0, downFailed := 0
        downAbandoned := 0 } }
  | 2 =>
    (s.setLport { s.lport with counters := {} }).setPport { s.pport with counters := {} }
  | 3 =>
    (s.setSport { s.sport with counters := {} }).setClassifier
      { s.classifier with classified := 0, gated := 0, unconsumed := 0 }
  | 4 => setKey { s.gate.key with counters := {} } s
  | 5 => setPad { s.gate.pad with counters := {} } s
  | 6 => s.setLink { s.link with counters := {} }
  | 7 => s.setRail { s.rail with counters := {} }
  | 8 => s.setCharge { s.charge with counters := {} }
  | 9 => s.setPower { s.power with counters := {} }
  | 10 => s.setMgmt { s.mgmt with counters := {} }

/-- The data of READ_COUNTERS: group, number and counters (R176). -/
def groupBytes (g : Fin 11) (s : State) : List Byte :=
  [byteNat g.val, byteNat (groupCounters g s).length] ++ (groupCounters g s).flatMap le16Nat

/-- READ_COUNTERS (R176). -/
def cmdReadCounters (args : List Byte) (s : State) : Answer :=
  match args with
  | [group, option] =>
    match finOf 11 group with
    | none => refuse .badIndex s
    | some g =>
      match flagOf option with
      | none => refuse .badValue s
      | some clear => okay (groupBytes g s) (if clear then clearGroup g s else s)
  | _ => refuse .badLength s

end Sys2Proof.Machine
end

