-- ==== Sys2Proof/Machine/TableCommands.lean ====
section
/-! DEFINITION. The management commands over the Route Table, the Posture Table, the policy rows, the Axis Map,
the Angle Parameters and the rotation lock (R41 to R45, R59, R72, R77, R78, R85, R90, R92 to R94, R171). -/

namespace Sys2Proof.Machine

/-- GET_INFO: 17 bytes, nothing changed (R171). -/
def cmdGetInfo (args : List Byte) (s : State) : Answer :=
  match args with
  | [] =>
    okay (le16 Config.familyCode ++ [Config.siliconRevision, 48, 24, 8, 4, 8, 16, 8, 16, 14, 32, 16]
      ++ le16 s.time ++ [byteNat s.mgmt.lastReset.code]) s
  | _ => refuse .badLength s

/-! ### Routes -/

/-- One Route Table entry replaced. -/
def setRoute (i : Fin 24) (r : Route) (s : State) : State :=
  s.setClassifier { s.classifier with routes := s.classifier.routes.set i r }

/-- WRITE_ROUTE (R41). -/
def cmdWriteRoute (args : List Byte) (s : State) : Answer :=
  match args with
  | [index, port, base, span, kind, action, queue, gate] =>
    match finOf 24 index with
    | none => refuse .badIndex s
    | some i =>
      match routeOf port base span kind action queue gate with
      | none => refuse .badValue s
      | some r =>
        if s.classifier.routes[i].valid then refuse .busy s else okay [] (setRoute i r s)
  | _ => refuse .badLength s

/-- INVALIDATE_ROUTE (R42). -/
def cmdInvalidateRoute (args : List Byte) (s : State) : Answer :=
  match args with
  | [index] =>
    match finOf 24 index with
    | none => refuse .badIndex s
    | some i => okay [] (setRoute i { s.classifier.routes[i] with valid := false } s)
  | _ => refuse .badLength s

/-- The ten bytes READ_ROUTE returns of an entry (R43, R170). -/
def routeBytes (r : Route) : List Byte :=
  [byteBool r.valid, byteNat r.port.code, byteNat r.base, byteNat r.span,
   byteNat (match r.kind with
     | none => 15
     | some k => k.code),
   byteNat r.action.code, byteNat (queueField r.queue),
   byteNat (match r.gate with
     | none => 15
     | some g => g.val)] ++ le16Nat r.matchCount

/-- The Default Route as READ_ROUTE shows it (R43). -/
def DefaultRoute.asRoute (d : DefaultRoute) : Route :=
  { valid := true, port := .b, base := 0, span := 16, kind := none, action := d.action
    queue := d.queue, gate := none, matchCount := d.matchCount }

/-- READ_ROUTE (R43). -/
def cmdReadRoute (args : List Byte) (s : State) : Answer :=
  match args with
  | [index, option] =>
    match finOf 24 index with
    | some i =>
      match flagOf option with
      | none => refuse .badValue s
      | some clear =>
        let r := s.classifier.routes[i]
        okay (routeBytes r) (if clear then setRoute i { r with matchCount := 0 } s else s)
    | none =>
      if index.toNat = 24 then
        match flagOf option with
        | none => refuse .badValue s
        | some clear =>
          let d := s.classifier.dflt
          okay (routeBytes d.asRoute)
            (if clear then s.setClassifier { s.classifier with dflt := { d with matchCount := 0 } } else s)
      else refuse .badIndex s
  | _ => refuse .badLength s

/-- SET_DEFAULT_ROUTE (R45). -/
def cmdSetDefaultRoute (args : List Byte) (s : State) : Answer :=
  match args with
  | [action, queue] =>
    match Action.ofCode action.toNat with
    | none => refuse .badValue s
    | some a =>
      match actionQueueOf a queue with
      | none => refuse .badValue s
      | some q =>
        okay [] (s.setClassifier { s.classifier with
          dflt := { s.classifier.dflt with action := a, queue := q } })
  | _ => refuse .badLength s

/-! ### Posture Table -/

/-- One Posture Table entry replaced. -/
def setPostureEntry (i : Fin 8) (e : PostureEntry) (s : State) : State :=
  s.setPosture { s.posture with table := s.posture.table.set i e }

/-- WRITE_POSTURE (R77). -/
def cmdWritePosture (args : List Byte) (s : State) : Answer :=
  match args with
  | [index, code, low0, low1, high0, high1, hysteresis, faces, lid, dwell] =>
    match finOf 8 index with
    | none => refuse .badIndex s
    | some i =>
      match postureEntryOf code low0 low1 high0 high1 hysteresis faces lid dwell with
      | none => refuse .badValue s
      | some e =>
        if s.posture.table[i].valid then refuse .busy s else okay [] (setPostureEntry i e s)
  | _ => refuse .badLength s

/-- The Posture Engine with an entry invalidated: a candidacy of that entry ends (R78). -/
def PostureEngine.invalidate (p : PostureEngine) (i : Fin 8) : PostureEngine :=
  let q := { p with table := p.table.set i { p.table[i] with valid := false } }
  if p.candidate = .entry i then q.clearCandidate else q

/-- INVALIDATE_POSTURE (R78). -/
def cmdInvalidatePosture (args : List Byte) (s : State) : Answer :=
  match args with
  | [index] =>
    match finOf 8 index with
    | none => refuse .badIndex s
    | some i => okay [] (s.setPosture (s.posture.invalidate i))
  | _ => refuse .badLength s

/-- The ten bytes READ_POSTURE_ENTRY returns: the valid flag and the fields in the order of R77 (R78). -/
def postureEntryBytes (e : PostureEntry) : List Byte :=
  [byteBool e.valid, byteNat e.posture.code.val] ++ le16Nat e.low ++ le16Nat e.high
    ++ [byteNat e.hysteresis, e.faces.setWidth 8, byteNat e.lid.code, byteNat e.dwell]

/-- READ_POSTURE_ENTRY (R78). -/
def cmdReadPostureEntry (args : List Byte) (s : State) : Answer :=
  match args with
  | [index] =>
    match finOf 8 index with
    | none => refuse .badIndex s
    | some i => okay (postureEntryBytes s.posture.table[i]) s
  | _ => refuse .badLength s

/-! ### Policy rows -/

/-- What a write to the current row does at once: the rotation mode is applied, a changed orientation
requests a STATE frame, and a policy event is delivered (R93, R95, R96). -/
def currentRowWritten (old : PostureEngine) (s : State) : State :=
  let t := s.setPosture s.posture.applyMode
  postAll (policyDeliveries t.posture.posture t.posture.currentRow) (reportPosture old t)

/-- WRITE_POLICY (R92, R93). -/
def cmdWritePolicy (args : List Byte) (s : State) : Answer :=
  match args with
  | [index, mask, mode, cap, action, d0, d1, t0, t1, t2, t3] =>
    match finOf 8 index with
    | none => refuse .badIndex s
    | some i =>
      match policyRowOf mask mode cap action d0 d1 t0 t1 t2 t3 with
      | none => refuse .badValue s
      | some row =>
        let t := s.setPosture { s.posture with policy := s.posture.policy.set i row }
        okay [] (if i = s.posture.posture.code then currentRowWritten s.posture t else t)
  | _ => refuse .badLength s

/-! ### Axis Map, Angle Parameters and the Posture Record -/

/-- The Posture Engine with an axis record stored and the effects of R59 and R85: the Latest Base Sample
invalid, the freshness timer stopped, the Hinge Record cleared, and the posture set to UNKNOWN unless it is
DETACHED (R59, R85; the rotation mode at that change by R89, assumption 11). -/
def PostureEngine.mapWritten (p : PostureEngine) (time : Half) : PostureEngine :=
  let q := { p with
    baseValid := false
    baseFresh := none
    hinge := 0
    hingeValid := false }
  if q.posture = .detached then { q.clearCandidate with entry := none } else q.override .unknown time

/-- One Axis Map record stored (R58, R59). -/
def PostureEngine.setAxis (p : PostureEngine) (base : Bool) (r : AxisRecord) : PostureEngine :=
  if base then { p with axisBase := r } else { p with axisLid := r }

/-- WRITE_AXIS_MAP (R59, R85). -/
def cmdWriteAxisMap (args : List Byte) (s : State) : Answer :=
  match args with
  | [index, sx, nx, sy, ny, sz, nz] =>
    match flagOf index with
    | none => refuse .badIndex s
    | some base =>
      match axisRecordOf sx nx sy ny sz nz with
      | none => refuse .badValue s
      | some r =>
        okay [] (reportPosture s.posture
          (s.setPosture ((s.posture.setAxis base r).mapWritten s.time)))
  | _ => refuse .badLength s

/-- WRITE_ANGLE_PARAMS (R72). -/
def cmdWriteAngleParams (args : List Byte) (s : State) : Answer :=
  match args with
  | [a0, a1, b0, b1, c0, c1, d0, d1, e0, e1, f0, f1, g0, g1, h0, h1, i0, i1, j0, j1] =>
    let p : AngleParams :=
      { hingeOffset := nat16 a0 a1, wrapBand := nat16 b0 b1, minProjection := nat16 c0 c1
        maxProjection := nat16 d0 d1, baseFaceBand := nat16 e0 e1, flatThreshold := nat16 f0 f1
        rotHysteresis := nat16 g0 g1, rotDwell := nat16 h0 h1, unmatchedDwell := nat16 i0 i1
        baseFreshness := nat16 j0 j1 }
    if p.valid then okay [] (s.setPosture { s.posture with params := p }) else refuse .badValue s
  | _ => refuse .badLength s

/-- The byte of a posture candidate (R94). -/
def candidateByte : Candidate → Byte
  | .none => 255
  | .entry i => byteNat i.val
  | .unmatched => 8

/-- The 19 bytes of READ_POSTURE_RECORD (R94). -/
def postureReadout (p : PostureEngine) : List Byte :=
  postureRecord p
    ++ [candidateByte p.candidate, byteNat p.candidateCount,
        indexByte (p.rotCandidate.map Orientation.code), byteNat p.rotCount]
    ++ le16 p.lid.counter ++ le16 p.base.counter

/-- READ_POSTURE_RECORD (R94). -/
def cmdReadPostureRecord (args : List Byte) (s : State) : Answer :=
  match args with
  | [] => okay (postureReadout s.posture) s
  | _ => refuse .badLength s

/-- The rotation lock set; a changed effective mode takes effect at once (R90). -/
def PostureEngine.setLock (p : PostureEngine) (v : Bool) : PostureEngine :=
  let q := { p with rotLock := v }
  if q.effectiveMode = p.effectiveMode then q else q.applyMode

/-- SET_ROTATION_LOCK (R90, R95). -/
def cmdSetRotationLock (args : List Byte) (s : State) : Answer :=
  match args with
  | [value] =>
    match flagOf value with
    | none => refuse .badValue s
    | some v => okay [] (reportPosture s.posture (s.setPosture (s.posture.setLock v)))
  | _ => refuse .badLength s

end Sys2Proof.Machine
end

