-- ==== Sys2Proof/Machine/UnitCommands.lean ====
section
/-! DEFINITION. The management commands over the Link Monitor, the Rail Allocator, the Charge Controller and the
Power Policy Unit (R123 to R125, R132, R134, R136, R139, R143, R145, R153, R163, R164, R167, R170). -/

namespace Sys2Proof.Machine

/-! ### Link Monitor and channels -/

/-- One Base Class Table entry replaced. -/
def setBaseClass (i : Fin 4) (e : BaseClass) (s : State) : State :=
  s.setLink { s.link with classes := s.link.classes.set i e }

/-- WRITE_BASE_CLASS; index 4 names the Default Base Load (R123). -/
def cmdWriteBaseClass (args : List Byte) (s : State) : Answer :=
  match args with
  | [index, valid, cls, revision, load] =>
    match finOf 4 index with
    | some i =>
      match flagOf valid with
      | none => refuse .badValue s
      | some v =>
        if load.toNat ≤ Config.maxLoad then
          okay [] (setBaseClass i
            { valid := v, cls := cls, minRevision := revision, loadCap := load.toNat } s)
        else refuse .badValue s
    | none =>
      if index.toNat = 4 then
        if load.toNat ≤ Config.maxLoad then
          okay [] (s.setLink { s.link with defaultLoad := load.toNat })
        else refuse .badValue s
      else refuse .badIndex s
  | _ => refuse .badLength s

/-- Part 0 of READ_BASE_RECORD (R125). -/
def linkBytes (l : Link) : List Byte :=
  [byteNat l.state.code, byteNat l.attempts, byteBool l.record.valid, l.record.cls, l.record.revision,
   l.record.layout, byteNat l.record.requestedLoad, byteNat l.record.loadCap]
    ++ le16 l.record.attachTime ++ [byteNat l.lastTeardown.code, byteNat l.lastReject.code]

/-- One descriptor in the form of R9, with the ignored bit 6 clear (R125; assumption 13). -/
def descriptorBytes (d : Descriptor) : List Byte :=
  [byteNat d.channel.val, byteNat d.kind.kind.code,
   byteNat ((if d.handshaked then 128 else 0) + d.maxLength)]

/-- Part 1 of READ_BASE_RECORD (R125). -/
def descriptorListBytes (l : Link) : List Byte :=
  byteNat l.record.descriptors.length :: l.record.descriptors.flatMap descriptorBytes

/-- One Base Class Table entry as bytes (R125). -/
def baseClassBytes (e : BaseClass) : List Byte :=
  [byteBool e.valid, e.cls, e.minRevision, byteNat e.loadCap]

/-- Part 2 of READ_BASE_RECORD (R125). -/
def linkTableBytes (l : Link) : List Byte :=
  l.classes.toList.flatMap baseClassBytes ++ [byteNat l.defaultLoad]
    ++ le16Nat l.timing.contactDebounce ++ le16Nat l.timing.identTimeout ++ le16Nat l.timing.aliveWindow

/-- READ_BASE_RECORD (R125). -/
def cmdReadBaseRecord (args : List Byte) (s : State) : Answer :=
  match args with
  | [part] =>
    if part.toNat = 0 then okay (linkBytes s.link) s
    else if part.toNat = 1 then okay (descriptorListBytes s.link) s
    else if part.toNat = 2 then okay (linkTableBytes s.link) s
    else refuse .badIndex s
  | _ => refuse .badLength s

/-- SET_LINK_TIMING (R124). -/
def cmdSetLinkTiming (args : List Byte) (s : State) : Answer :=
  match args with
  | [a0, a1, b0, b1, c0, c1] =>
    let t : LinkTiming :=
      { contactDebounce := nat16 a0 a1, identTimeout := nat16 b0 b1, aliveWindow := nat16 c0 c1 }
    if t.valid then okay [] (s.setLink { s.link with timing := t }) else refuse .badValue s
  | _ => refuse .badLength s

/-- The halt flag of a channel (R13, R170). -/
def setHalt (c : Chan) (v : Bool) (s : State) : State :=
  s.setBport { s.bport with halts := s.bport.halts.set c v }

/-- CHANNEL_HALT (R170). -/
def cmdChannelHalt (args : List Byte) (s : State) : Answer :=
  match args with
  | [channel] =>
    match finOf 16 channel with
    | none => refuse .badIndex s
    | some c => okay [] (setHalt c true s)
  | _ => refuse .badLength s

/-- CHANNEL_RESUME (R170). -/
def cmdChannelResume (args : List Byte) (s : State) : Answer :=
  match args with
  | [channel] =>
    match finOf 16 channel with
    | none => refuse .badIndex s
    | some c => okay [] (setHalt c false s)
  | _ => refuse .badLength s

/-! ### Rail Allocator -/

/-- SET_BUDGET (R132). -/
def cmdSetBudget (args : List Byte) (s : State) : Answer :=
  match args with
  | [value] =>
    if 80 < value.toNat then refuse .badValue s
    else if value.toNat < s.rail.grant + s.rail.pendingGrant then refuse .busy s
    else
      let r := newBudget value.toNat s
      okay [byteBool r.1] r.2
  | _ => refuse .badLength s

/-- The ten bytes of READ_BUDGET (R134). -/
def railBytes (r : Rail) : List Byte :=
  [byteNat r.total, byteNat r.effective, byteNat r.grant, byteNat r.pendingGrant,
   maskByte [r.grantPending, r.budgetPending], byteNat r.penAlloc, byteNat r.active.val,
   byteNat r.allocated.val, byteNat r.cap.val, BitVec.ofInt 8 r.room]

/-- READ_BUDGET (R134). -/
def cmdReadBudget (args : List Byte) (s : State) : Answer :=
  match args with
  | [] => okay (railBytes s.rail) s
  | _ => refuse .badLength s

/-! ### Charge Controller -/

/-- WRITE_DRIVE_LEVEL (R136); the Rail Allocator recomputes its cap (R128). -/
def cmdWriteDriveLevel (args : List Byte) (s : State) : Answer :=
  match args with
  | [level, f0, f1, duty, power] =>
    match driveLevelOf level with
    | none => refuse .badIndex s
    | some l =>
      if !inRange 100 400 (nat16 f0 f1) then refuse .badValue s
      else if Config.maxLoad < power.toNat then refuse .badValue s
      else if s.charge.enabled then refuse .busy s
      else
        let d : DriveLevel := { freq := nat16 f0 f1, duty := duty.toNat, power := power.toNat }
        okay [] (recomputeCap (s.setCharge { s.charge with levels := s.charge.levels.set l d }))
  | _ => refuse .badLength s

/-- WRITE_CHARGE_CELL, taken as a cap change (R139, R141). -/
def cmdWriteChargeCell (args : List Byte) (s : State) : Answer :=
  match args with
  | [battery, temperature, level] =>
    match finOf 4 battery, finOf 4 temperature with
    | some b, some t =>
      match finOf 8 level with
      | none => refuse .badValue s
      | some l =>
        okay [] (takeCapChange
          (s.setCharge { s.charge with cells := s.charge.cells.set (cellIndex b t) l }))
    | _, _ => refuse .badIndex s
  | _ => refuse .badLength s

/-- SET_CHARGE_PARAMS, taken as a cap change (R141, R143). -/
def cmdSetChargeParams (args : List Byte) (s : State) : Answer :=
  match args with
  | [a0, a1, b0, b1, c0, c1, d, e0, e1, e2, e3, f0, f1, f2, f3, g, h, i] =>
    match finOf 8 h, finOf 8 i with
    | some standby, some off =>
      let p : ChargeParams :=
        { pingInterval := nat16 a0 a1, probeWindow := nat16 b0 b1, penSilence := nat16 c0 c1
          faultTemp := d.toInt, cooldown := nat32 e0 e1 e2 e3, topUp := nat32 f0 f1 f2 f3
          resume := g.toNat, standbyCap := standby, offCap := off }
      if p.valid then okay [] (takeCapChange (s.setCharge { s.charge with params := p }))
      else refuse .badValue s
    | _, _ => refuse .badValue s
  | _ => refuse .badLength s

/-- CHARGE_ENABLE on, by session state (R145). -/
def chargeOn (s : State) : Answer :=
  match s.charge.session with
  | .off => if s.charge.powersRise then okay [] (enableCharger s) else refuse .badValue s
  | .lockout => okay [] (enableCharger s)
  | _ => okay [] s

/-- CHARGE_ENABLE off: the charger disable; in OFF nothing changes (R145). -/
def chargeOff (s : State) : Answer :=
  if s.charge.session = .off then okay [] s else okay [] (disableCharger s)

/-- CHARGE_ENABLE (R145). -/
def cmdChargeEnable (args : List Byte) (s : State) : Answer :=
  match args with
  | [value] =>
    match flagOf value with
    | none => refuse .badValue s
    | some true => chargeOn s
    | some false => chargeOff s
  | _ => refuse .badLength s

/-- The 18 bytes of READ_CHARGE_RECORD (R153). -/
def chargeBytes (s : State) : List Byte :=
  let c := s.charge
  let k := s.pport.coil
  [byteNat c.session.code, maskByte [c.enabled, c.penPresent, c.pen.valid, k.swapPending],
   byteNat k.inEffect.val, byteNat k.buffered.val, byteNat (driveTarget s).val,
   byteNat c.cellCap.val, byteNat (postureCap s).val, byteNat s.rail.cap.val,
   byteNat (sleepCap s).val, byteNat c.faultCount, byteNat c.lastFault.code]
    ++ le16 c.pen.id
    ++ [byteNat c.pen.battery, c.pen.temperature, maskByte [c.pen.full, c.pen.error]]
    ++ le16 c.pen.time

/-- READ_CHARGE_RECORD (R153). -/
def cmdReadChargeRecord (args : List Byte) (s : State) : Answer :=
  match args with
  | [] => okay (chargeBytes s) s
  | _ => refuse .badLength s

/-! ### Power Policy Unit -/

/-- SET_HOST_STATE, answered with the vote state after the report (R163). -/
def cmdSetHostState (args : List Byte) (s : State) : Answer :=
  match args with
  | [value] =>
    match HostPower.ofCode value.toNat with
    | none => refuse .badValue s
    | some h =>
      let t := hostReport h s
      okay [byteNat t.power.vote.code] t
  | _ => refuse .badLength s

/-- WRITE_WAKE_TABLE (R164). -/
def cmdWriteWakeTable (args : List Byte) (s : State) : Answer :=
  match args with
  | [mask] => okay [] (writeEnables mask s)
  | _ => refuse .badLength s

/-- The 15 bytes of READ_SLEEP_RECORD (R167). -/
def sleepBytes (p : Power) : List Byte :=
  [byteNat p.host.code, byteNat p.vote.code, byteNat p.reason.code, p.enables, p.latches, p.cause,
   maskByte [p.wakeLine, p.sleepDelay.isSome, p.idle.isSome, p.lidOpen]]
    ++ le16 p.activityTime ++ le16Nat p.sleepDelay.remaining ++ le32Nat p.idle.remaining

/-- READ_SLEEP_RECORD (R167). -/
def cmdReadSleepRecord (args : List Byte) (s : State) : Answer :=
  match args with
  | [] => okay (sleepBytes s.power) s
  | _ => refuse .badLength s

end Sys2Proof.Machine
end

