-- ==== Sys2Proof/Machine/Resets.lean ====
section
/-! DEFINITION. Power-on reset and soft reset (R31, R172 and the reset tables of each block), SOFT_RESET's answer,
the Management Unit's dispatch by command code (R168, R169) and the S-port (R19). -/

namespace Sys2Proof.Machine

/-! ### Resets -/

/-- PRESENCE as the Link Monitor reads it after a reset: an assertion event where it is asserted (R111). -/
def presenceAfterReset (l : Lines) : List Delivery := if l.presence then [.presenceRead] else []

/-- The part after power-on reset with its input lines as they stand; the queue of commands is the model's
and is kept (R31, R111). -/
def powerOn (s : State) : State :=
  { State.reset with
    lines := s.lines
    deliveries := presenceAfterReset s.lines
    pending := s.pending }

/-- A route after a soft reset (R39). -/
def Route.softReset (r : Route) : Route := { r with matchCount := 0 }

/-- The Frame Classifier after a soft reset (R39, R45, R53, R56). -/
def Classifier.softReset (c : Classifier) : Classifier :=
  { routes := c.routes.map Route.softReset, dflt := { c.dflt with matchCount := 0 } }

/-- The Posture Engine after a soft reset: maps, parameters, tables, rotation lock and samples kept, the
Latest Base Sample invalid, the record at its reset values (R58, R64, R69 to R71, R73, R76, R79, R86, R90,
R91, R94). -/
def PostureEngine.softReset (p : PostureEngine) : PostureEngine :=
  { axisLid := p.axisLid
    axisBase := p.axisBase
    params := p.params
    lid := p.lid
    base := p.base
    table := p.table
    rotLock := p.rotLock
    policy := p.policy }

/-- The Input Gate after a soft reset: the gates from DETACHED's row, the filters at their reset values (R97,
R98, R107, R110). -/
def gateAfterReset (mask : BitVec 8) : InputGate :=
  { gates := mask, key := { gateOpen := gateOf mask 0 }, pad := { gateOpen := gateOf mask 0 } }

/-- The Link Monitor after a soft reset: table and parameters kept (R111, R123, R124). -/
def Link.softReset (l : Link) : Link :=
  { classes := l.classes, defaultLoad := l.defaultLoad, timing := l.timing }

/-- The Rail Allocator after a soft reset: T kept, Te set to T, the cap recomputed from the kept table (R127,
R128). -/
def Rail.softReset (r : Rail) (c : Charge) : Rail :=
  { total := r.total, effective := r.total, cap := capFor c r.total }

/-- The Charge Controller after a soft reset: tables and parameters kept, the Pen Record's other fields kept
(R135, R139, R142 to R144, R154). -/
def Charge.softReset (c : Charge) : Charge :=
  { levels := c.levels, cells := c.cells, params := c.params, pen := { c.pen with valid := false } }

/-- The part after the soft reset of SOFT_RESET, before its response is placed (R172, steps 1 to 3): the Time
Count and the lines stand (R1), staging frames are kept. -/
def softResetState (s : State) : State where
  time := s.time
  lines := s.lines
  bport := { staging := s.bport.staging }
  lport := { staging := s.lport.staging, lastCounter := s.lport.lastCounter }
  pport := { staging := s.pport.staging }
  sport := { staging := s.sport.staging }
  classifier := s.classifier.softReset
  pool := s.pool.softReset
  posture := s.posture.softReset
  gate := gateAfterReset s.posture.policy[Posture.detached.code].gateMask
  link := s.link.softReset
  rail := s.rail.softReset s.charge
  charge := s.charge.softReset
  power := { enables := s.power.enables }
  mgmt := { enables := s.mgmt.enables, lastReset := .soft }
  deliveries := presenceAfterReset s.lines
  pending := s.pending

/-- The response to an executed SOFT_RESET, placed afresh into the empty Q0 (R30, R172, step 4). -/
def placeResetResponse (s : State) : State :=
  match s.pool.join .q0 [] with
  | some (i, p) => complete 2 i (okay [] (s.setPool p))
  | none => s

/-- SOFT_RESET: tested for room and for its length like every command, then the reset and its response (R30,
R172). -/
def runSoftReset (unit args : List Byte) (s : State) : State :=
  match args with
  | [] => if s.pool.hasRoom then placeResetResponse (softResetState s) else overrun unit s
  | _ => respond 2 unit (refuse .badLength) s

/-! ### The Management Unit -/

/-- The command of a code, SOFT_RESET aside (R169). -/
def commandOf : Nat → Option (List Byte → State → Answer)
  | 1 => some cmdGetInfo
  | 3 => some cmdWriteRoute
  | 4 => some cmdInvalidateRoute
  | 5 => some cmdReadRoute
  | 6 => some cmdSetDefaultRoute
  | 7 => some cmdWritePosture
  | 8 => some cmdInvalidatePosture
  | 9 => some cmdReadPostureEntry
  | 10 => some cmdWritePolicy
  | 11 => some cmdWriteAxisMap
  | 12 => some cmdWriteAngleParams
  | 13 => some cmdReadPostureRecord
  | 14 => some cmdSetRotationLock
  | 15 => some cmdWriteBaseClass
  | 16 => some cmdReadBaseRecord
  | 17 => some cmdSetLinkTiming
  | 18 => some cmdChannelHalt
  | 19 => some cmdChannelResume
  | 20 => some cmdSetBudget
  | 21 => some cmdReadBudget
  | 22 => some cmdWriteDriveLevel
  | 23 => some cmdWriteChargeCell
  | 24 => some cmdSetChargeParams
  | 25 => some cmdChargeEnable
  | 26 => some cmdReadChargeRecord
  | 27 => some cmdSetHostState
  | 28 => some cmdWriteWakeTable
  | 29 => some cmdReadSleepRecord
  | 30 => some cmdSetQueue
  | 31 => some cmdFlushQueue
  | 32 => some cmdReadQueues
  | 33 => some cmdReadEvents
  | 34 => some cmdClearEvents
  | 35 => some cmdSetEventEnable
  | 36 => some cmdReadLog
  | 37 => some cmdClearLog
  | 38 => some cmdReadCounters
  | _ => none

/-- A MGMT frame handed to the Management Unit (R168). -/
def manage (unit payload : List Byte) (s : State) : State :=
  match payload with
  | [] => respond 0 unit (refuse .badLength) s
  | code :: args =>
    if code.toNat = 2 then runSoftReset unit args s
    else
      match commandOf code.toNat with
      | some run => respond code unit (run args) s
      | none => respond code unit (refuse .badCommand) s

/-! ### S-port reception -/

/-- A frame with a wrong destination or kind (R19). -/
def badDest (f : Frame) (s : State) : State :=
  reportError .badDest .s f.raw (countS (fun k => { k with badDest := satInc k.badDest }) s)

/-- A downstream frame for the attached base: placed on QD as a received frame (R19). -/
def placeDownstream (f : Frame) (s : State) : State :=
  match placeReceived .qd f.raw s with
  | (true, t) => bLook (countS (fun k => { k with downAccepted := satInc k.downAccepted }) t)
  | (false, t) => t

/-- A frame that passed both checks at the S-port, by destination and kind (R19). A management frame is counted
before its command is executed, so a READ_COUNTERS of the S-port's group counts its own frame (R19, R176; DESIGN
CHOICE, assumption 37). -/
def takeHostFrame (f : Frame) (s : State) : State :=
  if f.dest = 0 then
    if f.kind = .mgmt then
      manage f.raw f.payload (countS (fun k => { k with mgmtFrames := satInc k.mgmtFrames }) s)
    else badDest f s
  else if f.dest = 2 then
    if s.link.state.attachedOrSuspect then placeDownstream f s else badDest f s
  else badDest f s

/-- A unit at the S-port, a symbol included (R3, R19). -/
def receiveS (unit : List Byte) (s : State) : State :=
  let t := countS (fun k => { k with received := satInc k.received })
    (s.setSport { s.sport with staging := staged s.sport.staging unit })
  if frameCheckPasses unit then
    match headerCheck .s unit with
    | some f => takeHostFrame f t
    | none =>
      reportError .header .s unit (countS (fun k => { k with headerErrors := satInc k.headerErrors }) t)
  else
    reportError .crc .s unit (countS (fun k => { k with checkFailures := satInc k.checkFailures }) t)

end Sys2Proof.Machine
end

