-- ==== Sys2Proof/Machine/CommandEvents.lean ====
section
/-! DEFINITION. The meanings of the management commands (rows GET_INFO to READ_COUNTERS of the opcode table):
a MGMT frame carrying the command's code and arguments, handed to the Management Unit on a channel (R168).
The response place is taken first, the command executed and the response filled, in one event; the
transmitters then look for work (R20, R30, R35). -/

namespace Sys2Proof.Machine

/-- The Management Unit's event for a command that is answered in place (R30, R168). -/
def mgmtEvent (code : Byte) (channel : Chan) (args : List Byte) (run : List Byte → State → Answer)
    (s : State) : State :=
  lookAfter s (respond code (mgmtUnit channel code args) (run args) s)

/-- GET_INFO (R171). -/
def execGetInfo (channel : Chan) (args : List Byte) (s : State) : Host.Outcome State Fault Refusal :=
  .next (mgmtEvent 1 channel args cmdGetInfo s)

/-- SOFT_RESET (R172). -/
def execSoftReset (channel : Chan) (args : List Byte) (s : State) : Host.Outcome State Fault Refusal :=
  .next (lookAfter s (runSoftReset (mgmtUnit channel 2 args) args s))

/-- WRITE_ROUTE (R41). -/
def execWriteRoute (channel : Chan) (args : List Byte) (s : State) : Host.Outcome State Fault Refusal :=
  .next (mgmtEvent 3 channel args cmdWriteRoute s)

/-- INVALIDATE_ROUTE (R42). -/
def execInvalidateRoute (channel : Chan) (args : List Byte) (s : State) : Host.Outcome State Fault Refusal :=
  .next (mgmtEvent 4 channel args cmdInvalidateRoute s)

/-- READ_ROUTE (R43). -/
def execReadRoute (channel : Chan) (args : List Byte) (s : State) : Host.Outcome State Fault Refusal :=
  .next (mgmtEvent 5 channel args cmdReadRoute s)

/-- SET_DEFAULT_ROUTE (R45). -/
def execSetDefaultRoute (channel : Chan) (args : List Byte) (s : State) : Host.Outcome State Fault Refusal :=
  .next (mgmtEvent 6 channel args cmdSetDefaultRoute s)

/-- WRITE_POSTURE (R77). -/
def execWritePosture (channel : Chan) (args : List Byte) (s : State) : Host.Outcome State Fault Refusal :=
  .next (mgmtEvent 7 channel args cmdWritePosture s)

/-- INVALIDATE_POSTURE (R78). -/
def execInvalidatePosture (channel : Chan) (args : List Byte) (s : State) : Host.Outcome State Fault Refusal :=
  .next (mgmtEvent 8 channel args cmdInvalidatePosture s)

/-- READ_POSTURE_ENTRY (R78). -/
def execReadPostureEntry (channel : Chan) (args : List Byte) (s : State) : Host.Outcome State Fault Refusal :=
  .next (mgmtEvent 9 channel args cmdReadPostureEntry s)

/-- WRITE_POLICY (R92). -/
def execWritePolicy (channel : Chan) (args : List Byte) (s : State) : Host.Outcome State Fault Refusal :=
  .next (mgmtEvent 10 channel args cmdWritePolicy s)

/-- WRITE_AXIS_MAP (R59). -/
def execWriteAxisMap (channel : Chan) (args : List Byte) (s : State) : Host.Outcome State Fault Refusal :=
  .next (mgmtEvent 11 channel args cmdWriteAxisMap s)

/-- WRITE_ANGLE_PARAMS (R72). -/
def execWriteAngleParams (channel : Chan) (args : List Byte) (s : State) : Host.Outcome State Fault Refusal :=
  .next (mgmtEvent 12 channel args cmdWriteAngleParams s)

/-- READ_POSTURE_RECORD (R94). -/
def execReadPostureRecord (channel : Chan) (args : List Byte) (s : State) : Host.Outcome State Fault Refusal :=
  .next (mgmtEvent 13 channel args cmdReadPostureRecord s)

/-- SET_ROTATION_LOCK (R90). -/
def execSetRotationLock (channel : Chan) (args : List Byte) (s : State) : Host.Outcome State Fault Refusal :=
  .next (mgmtEvent 14 channel args cmdSetRotationLock s)

/-- WRITE_BASE_CLASS (R123). -/
def execWriteBaseClass (channel : Chan) (args : List Byte) (s : State) : Host.Outcome State Fault Refusal :=
  .next (mgmtEvent 15 channel args cmdWriteBaseClass s)

/-- READ_BASE_RECORD (R125). -/
def execReadBaseRecord (channel : Chan) (args : List Byte) (s : State) : Host.Outcome State Fault Refusal :=
  .next (mgmtEvent 16 channel args cmdReadBaseRecord s)

/-- SET_LINK_TIMING (R124). -/
def execSetLinkTiming (channel : Chan) (args : List Byte) (s : State) : Host.Outcome State Fault Refusal :=
  .next (mgmtEvent 17 channel args cmdSetLinkTiming s)

/-- CHANNEL_HALT (R170). -/
def execChannelHalt (channel : Chan) (args : List Byte) (s : State) : Host.Outcome State Fault Refusal :=
  .next (mgmtEvent 18 channel args cmdChannelHalt s)

/-- CHANNEL_RESUME (R170). -/
def execChannelResume (channel : Chan) (args : List Byte) (s : State) : Host.Outcome State Fault Refusal :=
  .next (mgmtEvent 19 channel args cmdChannelResume s)

/-- SET_BUDGET (R132). -/
def execSetBudget (channel : Chan) (args : List Byte) (s : State) : Host.Outcome State Fault Refusal :=
  .next (mgmtEvent 20 channel args cmdSetBudget s)

/-- READ_BUDGET (R134). -/
def execReadBudget (channel : Chan) (args : List Byte) (s : State) : Host.Outcome State Fault Refusal :=
  .next (mgmtEvent 21 channel args cmdReadBudget s)

/-- WRITE_DRIVE_LEVEL (R136). -/
def execWriteDriveLevel (channel : Chan) (args : List Byte) (s : State) : Host.Outcome State Fault Refusal :=
  .next (mgmtEvent 22 channel args cmdWriteDriveLevel s)

/-- WRITE_CHARGE_CELL (R139). -/
def execWriteChargeCell (channel : Chan) (args : List Byte) (s : State) : Host.Outcome State Fault Refusal :=
  .next (mgmtEvent 23 channel args cmdWriteChargeCell s)

/-- SET_CHARGE_PARAMS (R143). -/
def execSetChargeParams (channel : Chan) (args : List Byte) (s : State) : Host.Outcome State Fault Refusal :=
  .next (mgmtEvent 24 channel args cmdSetChargeParams s)

/-- CHARGE_ENABLE (R145). -/
def execChargeEnable (channel : Chan) (args : List Byte) (s : State) : Host.Outcome State Fault Refusal :=
  .next (mgmtEvent 25 channel args cmdChargeEnable s)

/-- READ_CHARGE_RECORD (R153). -/
def execReadChargeRecord (channel : Chan) (args : List Byte) (s : State) : Host.Outcome State Fault Refusal :=
  .next (mgmtEvent 26 channel args cmdReadChargeRecord s)

/-- SET_HOST_STATE (R163). -/
def execSetHostState (channel : Chan) (args : List Byte) (s : State) : Host.Outcome State Fault Refusal :=
  .next (mgmtEvent 27 channel args cmdSetHostState s)

/-- WRITE_WAKE_TABLE (R164). -/
def execWriteWakeTable (channel : Chan) (args : List Byte) (s : State) : Host.Outcome State Fault Refusal :=
  .next (mgmtEvent 28 channel args cmdWriteWakeTable s)

/-- READ_SLEEP_RECORD (R167). -/
def execReadSleepRecord (channel : Chan) (args : List Byte) (s : State) : Host.Outcome State Fault Refusal :=
  .next (mgmtEvent 29 channel args cmdReadSleepRecord s)

/-- SET_QUEUE (R26). -/
def execSetQueue (channel : Chan) (args : List Byte) (s : State) : Host.Outcome State Fault Refusal :=
  .next (mgmtEvent 30 channel args cmdSetQueue s)

/-- FLUSH_QUEUE (R37). -/
def execFlushQueue (channel : Chan) (args : List Byte) (s : State) : Host.Outcome State Fault Refusal :=
  .next (mgmtEvent 31 channel args cmdFlushQueue s)

/-- READ_QUEUES (R170). -/
def execReadQueues (channel : Chan) (args : List Byte) (s : State) : Host.Outcome State Fault Refusal :=
  .next (mgmtEvent 32 channel args cmdReadQueues s)

/-- READ_EVENTS (R175). -/
def execReadEvents (channel : Chan) (args : List Byte) (s : State) : Host.Outcome State Fault Refusal :=
  .next (mgmtEvent 33 channel args cmdReadEvents s)

/-- CLEAR_EVENTS (R175). -/
def execClearEvents (channel : Chan) (args : List Byte) (s : State) : Host.Outcome State Fault Refusal :=
  .next (mgmtEvent 34 channel args cmdClearEvents s)

/-- SET_EVENT_ENABLE (R175). -/
def execSetEventEnable (channel : Chan) (args : List Byte) (s : State) : Host.Outcome State Fault Refusal :=
  .next (mgmtEvent 35 channel args cmdSetEventEnable s)

/-- READ_LOG (R170). -/
def execReadLog (channel : Chan) (args : List Byte) (s : State) : Host.Outcome State Fault Refusal :=
  .next (mgmtEvent 36 channel args cmdReadLog s)

/-- CLEAR_LOG (R56). -/
def execClearLog (channel : Chan) (args : List Byte) (s : State) : Host.Outcome State Fault Refusal :=
  .next (mgmtEvent 37 channel args cmdClearLog s)

/-- READ_COUNTERS (R176). -/
def execReadCounters (channel : Chan) (args : List Byte) (s : State) : Host.Outcome State Fault Refusal :=
  .next (mgmtEvent 38 channel args cmdReadCounters s)

end Sys2Proof.Machine
end

