-- ==== Sys2Proof/Machine/LineEvents.lean ====
section
/-! DEFINITION. The meanings of the power-on reset, the tick of the Time Count, the line events and the port
events (rows POWER_ON_RESET to DOWNSTREAM_FRAME_SENT of the opcode table). -/

namespace Sys2Proof.Machine

/-! ### Reset and time -/

/-- POWER_ON_RESET (R31): every field at its reset value, the input lines as they stand. -/
def execPowerOnReset (s : State) : Host.Outcome State Fault Refusal := .next (powerOn s)

/-- The Link Monitor's timers one millisecond later. -/
def Link.tick (l : Link) : Link :=
  { l with debounce := l.debounce.tick, identTimer := l.identTimer.tick, alive := l.alive.tick }

/-- The session timers one millisecond later. -/
def ChargeTimers.tick (t : ChargeTimers) : ChargeTimers :=
  { ping := t.ping.tick, probe := t.probe.tick, silence := t.silence.tick, topUp := t.topUp.tick
    cooldown := t.cooldown.tick }

/-- The Power Policy Unit's timers one millisecond later. -/
def Power.tick (p : Power) : Power :=
  { p with sleepDelay := p.sleepDelay.tick, idle := p.idle.tick }

/-- One millisecond passes: the Time Count gains one and every running timer loses one (R1). -/
def tick (s : State) : State :=
  { s with
    time := s.time + 1
    bport := { s.bport with handshakeWait := s.bport.handshakeWait.tick }
    posture := { s.posture with baseFresh := s.posture.baseFresh.tick }
    link := s.link.tick
    charge := { s.charge with timers := s.charge.timers.tick }
    power := s.power.tick }

/-- TIME_COUNT_TICK (R1). -/
def execTimeCountTick (s : State) : Host.Outcome State Fault Refusal := .next (tick s)

/-! ### Lines -/

/-- HOST_READY takes a level; an assertion is a look for work (R35, R36). -/
def hostReady (level : Bool) (s : State) : State := sLook (s.setLines { s.lines with hostReady := level })

/-- HOST_READY_CHANGE (R35). -/
def execHostReadyChange (level : Bool) (s : State) : Host.Outcome State Fault Refusal :=
  .next (hostReady level s)

/-- PRESENCE becomes asserted, or the reading of an asserted PRESENCE after a reset is taken; nothing where
the line stood asserted and no reading is outstanding (R111, R112). -/
def presenceAsserted (s : State) : State :=
  if s.lines.presence then takingOne .presenceRead presenceUp s
  else presenceUp (s.setLines { s.lines with presence := true })

/-- PRESENCE_ASSERTED (R112). -/
def execPresenceAsserted (s : State) : Host.Outcome State Fault Refusal := .next (presenceAsserted s)

/-- PRESENCE becomes released; nothing where the line stood released (R112). A reading of an asserted level
that was still outstanding no longer finds it. -/
def presenceReleased (s : State) : State :=
  if s.lines.presence then
    presenceDown ((s.setLines { s.lines with presence := false }).setDeliveries
      (s.deliveries.filter (fun d => d ≠ .presenceRead)))
  else s

/-- PRESENCE_RELEASED (R112). -/
def execPresenceReleased (s : State) : Host.Outcome State Fault Refusal := .next (presenceReleased s)

/-! ### Units -/

/-- B_PORT_UNIT_COMPLETED (R11). -/
def execBPortUnitCompleted (b0 b1 : Byte) (rest : List Byte) (s : State) :
    Host.Outcome State Fault Refusal :=
  .next (lookAfter s (receiveB (b0 :: b1 :: rest) s))

/-- B_PORT_SYMBOL_RECEIVED (R21). -/
def execBPortSymbolReceived (symbol : Byte) (s : State) : Host.Outcome State Fault Refusal :=
  .next (takeSymbol symbol s)

/-- L_PORT_UNIT_COMPLETED (R17); LIDSW stands at this level as an evaluation reads it (R74). -/
def execLPortUnitCompleted (lidsw : Bool) (b0 : Byte) (rest : List Byte) (s : State) :
    Host.Outcome State Fault Refusal :=
  .next (sLook (receiveL (b0 :: rest) (s.setLines { s.lines with lidsw := lidsw })))

/-- P_PORT_UNIT_COMPLETED (R18). -/
def execPPortUnitCompleted (b0 : Byte) (rest : List Byte) (s : State) :
    Host.Outcome State Fault Refusal :=
  .next (lookAfter s (receiveP (b0 :: rest) s))

/-- S_PORT_UNIT_COMPLETED (R19). -/
def execSPortUnitCompleted (b0 : Byte) (rest : List Byte) (s : State) :
    Host.Outcome State Fault Refusal :=
  .next (lookAfter s (receiveS (b0 :: rest) s))

/-! ### Transmitters -/

/-- HANDSHAKE_WAIT_EXPIRY (R21): where the wait is due, the awaited frame is dropped. -/
def handshakeExpired (s : State) : State :=
  match s.bport.awaiting with
  | some i => if s.bport.handshakeWait.due then bLook (dropAwaited i s) else s
  | none => s

/-- HANDSHAKE_WAIT_EXPIRY (R21). -/
def execHandshakeWaitExpiry (s : State) : Host.Outcome State Fault Refusal := .next (handshakeExpired s)

/-- The last byte of the frame at the S-port is sent: its buffer is released and the transmitter looks for
work (R36). -/
def hostFrameSent (s : State) : State :=
  match s.sport.sending with
  | some i => sLook (releaseBuffer i (s.setSport { s.sport with sending := none }))
  | none => s

/-- S_PORT_FRAME_END (R36). -/
def execSPortFrameEnd (s : State) : Host.Outcome State Fault Refusal := .next (hostFrameSent s)

/-- B_PORT_SYMBOL_SENT (R16). -/
def execBPortSymbolSent (s : State) : Host.Outcome State Fault Refusal := .next (symbolSent s)

/-- PART_ORIGINATED_FRAME_SENT (R20). -/
def execPartOriginatedFrameSent (s : State) : Host.Outcome State Fault Refusal := .next (partFrameSent s)

/-- DOWNSTREAM_FRAME_SENT (R21). -/
def execDownstreamFrameSent (s : State) : Host.Outcome State Fault Refusal := .next (downFrameSent s)

end Sys2Proof.Machine
end

