-- ==== Sys2Proof/Machine/TimerEvents.lean ====
section
/-! DEFINITION. The meanings of the timer expiries and of the drive period end (rows BASE_FRESHNESS_EXPIRY to
IDLE_TIMER_EXPIRY of the opcode table). An expiry acts only where its timer is due in the state it runs
in; a stopped timer does not expire (R111, R144, R156; assumption 4). -/

namespace Sys2Proof.Machine

/-- The Latest Base Sample becomes stale (R64). -/
def freshnessExpired (s : State) : State :=
  if s.posture.baseFresh.due then
    s.setPosture { s.posture with baseFresh := none, baseStale := true }
  else s

/-- BASE_FRESHNESS_EXPIRY (R64). -/
def execBaseFreshnessExpiry (s : State) : Host.Outcome State Fault Refusal := .next (freshnessExpired s)

/-- CONTACT_DEBOUNCE_EXPIRY (R113): the IDENT_REQ requested is a cause for the B-port transmitter to look for work
(R20). -/
def execContactDebounceExpiry (s : State) : Host.Outcome State Fault Refusal :=
  .next (if s.link.state = .contact ∧ s.link.debounce.due then bLook (debounceExpired s) else s)

/-- The B-port transmitter's look after an Ident Timeout, where the link stays in IDENTIFY because another
IDENT_REQ was requested (R20, R114). -/
def lookWhereAsked (s : State) : State := if s.link.state = .identify then bLook s else s

/-- IDENT_TIMEOUT_EXPIRY (R114). -/
def execIdentTimeoutExpiry (s : State) : Host.Outcome State Fault Refusal :=
  .next (if s.link.state = .identify ∧ s.link.identTimer.due then lookWhereAsked (identExpired s)
    else s)

/-- ALIVE_WINDOW_EXPIRY (R119). -/
def execAliveWindowExpiry (s : State) : Host.Outcome State Fault Refusal :=
  .next (if s.link.alive.due then aliveExpired s else s)

/-- DRIVE_PERIOD_END (R137). -/
def execDrivePeriodEnd (s : State) : Host.Outcome State Fault Refusal := .next (bLookAfter s (endPeriod s))

/-- PING_EXPIRY (R146). -/
def execPingExpiry (s : State) : Host.Outcome State Fault Refusal :=
  .next (if s.charge.session = .scan ∧ s.charge.timers.ping.due then bLookAfter s (pingExpired s)
    else s)

/-- PROBE_WINDOW_EXPIRY (R147). -/
def execProbeWindowExpiry (s : State) : Host.Outcome State Fault Refusal :=
  .next (if s.charge.session = .probe ∧ s.charge.timers.probe.due then bLookAfter s (probeExpired s)
    else s)

/-- PEN_SILENCE_EXPIRY (R149). -/
def execPenSilenceExpiry (s : State) : Host.Outcome State Fault Refusal :=
  .next (if s.charge.session = .charging ∧ s.charge.timers.silence.due then bLookAfter s (silenceExpired s)
    else s)

/-- TOP_UP_EXPIRY (R151). -/
def execTopUpExpiry (s : State) : Host.Outcome State Fault Refusal :=
  .next (if s.charge.session = .topped ∧ s.charge.timers.topUp.due then bLookAfter s (topUpExpired s)
    else s)

/-- COOLDOWN_EXPIRY (R152). -/
def execCooldownExpiry (s : State) : Host.Outcome State Fault Refusal :=
  .next (if s.charge.session = .cooldown ∧ s.charge.timers.cooldown.due then enterScan s else s)

/-- SLEEP_DELAY_EXPIRY (R162). -/
def execSleepDelayExpiry (s : State) : Host.Outcome State Fault Refusal :=
  .next (if s.power.vote = .pending ∧ s.power.sleepDelay.due then sleepDelayExpired s else s)

/-- IDLE_TIMER_EXPIRY (R159). -/
def execIdleTimerExpiry (s : State) : Host.Outcome State Fault Refusal :=
  .next (if s.power.vote = .awake ∧ s.power.idle.due then idleExpired s else s)

end Sys2Proof.Machine
end

