-- ==== Sys2Proof/Machine/Dispatch.lean ====
section
/-! DEFINITION. One arm per command: the command's meaning, called directly. -/

namespace Sys2Proof.Machine

/-- The effect of a command on everything but the queue of commands that wait. -/
def exec (i : Instr) (s : State) : Host.Outcome State Fault Refusal :=
  match i with
  | .powerOnReset => Sys2Proof.Machine.execPowerOnReset s
  | .timeCountTick => Sys2Proof.Machine.execTimeCountTick s
  | .hostReadyChange level => Sys2Proof.Machine.execHostReadyChange level s
  | .presenceAsserted => Sys2Proof.Machine.execPresenceAsserted s
  | .presenceReleased => Sys2Proof.Machine.execPresenceReleased s
  | .bPortUnitCompleted b0 b1 rest => Sys2Proof.Machine.execBPortUnitCompleted b0 b1 rest s
  | .bPortSymbolReceived symbol => Sys2Proof.Machine.execBPortSymbolReceived symbol s
  | .lPortUnitCompleted lidsw b0 rest => Sys2Proof.Machine.execLPortUnitCompleted lidsw b0 rest s
  | .pPortUnitCompleted b0 rest => Sys2Proof.Machine.execPPortUnitCompleted b0 rest s
  | .sPortUnitCompleted b0 rest => Sys2Proof.Machine.execSPortUnitCompleted b0 rest s
  | .handshakeWaitExpiry => Sys2Proof.Machine.execHandshakeWaitExpiry s
  | .sPortFrameEnd => Sys2Proof.Machine.execSPortFrameEnd s
  | .bPortSymbolSent => Sys2Proof.Machine.execBPortSymbolSent s
  | .partOriginatedFrameSent => Sys2Proof.Machine.execPartOriginatedFrameSent s
  | .downstreamFrameSent => Sys2Proof.Machine.execDownstreamFrameSent s
  | .baseFreshnessExpiry => Sys2Proof.Machine.execBaseFreshnessExpiry s
  | .contactDebounceExpiry => Sys2Proof.Machine.execContactDebounceExpiry s
  | .identTimeoutExpiry => Sys2Proof.Machine.execIdentTimeoutExpiry s
  | .aliveWindowExpiry => Sys2Proof.Machine.execAliveWindowExpiry s
  | .drivePeriodEnd => Sys2Proof.Machine.execDrivePeriodEnd s
  | .pingExpiry => Sys2Proof.Machine.execPingExpiry s
  | .probeWindowExpiry => Sys2Proof.Machine.execProbeWindowExpiry s
  | .penSilenceExpiry => Sys2Proof.Machine.execPenSilenceExpiry s
  | .topUpExpiry => Sys2Proof.Machine.execTopUpExpiry s
  | .cooldownExpiry => Sys2Proof.Machine.execCooldownExpiry s
  | .sleepDelayExpiry => Sys2Proof.Machine.execSleepDelayExpiry s
  | .idleTimerExpiry => Sys2Proof.Machine.execIdleTimerExpiry s
  | .owedFrameEmission => Sys2Proof.Machine.execOwedFrameEmission s
  | .pendingItemRetry => Sys2Proof.Machine.execPendingItemRetry s
  | .releaseRetry => Sys2Proof.Machine.execReleaseRetry s
  | .liftRetry => Sys2Proof.Machine.execLiftRetry s
  | .gateUpdate padFirst => Sys2Proof.Machine.execGateUpdate padFirst s
  | .inputGateTeardown padFirst => Sys2Proof.Machine.execInputGateTeardown padFirst s
  | .postureAdmission => Sys2Proof.Machine.execPostureAdmission s
  | .postureTeardown => Sys2Proof.Machine.execPostureTeardown s
  | .toggleAndHaltReset => Sys2Proof.Machine.execToggleAndHaltReset s
  | .transmitterTeardown => Sys2Proof.Machine.execTransmitterTeardown s
  | .admissionGrant => Sys2Proof.Machine.execAdmissionGrant s
  | .railTeardown => Sys2Proof.Machine.execRailTeardown s
  | .capChange cause => Sys2Proof.Machine.execCapChange cause s
  | .powerPostureChange => Sys2Proof.Machine.execPowerPostureChange s
  | .powerPolicyEvent => Sys2Proof.Machine.execPowerPolicyEvent s
  | .activityEvent filter => Sys2Proof.Machine.execActivityEvent filter s
  | .wakeSourceEvent source => Sys2Proof.Machine.execWakeSourceEvent source s
  | .eventDelivery event => Sys2Proof.Machine.execEventDelivery event s
  | .getInfo channel args => Sys2Proof.Machine.execGetInfo channel args s
  | .softReset channel args => Sys2Proof.Machine.execSoftReset channel args s
  | .writeRoute channel args => Sys2Proof.Machine.execWriteRoute channel args s
  | .invalidateRoute channel args => Sys2Proof.Machine.execInvalidateRoute channel args s
  | .readRoute channel args => Sys2Proof.Machine.execReadRoute channel args s
  | .setDefaultRoute channel args => Sys2Proof.Machine.execSetDefaultRoute channel args s
  | .writePosture channel args => Sys2Proof.Machine.execWritePosture channel args s
  | .invalidatePosture channel args => Sys2Proof.Machine.execInvalidatePosture channel args s
  | .readPostureEntry channel args => Sys2Proof.Machine.execReadPostureEntry channel args s
  | .writePolicy channel args => Sys2Proof.Machine.execWritePolicy channel args s
  | .writeAxisMap channel args => Sys2Proof.Machine.execWriteAxisMap channel args s
  | .writeAngleParams channel args => Sys2Proof.Machine.execWriteAngleParams channel args s
  | .readPostureRecord channel args => Sys2Proof.Machine.execReadPostureRecord channel args s
  | .setRotationLock channel args => Sys2Proof.Machine.execSetRotationLock channel args s
  | .writeBaseClass channel args => Sys2Proof.Machine.execWriteBaseClass channel args s
  | .readBaseRecord channel args => Sys2Proof.Machine.execReadBaseRecord channel args s
  | .setLinkTiming channel args => Sys2Proof.Machine.execSetLinkTiming channel args s
  | .channelHalt channel args => Sys2Proof.Machine.execChannelHalt channel args s
  | .channelResume channel args => Sys2Proof.Machine.execChannelResume channel args s
  | .setBudget channel args => Sys2Proof.Machine.execSetBudget channel args s
  | .readBudget channel args => Sys2Proof.Machine.execReadBudget channel args s
  | .writeDriveLevel channel args => Sys2Proof.Machine.execWriteDriveLevel channel args s
  | .writeChargeCell channel args => Sys2Proof.Machine.execWriteChargeCell channel args s
  | .setChargeParams channel args => Sys2Proof.Machine.execSetChargeParams channel args s
  | .chargeEnable channel args => Sys2Proof.Machine.execChargeEnable channel args s
  | .readChargeRecord channel args => Sys2Proof.Machine.execReadChargeRecord channel args s
  | .setHostState channel args => Sys2Proof.Machine.execSetHostState channel args s
  | .writeWakeTable channel args => Sys2Proof.Machine.execWriteWakeTable channel args s
  | .readSleepRecord channel args => Sys2Proof.Machine.execReadSleepRecord channel args s
  | .setQueue channel args => Sys2Proof.Machine.execSetQueue channel args s
  | .flushQueue channel args => Sys2Proof.Machine.execFlushQueue channel args s
  | .readQueues channel args => Sys2Proof.Machine.execReadQueues channel args s
  | .readEvents channel args => Sys2Proof.Machine.execReadEvents channel args s
  | .clearEvents channel args => Sys2Proof.Machine.execClearEvents channel args s
  | .setEventEnable channel args => Sys2Proof.Machine.execSetEventEnable channel args s
  | .readLog channel args => Sys2Proof.Machine.execReadLog channel args s
  | .clearLog channel args => Sys2Proof.Machine.execClearLog channel args s
  | .readCounters channel args => Sys2Proof.Machine.execReadCounters channel args s

end Sys2Proof.Machine
end

