-- ==== Sys2Proof/Safety.lean ====
section
/-! DEFINITION. What holds of the part between any two of its events: the laws the manual states of each block's
state, as predicates on the whole state. Each law is kept by every step; the statements say so. -/

namespace Sys2Proof.Machine

/-! ### Buffers and the two transmitters -/

/-- The buffer of what the B-port transmitter is sending (R20). -/
def BSending.buffers : BSending → List BufIdx
  | .idle | .symbol _ _ => []
  | .partOriginated i | .downstream i => [i]

/-- The buffers of the Free List and of the five queues (R24). -/
def Pool.listed (p : Pool) : List BufIdx :=
  p.free ++ p.q0.items ++ p.q1.items ++ p.q2.items ++ p.q3.items ++ p.qd.items

/-- Every place of a buffer: the Free List, the five queues and the two transmitters (R24). -/
def State.bufferPlaces (s : State) : List BufIdx :=
  s.pool.listed ++ s.sport.sending.toList ++ s.bport.sending.buffers ++ s.bport.awaiting.toList

/-- A queue holds no more than its limit, and the limit is in the queue's range (R25). -/
abbrev Pool.withinLimit (p : Pool) (q : QueueId) : Prop :=
  (p.queue q).items.length ≤ (p.queue q).limit ∧ q.leastLimit ≤ (p.queue q).limit
    ∧ (p.queue q).limit ≤ 48

/-- The unit being sent is a downstream frame. -/
def BSending.isDownstream : BSending → Bool
  | .downstream _ => true
  | _ => false

/-- The law of the buffers: 48 in all, none in two places, no queue over its limit; and no downstream frame
is sent while another awaits its handshake (R20, R24, R25). -/
abbrev PoolLaw (s : State) : Prop :=
  s.bufferPlaces.length = 48 ∧ s.bufferPlaces.Nodup
    ∧ (s.pool.withinLimit .q0 ∧ s.pool.withinLimit .q1 ∧ s.pool.withinLimit .q2
        ∧ s.pool.withinLimit .q3 ∧ s.pool.withinLimit .qd)
    ∧ (s.bport.sending.isDownstream = true → s.bport.awaiting = none)

/-- The law of the B-port transmitter: at most one owed symbol per channel, and the handshake wait runs
exactly while a downstream frame awaits its handshake (R16, R21). -/
abbrev TransmitLaw (s : State) : Prop :=
  (s.bport.owed.map OwedSymbol.channel).Nodup
    ∧ s.bport.awaiting.isSome = s.bport.handshakeWait.isSome

/-! ### Routes -/

/-- The fields of a Route Table entry stand in the relations WRITE_ROUTE leaves them in (R40, R41). -/
abbrev Route.wellFormed (r : Route) : Prop :=
  (r.span = 1 ∨ r.span = 2 ∨ r.span = 4 ∨ r.span = 8 ∨ r.span = 16)
    ∧ r.base % r.span = 0 ∧ r.base + r.span ≤ 16
    ∧ r.queue.isSome = (r.action == .forward || r.action == .tap)
    ∧ (r.gate.isSome = true → gateAllowed r.port r.kind r.action = true)

/-- The law of the Frame Classifier: every window is aligned and within the channels, a queue is named by
FORWARD and TAP alone, and only a route that may be gated names a gate class (R39 to R41, R45). -/
abbrev RouteLaw (s : State) : Prop :=
  (∀ i : Fin 24, s.classifier.routes[i].wellFormed)
    ∧ s.classifier.dflt.queue.isSome
      = (s.classifier.dflt.action == .forward || s.classifier.dflt.action == .tap)

/-! ### Posture -/

/-- A posture chosen by no Posture Table entry (R79). -/
def Posture.entryless (p : Posture) : Bool := p == .unknown || p == .detached

/-- The law of the Posture Engine: an entry is current only for a posture a table can choose; the counts are
0 while their candidates are none; the posture is UNKNOWN or DETACHED while the hinge valid flag is clear;
and the orientation is ROT0 while the effective mode is LOCK0 (R75 to R79, R85, R86, R89). -/
abbrev PostureLaw (s : State) : Prop :=
  (∀ i : Fin 8, s.posture.table[i].posture.entryless = false)
    ∧ (s.posture.posture.entryless = true → s.posture.entry = none)
    ∧ (s.posture.candidate = .none → s.posture.candidateCount = 0)
    ∧ (s.posture.rotCandidate = none → s.posture.rotCount = 0)
    ∧ (s.posture.hingeValid = false → s.posture.posture.entryless = true)
    ∧ (s.posture.effectiveMode = .lock0 → s.posture.orientation = .rot0)
    ∧ s.posture.hinge ≤ 4095

/-! ### Input Gate -/

/-- The law of the Input Gate: Held holds at most 14 distinct codes, none of them 0; Masked is part of Held;
Last Forwarded is empty while a release is pending, and had-contacts clear while a lift is; the
gate of a bound Key Filter and the pad gate are each the gate of the class they follow (R98, R99, R104, R107,
R108). An unbound Key Filter keeps its gate from a teardown on (R106; assumption 23). -/
abbrev GateLaw (s : State) : Prop :=
  s.gate.key.held.Nodup ∧ s.gate.key.held.length ≤ Config.heldCapacity ∧ (0 : Byte) ∉ s.gate.key.held
    ∧ (∀ c ∈ s.gate.key.masked, c ∈ s.gate.key.held)
    ∧ (s.gate.key.pending.isSome = true → s.gate.key.lastForwarded = [])
    ∧ (s.gate.pad.pending.isSome = true → s.gate.pad.hadContacts = false)
    ∧ (s.gate.key.bound.isSome = true → s.gate.key.gateOpen = gateOf s.gate.gates s.gate.key.cls)
    ∧ s.gate.pad.gateOpen = gateOf s.gate.gates s.gate.pad.cls

/-! ### Link -/

/-- The law of the Link Monitor: each timer runs exactly in the state named for it; the Base Record is valid
exactly in ATTACHED and SUSPECT and empty otherwise; the attempt count is at most 3, and 0 in DETACHED; an
IDENT_REQ is pending only in IDENTIFY (R20, R111, R118). -/
abbrev LinkLaw (s : State) : Prop :=
  s.link.debounce.isSome = (s.link.state == .contact)
    ∧ s.link.identTimer.isSome = (s.link.state == .identify)
    ∧ s.link.alive.isSome = s.link.state.attachedOrSuspect
    ∧ s.link.record.valid = s.link.state.attachedOrSuspect
    ∧ (s.link.record.valid = false → s.link.record = {})
    ∧ s.link.attempts ≤ Config.identAttempts
    ∧ (s.link.state = .detached → s.link.attempts = 0)
    ∧ (s.bport.pendingIdent = true → s.link.state = .identify)

/-! ### Rail and charge -/

/-- The session drives the coil (R144). -/
def Session.drives : Session → Bool
  | .probe | .charging => true
  | _ => false

/-- The law of the rail and the coil: G + P never exceeds Te, and T does not either; the pending grant is 0
without its flag, and Te is T without a pending lowering; P is the larger of the powers of the active and
the allocated level, both 0 and the coil at its idle values while it is idle; the cap is the one of the room; level 0 is the idle
level; the coil is idle in every session state but PROBE and CHARGING; and the charger is enabled in
every session state but OFF (R127 to R129, R135, R137, R144). -/
abbrev RailLaw (s : State) : Prop :=
  s.rail.grant + s.rail.penAlloc ≤ s.rail.effective
    ∧ s.rail.total ≤ s.rail.effective
    ∧ (s.rail.budgetPending = false → s.rail.effective = s.rail.total)
    ∧ (s.rail.grantPending = false → s.rail.pendingGrant = 0)
    ∧ s.rail.penAlloc = max (s.charge.power s.rail.active) (s.charge.power s.rail.allocated)
    ∧ (s.pport.coil.driving = false →
        s.pport.coil = {} ∧ s.rail.active = 0 ∧ s.rail.allocated = 0)
    ∧ s.rail.cap = capFor s.charge s.rail.room
    ∧ s.charge.levels[(0 : Fin 8)] = {}
    ∧ (s.charge.session.drives = false → s.pport.coil.driving = false)
    ∧ s.charge.enabled = (s.charge.session != .off)

/-! ### Sleep vote -/

/-- The law of the sleep vote: WAKE is asserted exactly in WAKING; the vote is ASLEEP or WAKING exactly while
the host power state is not ACTIVE; a reason is held only in PENDING and REQUESTED; the Sleep Delay runs
exactly in PENDING, and the idle timer only in AWAKE (R155, R156). -/
abbrev VoteLaw (s : State) : Prop :=
  s.power.wakeLine = (s.power.vote == .waking)
    ∧ s.power.sleeping = (s.power.host != .active)
    ∧ ((s.power.reason != .none) = (s.power.vote == .pending || s.power.vote == .requested))
    ∧ s.power.sleepDelay.isSome = (s.power.vote == .pending)
    ∧ (s.power.idle.isSome = true → s.power.vote = .awake)

/-! ### Events -/

/-- The law of the Management Unit: ATTN is asserted exactly when an enabled event flag is set, and a notice
is owed only for a set flag (R33, R173, R175). -/
abbrev EventLaw (s : State) : Prop :=
  s.mgmt.attn = attnOf s.mgmt.flags s.mgmt.enables ∧ s.mgmt.owedNotices &&& ~~~s.mgmt.flags = 0

/-- Every law at once. -/
abbrev Lawful (s : State) : Prop :=
  PoolLaw s ∧ TransmitLaw s ∧ RouteLaw s ∧ PostureLaw s ∧ GateLaw s ∧ LinkLaw s ∧ RailLaw s
    ∧ VoteLaw s ∧ EventLaw s

/-! ### What the statements speak of -/

/-- The management command of a code, on a channel, with argument bytes (R169). -/
def commandOfCode (channel : Chan) (args : List Byte) : Nat → Option Instr
  | 1 => some (.getInfo channel args)
  | 2 => some (.softReset channel args)
  | 3 => some (.writeRoute channel args)
  | 4 => some (.invalidateRoute channel args)
  | 5 => some (.readRoute channel args)
  | 6 => some (.setDefaultRoute channel args)
  | 7 => some (.writePosture channel args)
  | 8 => some (.invalidatePosture channel args)
  | 9 => some (.readPostureEntry channel args)
  | 10 => some (.writePolicy channel args)
  | 11 => some (.writeAxisMap channel args)
  | 12 => some (.writeAngleParams channel args)
  | 13 => some (.readPostureRecord channel args)
  | 14 => some (.setRotationLock channel args)
  | 15 => some (.writeBaseClass channel args)
  | 16 => some (.readBaseRecord channel args)
  | 17 => some (.setLinkTiming channel args)
  | 18 => some (.channelHalt channel args)
  | 19 => some (.channelResume channel args)
  | 20 => some (.setBudget channel args)
  | 21 => some (.readBudget channel args)
  | 22 => some (.writeDriveLevel channel args)
  | 23 => some (.writeChargeCell channel args)
  | 24 => some (.setChargeParams channel args)
  | 25 => some (.chargeEnable channel args)
  | 26 => some (.readChargeRecord channel args)
  | 27 => some (.setHostState channel args)
  | 28 => some (.writeWakeTable channel args)
  | 29 => some (.readSleepRecord channel args)
  | 30 => some (.setQueue channel args)
  | 31 => some (.flushQueue channel args)
  | 32 => some (.readQueues channel args)
  | 33 => some (.readEvents channel args)
  | 34 => some (.clearEvents channel args)
  | 35 => some (.setEventEnable channel args)
  | 36 => some (.readLog channel args)
  | 37 => some (.clearLog channel args)
  | 38 => some (.readCounters channel args)
  | _ => none

/-- The number of argument bytes of a command code (R169). -/
def argumentBytes : Nat → Option Nat
  | 1 => some 0
  | 2 => some 0
  | 3 => some 8
  | 4 => some 1
  | 5 => some 2
  | 6 => some 2
  | 7 => some 10
  | 8 => some 1
  | 9 => some 1
  | 10 => some 11
  | 11 => some 7
  | 12 => some 20
  | 13 => some 0
  | 14 => some 1
  | 15 => some 5
  | 16 => some 1
  | 17 => some 6
  | 18 => some 1
  | 19 => some 1
  | 20 => some 1
  | 21 => some 0
  | 22 => some 5
  | 23 => some 3
  | 24 => some 18
  | 25 => some 1
  | 26 => some 0
  | 27 => some 1
  | 28 => some 1
  | 29 => some 0
  | 30 => some 3
  | 31 => some 1
  | 32 => some 2
  | 33 => some 0
  | 34 => some 2
  | 35 => some 2
  | 36 => some 0
  | 37 => some 0
  | 38 => some 2
  | _ => none

/-- The state in which a command that finds room is executed: the head of the Free List has joined the tail of
Q0 as its response (R30). -/
def withPlace (s : State) : State :=
  match s.pool.join .q0 [] with
  | some (_, p) => s.setPool p
  | none => s

/-- What a command with room leaves when its execution gives `effect` and its answer is a status and data: the
response, in the buffer that was the head of the Free List, is filled; the command is counted; the
transmitters look for work (R20, R30, R35, R168, R176; assumption 22). -/
def answered (code : Byte) (st : Status) (data : List Byte) (effect s : State) : State :=
  match s.pool.free with
  | [] => s
  | i :: _ => lookAfter s (complete code i { status := st, data := data, state := effect })

/-- The working values x, y and z after each iteration of a vectoring, first iteration first (R61). -/
def vectorTrace : Nat → List Int → Int → Int → Int → List (Int × Int × Int)
  | _, [], _, _, _ => []
  | i, k :: ks, x, y, z =>
    let w := if 0 ≤ y then (x + (y >>> i), y - (x >>> i), z + k)
      else (x - (y >>> i), y + (x >>> i), z - k)
    w :: vectorTrace (i + 1) ks w.1 w.2.1 w.2.2

/-- A delivery is the oldest on its route: `before` holds no delivery on the route, and `before ++ after` is
what is left when it is taken. -/
def Front (d : Delivery) (before after : List Delivery) (s : State) : Prop :=
  s.deliveries = before ++ d :: after ∧ ∀ e ∈ before, e.route ≠ d.route

/-- What a retry occasion delivers: a retry to each filter whose pending synthetic frame it concerns (R104,
R108). -/
def retryDeliveries (o : RetryOccasion) (g : InputGate) : List Delivery :=
  (if o.concerns g.key.pending then [.releaseRetry o] else [])
    ++ (if o.concerns g.pad.pending then [.liftRetry o] else [])

/-- What a buffer-available event delivers: a retry to the B-port transmitter while an IDENT_REQ or GRANT is
pending, an emission occasion while a frame is owed, and the retries of the Input Gate (R34). -/
def availableDeliveries (s : State) : List Delivery :=
  (if s.bport.pendingIdent || s.bport.pendingGrant.isSome then [.itemRetry] else [])
    ++ (if s.mgmt.owesFrame then [.owedEmission] else [])
    ++ retryDeliveries .bufferAvailable s.gate

/-- The state after one buffer is released to the tail of the Free List (R34). -/
def freed (i : BufIdx) (s : State) : State :=
  { s with
    pool := { s.pool with free := s.pool.free ++ [i] }
    deliveries := s.deliveries ++ availableDeliveries s }

/-- The state after the head of a host-bound queue went to the S-port transmitter, with what the taking
delivers (R35). -/
def sendHead (q : QueueId) (i : BufIdx) (rest : List BufIdx) (delivered : List Delivery) (s : State) :
    State :=
  let v := s.pool.queue q
  { s with
    pool := s.pool.setQueue q
      { v with items := rest, counters := { v.counters with sent := satInc v.counters.sent } }
    sport := { s.sport with sending := some i }
    deliveries := s.deliveries ++ delivered }

/-- The state after a unit of two or more bytes was staged and counted at the B-port (R3, R11). -/
def stagedAtB (unit : List Byte) (s : State) : State :=
  { s with bport := { s.bport with
      staging := unit.take 37
      counters := { s.bport.counters with received := satInc s.bport.counters.received } } }

/-- The state after a unit was counted at the L-port, and staged unless it is a symbol (R3, R17). -/
def stagedAtL (unit : List Byte) (s : State) : State :=
  { s with lport := { s.lport with
      staging := if unit.length ≤ 1 then s.lport.staging else unit.take 37
      counters := { s.lport.counters with received := satInc s.lport.counters.received } } }

/-- The state after a unit was counted at the P-port, and staged unless it is a symbol (R3, R18). -/
def stagedAtP (unit : List Byte) (s : State) : State :=
  { s with pport := { s.pport with
      staging := if unit.length ≤ 1 then s.pport.staging else unit.take 37
      counters := { s.pport.counters with received := satInc s.pport.counters.received } } }

/-- The state after a unit was counted at the S-port, and staged unless it is a symbol (R3, R19). -/
def stagedAtS (unit : List Byte) (s : State) : State :=
  { s with sport := { s.sport with
      staging := if unit.length ≤ 1 then s.sport.staging else unit.take 37
      counters := { s.sport.counters with received := satInc s.sport.counters.received } } }

/-- The Link Monitor in a state with the timers given, the others stopped (R111). -/
def Link.at (x : LinkState) (debounce ident alive : Timer) (l : Link) : Link :=
  { l with state := x, debounce := debounce, identTimer := ident, alive := alive }

/-- The payload bytes of an IDENT for a base (R9). -/
def identityBytes (i : Identity) : List Byte :=
  [i.cls, i.revision, i.layout, byteNat i.requestedLoad, byteNat i.descriptors.length]
    ++ i.descriptors.flatMap descriptorBytes

end Sys2Proof.Machine
end

