-- ==== Sys2Proof/Certificates/Slice0/Obligations.lean ====
section
/-! DEFINITION. The statements for the provers. -/

section

open Sys2Proof Sys2Proof.Machine

/-! ### The machine and its reset -/

/-- A step with a command at the front of the queue is that command's effect on the state with the queue's
rest; the effect is on everything but the queue; and with an empty queue the part idles (the model's choice,
assumption 15). -/
def Obligations.StepRunsTheFrontCommand : Prop :=
  (∀ (c : Instr) (rest : List Instr) (s : State),
    step (s.setPending (c :: rest)) = exec c (s.setPending rest))
  ∧ (∀ (c : Instr) (s t : State), exec c s = .next t → t.pending = s.pending)
  ∧ ∀ s : State, s.pending = [] → step s = .next s

/-- POWER_ON_RESET: the Free List holds 0..47 in ascending order, every queue is empty with its power-on limit
and policy, both transmitters are idle and hold no buffer, and every block is at its reset state. The input
lines stand and an asserted PRESENCE is read afterwards (the model's choice, assumption 1), every other delivery
under way is discarded and the queue of commands kept (the model's reading, assumption 16), and where the spec
gives no reset value, to the buffers and staging frames and to the last sample counter, the value is the model's
(assumptions 2 and 17). Every law holds of the state after power-on reset, and no command waits in it. -/
def Obligations.PowerOnResetIsLawful : Prop :=
  Lawful State.reset ∧ State.reset.pending = [] ∧ ∀ s : State, ∃ t : State, exec .powerOnReset s = .next t
    ∧ t.pool.free = List.finRange 48
    ∧ (t.pool.q0.items = [] ∧ t.pool.q0.limit = 8 ∧ t.pool.q0.policy = none)
    ∧ (t.pool.q1.items = [] ∧ t.pool.q1.limit = 12 ∧ t.pool.q1.policy = some .dropNew)
    ∧ (t.pool.q2.items = [] ∧ t.pool.q2.limit = 16 ∧ t.pool.q2.policy = some .dropOld)
    ∧ (t.pool.q3.items = [] ∧ t.pool.q3.limit = 8 ∧ t.pool.q3.policy = some .dropOld)
    ∧ (t.pool.qd.items = [] ∧ t.pool.qd.limit = 8 ∧ t.pool.qd.policy = some .dropNew)
    ∧ t.sport.sending = none ∧ t.bport.sending = .idle ∧ t.bport.awaiting = none ∧ t.bport.owed = []
    ∧ t.time = 0 ∧ t.link.state = .detached ∧ t.posture.posture = .detached
    ∧ t.charge.session = .off ∧ t.power.vote = .awake ∧ t.mgmt.lastReset = .powerOn
    ∧ t.lines = s.lines
    ∧ t.deliveries = (if s.lines.presence then [.presenceRead] else [])
    ∧ t = { State.reset with lines := s.lines, deliveries := t.deliveries, pending := s.pending }

/-! ### The laws, kept by every step -/

/-- At every moment the Free List, the queues and the transmitters hold the 48 buffers, none twice, and no queue
holds more than its limit; at most one symbol is owed per channel, and the handshake wait runs exactly while a
downstream frame awaits its handshake: kept by every step from every state in which it holds. -/
def Obligations.EveryStepKeepsTheBufferLaws : Prop :=
  ∀ s t : State, step s = .next t → (PoolLaw s → PoolLaw t) ∧ (TransmitLaw s → TransmitLaw t)

/-- The base grant plus the pen allocation never exceeds the effective budget, with the figures it rests on: kept
by every step. -/
def Obligations.EveryStepKeepsTheRailLaw : Prop :=
  ∀ s t : State, RailLaw s → step s = .next t → RailLaw t

/-- WAKE is asserted exactly when the vote is WAKING, and the vote is ASLEEP or WAKING exactly while the host
power state is STANDBY or OFF; ATTN is asserted exactly when at least one enabled event flag is set: kept by every
step. -/
def Obligations.EveryStepKeepsTheVoteAndEventLaws : Prop :=
  ∀ s t : State, step s = .next t → (VoteLaw s → VoteLaw t) ∧ (EventLaw s → EventLaw t)

/-- Masked is part of Held, Held holds at most 14 distinct codes, and the gate of a bound Key Filter and the pad
gate are each a copy of the gate of the class they follow: kept by every step. Of an unbound Key Filter nothing is
said: from a teardown on it keeps its gate (the model's reading, assumption 23). -/
def Obligations.EveryStepKeepsTheGateLaw : Prop :=
  ∀ s t : State, GateLaw s → step s = .next t → GateLaw t

/-- The posture is UNKNOWN or DETACHED whenever the hinge valid flag is clear, and the orientation is ROT0 while
the effective rotation mode is LOCK0 (at an admission, a teardown and an Axis Map write by the model's reading,
assumption 11): kept by every step. -/
def Obligations.EveryStepKeepsThePostureLaw : Prop :=
  ∀ s t : State, PostureLaw s → step s = .next t → PostureLaw t

/-- Each link timer runs exactly in the state named for it, and the Base Record is valid exactly in ATTACHED and
SUSPECT: kept by every step. -/
def Obligations.EveryStepKeepsTheLinkLaw : Prop :=
  ∀ s t : State, LinkLaw s → step s = .next t → LinkLaw t

/-- Every route's window is aligned to its span and lies within the channels, and a gated entry is a FORWARD
entry of the B-port: kept by every step. -/
def Obligations.EveryStepKeepsTheRouteLaw : Prop :=
  ∀ s t : State, RouteLaw s → step s = .next t → RouteLaw t

/-! ### Frames and angles -/

/-- A frame the part builds passes the frame check, and its header fields and payload are read back as they were
given, at every port that accepts its kind. -/
def Obligations.BuiltFramePassesBothChecks : Prop :=
  ∀ (port : Port) (kind : Kind) (channel : Chan) (dest : Node) (toggle : Bool) (payload : List Byte),
    payload.length ≤ 32 → port.accepts kind = true →
      frameCheckPasses (buildFrame kind channel dest toggle payload) = true
      ∧ headerCheck port (buildFrame kind channel dest toggle payload)
        = some { kind := kind, channel := channel, dest := dest, toggle := toggle, payload := payload
                 raw := buildFrame kind channel dest toggle payload }

/-- The header check refuses a unit in exactly these cases: its kind is 13, 14 or 15; bits 3-0 of byte 1 are not
all zero; its length field exceeds 32 or differs from the byte count minus 5; its kind is not one of the port's. -/
def Obligations.HeaderCheckRefusals : Prop :=
  ∀ (port : Port) (unit : List Byte), 5 ≤ unit.length →
    (headerCheck port unit = none ↔
      13 ≤ kindField unit ∨ zeroField unit ≠ 0 ∨ 32 < lengthField unit
      ∨ lengthField unit ≠ unit.length - 5
      ∨ ∃ k, Kind.ofCode (kindField unit) = some k ∧ port.accepts k = false)

/-- No working value of a vectoring leaves the signed 24-bit width: with components within ±32768, x stays below
2 to the power 17, z stays within its bounds, and the result is the last working value's. -/
def Obligations.VectoringStaysWithinItsWidth : Prop :=
  ∀ p q : Int, -32768 ≤ p → p ≤ 32768 → -32768 ≤ q → q ≤ 32768 → ¬ (p = 0 ∧ q = 0) →
    let trace := if p < 0 then vectorTrace 0 Config.vectorConstants (-p) (-q) 2048
      else vectorTrace 0 Config.vectorConstants p q 0
    (∀ w ∈ trace, 0 ≤ w.1 ∧ w.1 < 2 ^ 17 ∧ -(2 ^ 23) ≤ w.2.1 ∧ w.2.1 < 2 ^ 23
        ∧ -1135 ≤ w.2.2 ∧ w.2.2 ≤ 2048 + 1135)
      ∧ trace.length = 10
      ∧ ∃ w, trace.getLast? = some w ∧ vectoring p q = ((w.2.2 % 4096).toNat, w.1.toNat)
      ∧ (vectoring p q).1 < 4096

/-! ### Buffers, queues and the two transmitters -/

/-- Placement of a received frame on a queue with a policy, by the length n, the limit L and the length f of the
Free List: at n = L and at n < L with f ≤ 4 a DROP_OLD queue gives its head buffer to the new frame; at n < L
with f ≥ 5 the head of the Free List receives it; every other case is a refusal, counted, with QUEUE_DROP. A
synthetic frame on a gated route's queue is placed without regard to the reserve, and a failure changes nothing
and delivers nothing. -/
def Obligations.FramePlacement : Prop :=
  (∀ (q : QueueId) (frame : List Byte) (s : State),
    (s.pool.queue q).items.length ≤ (s.pool.queue q).limit → 1 ≤ (s.pool.queue q).limit →
    (s.pool.queue q).policy.isSome = true →
    let v := s.pool.queue q
    let full := v.items.length = v.limit
    let scarce := v.items.length < v.limit ∧ s.pool.free.length ≤ 4
    (∀ i rest, v.policy = some .dropOld → v.items = i :: rest → full ∨ scarce →
      placeReceived q frame s = (true, s.setPool (({ s.pool with bufs := s.pool.bufs.set i frame }).setQueue q
        { v with
          items := rest ++ [i]
          counters := { v.counters with
            placed := satInc v.counters.placed, evicted := satInc v.counters.evicted } })))
    ∧ (∀ i rest, v.items.length < v.limit → 5 ≤ s.pool.free.length → s.pool.free = i :: rest →
      placeReceived q frame s = (true, s.setPool (({ s.pool with
          free := rest, bufs := s.pool.bufs.set i frame }).setQueue q
        { v with
          items := v.items ++ [i]
          peak := max v.peak (v.items.length + 1)
          counters := { v.counters with placed := satInc v.counters.placed } })))
    ∧ (v.policy = some .dropNew → full →
      placeReceived q frame s = (false, { s with
        pool := s.pool.setQueue q
          { v with counters := { v.counters with refused := satInc v.counters.refused } }
        deliveries := s.deliveries ++ [.event .queueDrop] }))
    ∧ (scarce → v.policy = some .dropNew ∨ v.items = [] →
      placeReceived q frame s = (false, { s with
        pool := s.pool.setQueue q
          { v with counters := { v.counters with noBuffer := satInc v.counters.noBuffer } }
        deliveries := s.deliveries ++ [.event .queueDrop] })))
  ∧
  ∀ (q : HostQueue) (frame : List Byte) (s : State),
    (s.pool.queue q.id).items.length ≤ (s.pool.queue q.id).limit → 1 ≤ (s.pool.queue q.id).limit →
    (s.pool.queue q.id).policy.isSome = true →
    let v := s.pool.queue q.id
    let full := v.items.length = v.limit
    (∀ i rest, v.policy = some .dropOld → v.items = i :: rest → full ∨ s.pool.free = [] →
      placeSynthetic q frame s = (true, s.setPool (({ s.pool with bufs := s.pool.bufs.set i frame }).setQueue
        q.id { v with
          items := rest ++ [i]
          counters := { v.counters with
            placed := satInc v.counters.placed, evicted := satInc v.counters.evicted } })))
    ∧ (∀ i rest, v.items.length < v.limit → s.pool.free = i :: rest →
      placeSynthetic q frame s = (true, s.setPool (({ s.pool with
          free := rest, bufs := s.pool.bufs.set i frame }).setQueue q.id
        { v with
          items := v.items ++ [i]
          peak := max v.peak (v.items.length + 1)
          counters := { v.counters with placed := satInc v.counters.placed } })))
    ∧ (v.policy = some .dropNew → full → placeSynthetic q frame s = (false, s))
    ∧ (v.items.length < v.limit → s.pool.free = [] → v.policy = some .dropNew ∨ v.items = [] →
      placeSynthetic q frame s = (false, s))

/-- The S-port transmitter, idle with HOST_READY asserted, takes the head of the first non-empty queue of Q0 to
Q3; the B-port transmitter, sending nothing, starts the owed symbol, then the IDENT_REQ, then the GRANT, then the
head of QD while no frame awaits its handshake; an IDENT_REQ or GRANT that finds no buffer is passed over (the
model's reading, assumption 6). A taking is delivered as an occasion only where a frame is owed or pending for it
(the model's choice, assumption 10). At the end of another block's step the B-port transmitter looks only if the
step gave it a symbol or a GRANT, and after the S-port transmitter (the model's choice, assumption 22); an
IDENT_REQ, the GRANT of an admission and a placement on QD are looks where they are stated. -/
def Obligations.TransmittersLookForWork : Prop :=
  (∀ s t : State,
    let given := (t.bport.owed ≠ [] ∧ t.bport.owed ≠ s.bport.owed)
      ∨ (t.bport.pendingGrant ≠ none ∧ t.bport.pendingGrant ≠ s.bport.pendingGrant)
      ∨ (t.bport.pendingGrant ≠ none ∧ s.rail.grantPending = true ∧ t.rail.grantPending = false)
    (given → bLookAfter s t = bLook t) ∧ (¬ given → bLookAfter s t = t)
    ∧ lookAfter s t = bLookAfter s (sLook t))
  ∧ ∀ s : State,
    (s.sport.sending ≠ none ∨ s.lines.hostReady = false
        ∨ (s.pool.q0.items = [] ∧ s.pool.q1.items = [] ∧ s.pool.q2.items = [] ∧ s.pool.q3.items = []) →
      sLook s = s)
    ∧ (s.sport.sending = none → s.lines.hostReady = true → ∀ i rest,
      (s.pool.q0.items = i :: rest →
        sLook s = sendHead .q0 i rest (if s.mgmt.owesFrame then [.owedEmission] else []) s)
      ∧ (s.pool.q0.items = [] → s.pool.q1.items = i :: rest →
        sLook s = sendHead .q1 i rest (retryDeliveries (.dequeue .q1) s.gate) s)
      ∧ (s.pool.q0.items = [] → s.pool.q1.items = [] → s.pool.q2.items = i :: rest →
        sLook s = sendHead .q2 i rest (retryDeliveries (.dequeue .q2) s.gate) s)
      ∧ (s.pool.q0.items = [] → s.pool.q1.items = [] → s.pool.q2.items = [] → s.pool.q3.items = i :: rest →
        sLook s = sendHead .q3 i rest (retryDeliveries (.dequeue .q3) s.gate) s))
    ∧ (s.bport.sending ≠ .idle → bLook s = s)
    ∧ (s.bport.sending = .idle →
      (∀ o rest, s.bport.owed = o :: rest →
        bLook s = s.setBport { s.bport with
          owed := { o with started := true } :: rest, sending := .symbol o.type o.channel })
      ∧ (∀ i rest, s.bport.owed = [] → s.bport.pendingIdent = true → s.pool.free = i :: rest →
        bLook s = { s with
          pool := { s.pool with
            free := rest, bufs := s.pool.bufs.set i (buildFrame .identReq 0 2 false []) }
          bport := { s.bport with pendingIdent := false, sending := .partOriginated i } })
      ∧ (∀ v i rest, s.bport.owed = [] → s.bport.pendingIdent = false → s.bport.pendingGrant = some v →
        s.pool.free = i :: rest →
        bLook s = { s with
          pool := { s.pool with
            free := rest, bufs := s.pool.bufs.set i (buildFrame .grant 0 2 false [byteNat v]) }
          bport := { s.bport with pendingGrant := none, sending := .partOriginated i } })
      ∧ (s.bport.owed = [] →
        (s.bport.pendingIdent = false ∧ s.bport.pendingGrant = none) ∨ s.pool.free = [] →
        (s.bport.awaiting ≠ none ∨ s.pool.qd.items = [] → bLook s = s)
        ∧ ∀ i rest, s.bport.awaiting = none → s.pool.qd.items = i :: rest →
          bLook s = { s with
            pool := { s.pool with qd := { s.pool.qd with
              items := rest
              counters := { s.pool.qd.counters with sent := satInc s.pool.qd.counters.sent } } }
            bport := { s.bport with
              sending := .downstream i
              counters := { s.bport.counters with downSent := satInc s.bport.counters.downSent } } }))

/-- A requested STATE or NOTE frame is placed on Q0 when Q0 has room, the Free List is not empty and no frame is
owed; otherwise it becomes owed and is counted, a STATE frame already owed adding nothing. A notice is built
before it takes its buffer (the model's choice, assumption 30). The payload of a STATE frame is the Posture Record
in its 11 bytes; that of a NOTE frame is the cause number, the Time Count, and the body of its cause. -/
def Obligations.RequestedFramesArePlacedOrOwed : Prop :=
  ∀ s : State,
    let q := s.pool.q0
    let owing : State := s.setPool { s.pool with q0 := { q with counters :=
      { q.counters with owed := satInc q.counters.owed } } }
    let e := s.posture
    let record : List Byte :=
      [byteNat e.posture.code.val, (match e.entry with | none => 255 | some i => byteNat i.val),
        byteNat e.hinge, byteNat (e.hinge / 256),
        byteNat ((if e.hingeValid then 1 else 0) + (if e.lidsw then 2 else 0) + (if e.degenerate then 4 else 0)
          + (if e.motion then 8 else 0) + (if e.stale then 16 else 0) + (if e.flat then 32 else 0)),
        byteNat e.face.code, byteNat e.orientation.code, lowByte e.changeCount, highByte e.changeCount,
        lowByte e.changeTime, highByte e.changeTime]
    let base := s.link.record
    let link := byteNat s.link.state.code
    let pen : List Byte :=
      [byteNat s.charge.session.code, lowByte s.charge.pen.id, highByte s.charge.pen.id,
        byteNat s.charge.pen.battery, s.charge.pen.temperature]
    let vote := byteNat s.power.vote.code
    let host := byteNat s.power.host.code
    let sleep : List Byte :=
      [vote, byteNat s.power.reason.code, byteNat e.posture.code.val, host]
    let log := s.classifier.log
    let body : EventCause → List Byte
      | .attach => [base.cls, base.revision, base.layout, byteNat base.requestedLoad, byteNat base.loadCap,
          byteNat base.descriptors.length]
      | .detach => [byteNat s.link.lastTeardown.code, link]
      | .suspect => [link]
      | .reject => [byteNat s.link.lastReject.code, link]
      | .grantLimited => [byteNat s.rail.grant, byteNat s.rail.pendingGrant, byteNat base.requestedLoad]
      | .penFound | .penRemoved | .chargeDone | .chargeFault | .chargeLockout => pen
      | .sleepRequest | .sleepWithdrawn => sleep
      | .wake => [s.power.cause, vote, host, byteNat e.posture.code.val]
      | .log => if log.valid then [1, byteNat log.reason.code, byteNat log.port.code, byteNat log.overflow]
          else [0, 0, 0, byteNat log.overflow]
      | .downFail => [byteNat s.bport.counters.downFailed, byteNat (s.bport.counters.downFailed / 256),
          byteNat s.pool.qd.items.length]
      | .queueDrop => [byteNat s.pool.free.length, byteNat s.pool.q1.items.length,
          byteNat s.pool.q2.items.length, byteNat s.pool.q3.items.length, byteNat s.pool.qd.items.length]
    (∀ i rest, q.items.length < q.limit → s.pool.free = i :: rest → s.mgmt.owedState = false →
      s.mgmt.owedNotices = 0 →
      requestState s = { s with
        pool := { s.pool with
          free := rest, q0 := q.push i
          bufs := s.pool.bufs.set i (buildFrame .state 0 1 false record) }
        mgmt := { s.mgmt with counters := { s.mgmt.counters with
          stateReports := satInc s.mgmt.counters.stateReports } } }
      ∧ ∀ c : EventCause, requestNote c s = { s with
        pool := { s.pool with
          free := rest, q0 := q.push i
          bufs := s.pool.bufs.set i (buildFrame .note 0 1 false
            ([byteNat (causeIndex c).val, lowByte s.time, highByte s.time] ++ body c)) }
        mgmt := { s.mgmt with counters := { s.mgmt.counters with
          notices := satInc s.mgmt.counters.notices } } })
    ∧ (q.limit ≤ q.items.length ∨ s.pool.free = [] ∨ s.mgmt.owedState = true ∨ s.mgmt.owedNotices ≠ 0 →
      (s.mgmt.owedState = true → requestState s = s)
      ∧ (s.mgmt.owedState = false →
        requestState s = owing.setMgmt { s.mgmt with owedState := true })
      ∧ ∀ c : EventCause,
        requestNote c s = owing.setMgmt { s.mgmt with
          owedNotices := s.mgmt.owedNotices ||| BitVec.twoPow 16 (causeIndex c).val })

/-- An emission occasion at the Management Unit: the owed STATE frame first, then owed notices in ascending cause
number, until Q0 has no room or nothing is owed. -/
def Obligations.OwedFrameEmission : Prop :=
  (∀ before after s, Front .owedEmission before after s →
    exec .owedFrameEmission s = .next (sLook (emitOwed (s.setDeliveries (before ++ after)))))
  ∧ ∀ s : State,
    ((emitOwed s).pool.hasRoom = false ∨ (emitOwed s).mgmt.owesFrame = false)
    ∧ (s.pool.hasRoom = false → emitOwed s = s)
    ∧ (s.pool.hasRoom = true → s.mgmt.owedState = true →
      emitOwed s = emitOwed (placeState (s.setMgmt { s.mgmt with owedState := false })))
    ∧ ∀ c : EventCause, s.pool.hasRoom = true → s.mgmt.owedState = false →
      hasCause s.mgmt.owedNotices c = true →
      (∀ d : EventCause, causeIndex d < causeIndex c → hasCause s.mgmt.owedNotices d = false) →
      emitOwed s = emitOwed (placeNote c (s.setMgmt { s.mgmt with
        owedNotices := s.mgmt.owedNotices &&& ~~~BitVec.twoPow 16 (causeIndex c).val }))

/-! ### Time and the transmitters' events -/

/-- The Time Count is 0 after power-on reset and gains one each millisecond, wrapping from 65535 to 0; no other
command changes it, soft reset, the teardowns and charger disable among them. -/
def Obligations.TimeCountGainsOneEachMillisecond : Prop :=
  State.reset.time = 0
  ∧ (∀ s : State, ∃ t, exec .powerOnReset s = .next t ∧ t.time = 0)
  ∧ (∀ s : State, ∃ t, exec .timeCountTick s = .next t ∧ t.time.toNat = (s.time.toNat + 1) % 65536)
  ∧ ∀ (c : Instr) (s : State), c ≠ .powerOnReset → c ≠ .timeCountTick →
      ∃ t, exec c s = .next t ∧ t.time = s.time

/-- HOST_READY taking a level is a look for work at the S-port transmitter; the ends of a host frame, a symbol, a
part-originated frame and a downstream frame release their buffers, start the 2 ms handshake wait, and look for
work. A sent symbol leaves the list unless a newer one of its channel replaced it while it was sent (the model's
reading, assumption 5); an end of what is not being sent changes nothing (the model's choice, assumption 26). -/
def Obligations.TransmitterEvents : Prop :=
  ∀ s : State,
    (∀ level, exec (.hostReadyChange level) s
      = .next (sLook (s.setLines { s.lines with hostReady := level })))
    ∧ (∀ i, s.sport.sending = some i →
      exec .sPortFrameEnd s = .next (sLook (freed i (s.setSport { s.sport with sending := none }))))
    ∧ (s.sport.sending = none → exec .sPortFrameEnd s = .next s)
    ∧ (∀ t c o rest, s.bport.sending = .symbol t c → s.bport.owed = o :: rest →
      exec .bPortSymbolSent s = .next (bLook (s.setBport { s.bport with
        sending := .idle, owed := if o.started then rest else o :: rest })))
    ∧ ((∀ t c, s.bport.sending ≠ .symbol t c) → exec .bPortSymbolSent s = .next s)
    ∧ (∀ i, s.bport.sending = .partOriginated i →
      exec .partOriginatedFrameSent s
        = .next (bLook (freed i (s.setBport { s.bport with sending := .idle }))))
    ∧ ((∀ i, s.bport.sending ≠ .partOriginated i) → exec .partOriginatedFrameSent s = .next s)
    ∧ (∀ i, s.bport.sending = .downstream i →
      exec .downstreamFrameSent s = .next (bLook (s.setBport { s.bport with
        sending := .idle, awaiting := some i, handshakeWait := some 2 })))
    ∧ ((∀ i, s.bport.sending ≠ .downstream i) → exec .downstreamFrameSent s = .next s)

/-- A symbol received while a downstream frame awaits its handshake, and the expiry of the 2 ms wait: ACK on the
frame's channel releases the buffer, NAK, HALT and expiry drop the frame with DOWN_FAIL, and the transmitter
looks for work; anything else is a stray, counted alone. -/
def Obligations.DownstreamHandshake : Prop :=
  ∀ (s : State) (b : Byte),
    let waitOver (i : BufIdx) (k : BCounters) : State := freed i (s.setBport { s.bport with
      awaiting := none, handshakeWait := none, counters := k })
    let failed (i : BufIdx) : State :=
      let u := waitOver i { s.bport.counters with downFailed := satInc s.bport.counters.downFailed }
      u.setDeliveries (u.deliveries ++ [.event .downFail])
    let stray : State := s.setBport { s.bport with counters :=
      { s.bport.counters with straySymbols := satInc s.bport.counters.straySymbols } }
    (∀ i, s.bport.awaiting = some i → b.toNat % 16 = (channelField s.pool.bufs[i]).val →
      (b.toNat / 16 = 1 → exec (.bPortSymbolReceived b) s = .next (bLook (waitOver i
        { s.bport.counters with downAcked := satInc s.bport.counters.downAcked })))
      ∧ (b.toNat / 16 = 2 ∨ b.toNat / 16 = 3 →
        exec (.bPortSymbolReceived b) s = .next (bLook (failed i)))
      ∧ (b.toNat / 16 = 0 ∨ 4 ≤ b.toNat / 16 → exec (.bPortSymbolReceived b) s = .next stray))
    ∧ (∀ i, s.bport.awaiting = some i → b.toNat % 16 ≠ (channelField s.pool.bufs[i]).val →
      exec (.bPortSymbolReceived b) s = .next stray)
    ∧ (s.bport.awaiting = none → exec (.bPortSymbolReceived b) s = .next stray)
    ∧ ∀ i, s.bport.awaiting = some i → s.bport.handshakeWait = some 0 →
      exec .handshakeWaitExpiry s = .next (bLook (failed i))

/-! ### The link -/

/-- PRESENCE asserted: from DETACHED and REJECTED the link enters CONTACT with Contact Debounce started, in the
other states nothing but the line changes; an assertion read after a reset acts the same with the line asserted
already. PRESENCE released: CONTACT, IDENTIFY and REJECTED go to DETACHED, ATTACHED and SUSPECT are torn down
with cause PRESENCE; a reading outstanding since a reset no longer finds the line asserted (the model's choice,
assumption 1). -/
def Obligations.PresenceMovesTheLink : Prop :=
  ∀ s : State,
    let contact : Link :=
      { s.link.at .contact (some s.link.timing.contactDebounce) none none with
        counters := { s.link.counters with contacts := satInc s.link.counters.contacts } }
    let starts := s.link.state = .detached ∨ s.link.state = .rejected
    let up : State := s.setLines { s.lines with presence := true }
    let down : State := { s with
      lines := { s.lines with presence := false }
      deliveries := s.deliveries.filter (fun d => d ≠ .presenceRead) }
    (s.lines.presence = false → starts → exec .presenceAsserted s = .next (up.setLink contact))
    ∧ (s.lines.presence = false → ¬ starts → exec .presenceAsserted s = .next up)
    ∧ (∀ before after, s.lines.presence = true → Front .presenceRead before after s →
      exec .presenceAsserted s = .next (if s.link.state = .detached ∨ s.link.state = .rejected
        then { s with link := contact, deliveries := before ++ after }
        else { s with deliveries := before ++ after }))
    ∧ (s.lines.presence = true → s.link.state = .detached → exec .presenceReleased s = .next down)
    ∧ (s.lines.presence = true → s.link.state = .contact ∨ s.link.state = .rejected →
      exec .presenceReleased s = .next (down.setLink
        { s.link.at .detached none none none with attempts := 0 }))
    ∧ (s.lines.presence = true → s.link.state = .identify →
      exec .presenceReleased s = .next ((down.setLink
        { s.link.at .detached none none none with attempts := 0 }).setBport
          { s.bport with pendingIdent := false }))
    ∧ (s.lines.presence = true → s.link.state = .attached ∨ s.link.state = .suspect →
      exec .presenceReleased s = .next { down with
        link := { s.link.at .detached none none none with
          attempts := 0, record := {}, lastTeardown := .presence
          counters := { s.link.counters with teardowns := satInc s.link.counters.teardowns } }
        deliveries := down.deliveries ++
          [.toggleAndHaltReset, .transmitterTeardown, .inputGateTeardown, .postureTeardown, .railTeardown,
           .event .detach, .wakeSource .detach] })
    ∧ (s.lines.presence = false → exec .presenceReleased s = .next s)

/-- The link timers: Contact Debounce leads to IDENTIFY with the first identity request; Ident Timeout repeats it
up to three attempts and then rejects as NO_ANSWER; the Alive Window moves ATTACHED to SUSPECT and tears SUSPECT
down with cause SILENCE, into CONTACT while PRESENCE is asserted. And the base freshness expiry. -/
def Obligations.LinkTimerExpiries : Prop :=
  ∀ s : State,
    let asked (n : Nat) : State := { s with
      link := { s.link.at .identify none (some s.link.timing.identTimeout) none with
        attempts := n
        counters := { s.link.counters with identRequests := satInc s.link.counters.identRequests } }
      bport := { s.bport with pendingIdent := true } }
    let torn : Link := { s.link with
      record := {}, lastTeardown := .silence
      counters := { s.link.counters with teardowns := satInc s.link.counters.teardowns } }
    let tornDeliveries : List Delivery := s.deliveries ++
      [.toggleAndHaltReset, .transmitterTeardown, .inputGateTeardown, .postureTeardown, .railTeardown,
       .event .detach, .wakeSource .detach]
    (s.link.state = .contact → s.link.debounce = some 0 →
      exec .contactDebounceExpiry s = .next (bLook (asked 1)))
    ∧ (s.link.state = .identify → s.link.identTimer = some 0 → s.link.attempts < 3 →
      exec .identTimeoutExpiry s = .next (bLook (asked (s.link.attempts + 1))))
    ∧ (s.link.state = .identify → s.link.identTimer = some 0 → 3 ≤ s.link.attempts →
      exec .identTimeoutExpiry s = .next { s with
        link := { s.link.at .rejected none none none with
          lastReject := .noAnswer
          counters := { s.link.counters with rejections := satInc s.link.counters.rejections } }
        bport := { s.bport with pendingIdent := false }
        deliveries := s.deliveries ++ [.event .reject] })
    ∧ (s.link.state = .attached → s.link.alive = some 0 →
      exec .aliveWindowExpiry s = .next { s with
        link := { s.link.at .suspect none none (some s.link.timing.aliveWindow) with
          counters := { s.link.counters with suspects := satInc s.link.counters.suspects } }
        deliveries := s.deliveries ++ [.event .suspect] })
    ∧ (s.link.state = .suspect → s.link.alive = some 0 → s.lines.presence = true →
      exec .aliveWindowExpiry s = .next { s with
        link := { torn.at .contact (some s.link.timing.contactDebounce) none none with
          counters := { torn.counters with contacts := satInc s.link.counters.contacts } }
        deliveries := tornDeliveries })
    ∧ (s.link.state = .suspect → s.link.alive = some 0 → s.lines.presence = false →
      exec .aliveWindowExpiry s = .next { s with
        link := { torn.at .detached none none none with attempts := 0 }
        deliveries := tornDeliveries })
    ∧ (s.posture.baseFresh = some 0 →
      exec .baseFreshnessExpiry s
        = .next (s.setPosture { s.posture with baseFresh := none, baseStale := true }))

/-- An IDENT payload for a base of up to 8 descriptors on distinct channels is read back as that base, a requested
load over 40 clamped to 40 and bit 6 of a descriptor's third byte ignored (and not kept: the model's reading,
assumption 13); the shape test refuses a payload under five bytes, a descriptor count above 8, a length other than
five and three bytes a descriptor, a channel named twice, and a descriptor field out of range. The load cap of an
admission is the Default Base Load with no valid class, otherwise that of the first valid entry of the base's class
whose minimum revision is met. A live frame restarts the Alive Window in ATTACHED, recovers SUSPECT, and does nothing
elsewhere. -/
def Obligations.IdentityPayloadsAndAdmissionCaps : Prop :=
  (∀ i : Identity, i.requestedLoad ≤ 40 → i.descriptors.length ≤ 8 →
    (i.descriptors.map Descriptor.channel).Nodup → (∀ d ∈ i.descriptors, d.maxLength ≤ 32) →
    identityOf (identityBytes i) = some i)
  ∧ (∀ (cls revision layout load : Byte) (ds : List (Descriptor × Bool)), ds.length ≤ 8 →
    (ds.map (fun d => d.1.channel)).Nodup → (∀ d ∈ ds, d.1.maxLength ≤ 32) →
    identityOf ([cls, revision, layout, load, byteNat ds.length] ++ ds.flatMap (fun d =>
      [byteNat d.1.channel.val, byteNat d.1.kind.kind.code,
        byteNat ((if d.1.handshaked then 128 else 0) + (if d.2 then 64 else 0) + d.1.maxLength)]))
      = some { cls := cls, revision := revision, layout := layout
               requestedLoad := if 40 < load.toNat then 40 else load.toNat
               descriptors := ds.map Prod.fst })
  ∧ (∀ payload : List Byte,
    payload.length < 5 ∨ 8 < (unitByte payload 4).toNat
      ∨ payload.length ≠ 5 + 3 * (unitByte payload 4).toNat
      ∨ (∃ j k, j < k ∧ k < (unitByte payload 4).toNat
        ∧ unitByte payload (5 + 3 * j) = unitByte payload (5 + 3 * k))
      ∨ (∃ j, j < (unitByte payload 4).toNat ∧ (16 ≤ (unitByte payload (5 + 3 * j)).toNat
        ∨ 4 ≤ (unitByte payload (6 + 3 * j)).toNat
        ∨ 32 < (unitByte payload (7 + 3 * j)).toNat % 64)) →
    identityOf payload = none)
  ∧
  (∀ (l : Link) (cls revision : Byte),
    ((∀ i : Fin 4, l.classes[i].valid = false) → l.admissionCap cls revision = some l.defaultLoad)
    ∧ (∀ i : Fin 4, l.classes[i].valid = true → l.classes[i].cls = cls →
      l.classes[i].minRevision.toNat ≤ revision.toNat →
      (∀ j : Fin 4, j < i → l.classes[j].valid = false ∨ l.classes[j].cls ≠ cls
        ∨ revision.toNat < l.classes[j].minRevision.toNat) →
      l.admissionCap cls revision = some l.classes[i].loadCap)
    ∧ (∀ i : Fin 4, l.classes[i].valid = true →
      (∀ j : Fin 4, l.classes[j].valid = false ∨ l.classes[j].cls ≠ cls
        ∨ revision.toNat < l.classes[j].minRevision.toNat) →
      l.admissionCap cls revision = none))
  ∧ ∀ s : State,
    (s.link.state = .attached →
      liveFrame s = s.setLink { s.link with alive := some s.link.timing.aliveWindow })
    ∧ (s.link.state = .suspect →
      liveFrame s = s.setLink
        { s.link.at .attached none none (some s.link.timing.aliveWindow) with
          counters := { s.link.counters with recoveries := satInc s.link.counters.recoveries } })
    ∧ (s.link.state ≠ .attached → s.link.state ≠ .suspect → liveFrame s = s)

/-- An IDENT or ALIVE at the B-port, in every link state: it is live, counted, and handed to the Link Monitor,
which admits the base under the first matching class, rejects it, ignores it, or tears the old base down first. -/
def Obligations.IdentityFramesAtTheBPort : Prop :=
  ∀ (b0 b1 : Byte) (rest : List Byte) (f : Frame) (s : State),
    frameCheckPasses (b0 :: b1 :: rest) = true → headerCheck .b (b0 :: b1 :: rest) = some f →
    let u := liveFrame (stagedAtB (b0 :: b1 :: rest) s)
    let t : State := u.setBport { u.bport with counters :=
      { u.bport.counters with identAlive := satInc u.bport.counters.identAlive } }
    let gone : State := { t with
      link := { t.link with
        alive := none, record := {}, lastTeardown := .reident
        counters := { t.link.counters with teardowns := satInc t.link.counters.teardowns } }
      deliveries := t.deliveries ++
        [.toggleAndHaltReset, .transmitterTeardown, .inputGateTeardown, .postureTeardown, .railTeardown,
         .event .detach, .wakeSource .detach] }
    let admitted (i : Identity) (cap : Nat) (v : State) : State := { v with
      link := { v.link.at .attached none none (some s.link.timing.aliveWindow) with
        record := { valid := true, cls := i.cls, revision := i.revision, layout := i.layout
                    requestedLoad := i.requestedLoad, loadCap := cap, attachTime := s.time
                    descriptors := i.descriptors }
        counters := { v.link.counters with admissions := satInc v.link.counters.admissions } }
      bport := { v.bport with
        pendingIdent := if s.link.state = .identify then false else v.bport.pendingIdent }
      deliveries := v.deliveries ++
        [.toggleAndHaltReset, .postureAdmission, .admissionGrant, .event .attach, .wakeSource .attach] }
    let rejected (r : RejectReason) (v : State) : State := { v with
      link := { v.link.at .rejected none none none with
        lastReject := r
        counters := { v.link.counters with rejections := satInc v.link.counters.rejections } }
      bport := { v.bport with
        pendingIdent := if s.link.state = .identify then false else v.bport.pendingIdent }
      deliveries := v.deliveries ++ [.event .reject] }
    let known := s.link.state = .attached ∨ s.link.state = .suspect
    let answer : State → Prop := fun v =>
      exec (.bPortUnitCompleted b0 b1 rest) s = .next (lookAfter s v)
    (f.kind = .alive → answer t)
    ∧ (f.kind = .ident →
      (∀ i, identityOf f.payload = some i →
        (s.link.state = .detached ∨ s.link.state = .contact → answer (t.setLink { t.link with
          counters := { t.link.counters with ignoredIdents := satInc t.link.counters.ignoredIdents } }))
        ∧ (∀ cap, s.link.admissionCap i.cls i.revision = some cap →
          (s.link.state = .identify ∨ s.link.state = .rejected → answer (admitted i cap t))
          ∧ (known → answer (admitted i cap gone)))
        ∧ (s.link.admissionCap i.cls i.revision = none →
          (s.link.state = .identify ∨ s.link.state = .rejected → answer (rejected .cls t))
          ∧ (known → answer (rejected .cls gone))))
      ∧ (identityOf f.payload = none →
        (¬ known → answer (rejected .shape t)) ∧ (known → answer (rejected .shape gone))))

/-! ### Reception -/

/-- A B-port unit that fails a check, or whose frame meets no attached base, no descriptor of its channel or
another kind than declared, is counted and logged and changes nothing else but its staging, its count and, past
the header check, the liveness of the link. An error fills a clear log with its reason, port, header fields and
the Time Count and delivers LOG; with the log filled it adds one to the overflow count, which stops at 255. -/
def Obligations.BPortRejectionsAndTheLog : Prop :=
  (∀ (reason : LogReason) (port : Port) (unit : List Byte) (s : State),
    (s.classifier.log.valid = false →
      reportError reason port unit s = { s with
        classifier := { s.classifier with log :=
          { valid := true, reason := reason, port := port
            kind := BitVec.ofNat 4 ((unitByte unit 0).toNat / 16)
            channel := BitVec.ofNat 4 ((unitByte unit 0).toNat % 16)
            dest := BitVec.ofNat 3 ((unitByte unit 1).toNat / 32)
            length := unitByte unit 2, time := s.time, overflow := s.classifier.log.overflow } }
        deliveries := s.deliveries ++ [.event .log] })
    ∧ (s.classifier.log.valid = true →
      reportError reason port unit s = s.setClassifier { s.classifier with log :=
        { s.classifier.log with overflow := min (s.classifier.log.overflow + 1) 255 } }))
  ∧
  ∀ (b0 b1 : Byte) (rest : List Byte) (s : State),
    let unit := b0 :: b1 :: rest
    let t := stagedAtB unit s
    let k := t.bport.counters
    let logged (r : LogReason) (c : BCounters) (v : State) : Prop :=
      exec (.bPortUnitCompleted b0 b1 rest) s
        = .next (lookAfter s (reportError r .b unit (v.setBport { v.bport with counters := c })))
    (frameCheckPasses unit = false → logged .crc { k with checkFailures := satInc k.checkFailures } t)
    ∧ (frameCheckPasses unit = true → headerCheck .b unit = none →
      logged .header { k with headerErrors := satInc k.headerErrors } t)
    ∧ ∀ f, frameCheckPasses unit = true → headerCheck .b unit = some f → f.kind ≠ .ident →
      f.kind ≠ .alive →
      (s.link.state ≠ .attached → s.link.state ≠ .suspect →
        logged .notAttached { k with notAttached := satInc k.notAttached } t)
      ∧ (s.link.state = .attached ∨ s.link.state = .suspect →
        (s.link.descriptor f.channel = none →
          logged .undeclared { k with undeclared := satInc k.undeclared } (liveFrame t))
        ∧ ∀ d, s.link.descriptor f.channel = some d → f.kind ≠ d.kind.kind →
          logged .kindMismatch { k with kindMismatch := satInc k.kindMismatch } (liveFrame t))

/-- A symbol that becomes owed joins the tail of the list where its channel has none there, replaces its channel's
unsent symbol in its place, and replaces a started one in the list without cutting it short (the model's reading,
assumption 5). A declared frame on a halted channel, a duplicate on a handshaked channel and an overlong frame are
discarded with HALT, ACK and NAK on a handshaked channel and no symbol on a streaming one. -/
def Obligations.BPortChannelChecks : Prop :=
  (∀ (y : SymbolType) (c : Chan) (s : State),
    let fresh : OwedSymbol := { type := y, channel := c, started := false }
    let owing (l : List OwedSymbol) : State := s.setBport { s.bport with owed := l }
    ((∀ o ∈ s.bport.owed, o.channel ≠ c) → oweSymbol y c s = owing (s.bport.owed ++ [fresh]))
    ∧ ∀ before after o, s.bport.owed = before ++ o :: after → o.channel = c →
      (∀ x ∈ before ++ after, x.channel ≠ c) →
      (o.started = false → oweSymbol y c s = owing (before ++ fresh :: after))
      ∧ (o.started = true → oweSymbol y c s = owing (before ++ fresh :: after)
        ∧ (oweSymbol y c s).bport.sending = s.bport.sending))
  ∧
  ∀ (b0 b1 : Byte) (rest : List Byte) (f : Frame) (d : Descriptor) (s : State),
    frameCheckPasses (b0 :: b1 :: rest) = true → headerCheck .b (b0 :: b1 :: rest) = some f →
    s.link.state = .attached ∨ s.link.state = .suspect →
    s.link.descriptor f.channel = some d → f.kind = d.kind.kind →
    let t := liveFrame (stagedAtB (b0 :: b1 :: rest) s)
    let k := t.bport.counters
    let counted (c : BCounters) : State := t.setBport { t.bport with counters := c }
    let owing (y : SymbolType) (v : State) : State := if d.handshaked then oweSymbol y f.channel v else v
    let answer (v : State) : Prop := exec (.bPortUnitCompleted b0 b1 rest) s = .next (lookAfter s v)
    (s.bport.halts[f.channel] = true → answer (owing .halt (counted { k with halted := satInc k.halted })))
    ∧ (s.bport.halts[f.channel] = false → d.handshaked = true → f.toggle ≠ s.bport.toggles[f.channel] →
      answer (owing .ack (counted { k with duplicates := satInc k.duplicates })))
    ∧ (s.bport.halts[f.channel] = false → d.handshaked = false ∨ f.toggle = s.bport.toggles[f.channel] →
      d.maxLength < f.payload.length →
      answer (reportError .overlength .b (b0 :: b1 :: rest)
        (owing .nak (counted { k with overlength := satInc k.overlength }))))

/-- A declared frame that passes the channel checks is classified: accepted, a handshaked channel gets an ACK and
its expected toggle is inverted; refused, it is counted and gets a NAK, and the toggle stands. -/
def Obligations.BPortAcceptanceAndRefusal : Prop :=
  ∀ (b0 b1 : Byte) (rest : List Byte) (f : Frame) (d : Descriptor) (s : State),
    frameCheckPasses (b0 :: b1 :: rest) = true → headerCheck .b (b0 :: b1 :: rest) = some f →
    s.link.state = .attached ∨ s.link.state = .suspect →
    s.link.descriptor f.channel = some d → f.kind = d.kind.kind →
    s.bport.halts[f.channel] = false → d.handshaked = false ∨ f.toggle = s.bport.toggles[f.channel] →
    f.payload.length ≤ d.maxLength →
    let r := classify .b f (liveFrame (stagedAtB (b0 :: b1 :: rest) s))
    let answer (v : State) : Prop := exec (.bPortUnitCompleted b0 b1 rest) s = .next (lookAfter s v)
    let refused : State := r.2.setBport { r.2.bport with counters :=
      { r.2.bport.counters with refused := satInc r.2.bport.counters.refused } }
    (r.1 = true → d.handshaked = true →
      answer (let u := oweSymbol .ack f.channel r.2
        u.setBport { u.bport with toggles := u.bport.toggles.set f.channel (!s.bport.toggles[f.channel]) }))
    ∧ (r.1 = true → d.handshaked = false → answer r.2)
    ∧ (r.1 = false → d.handshaked = true → answer (oweSymbol .nak f.channel refused))
    ∧ (r.1 = false → d.handshaked = false → answer refused)

/-- An L-port or P-port unit: staged unless it is a symbol and counted; failing a check, counted and logged;
passing both, classified with its port, an 8-byte sample after the gap test of the L-port (a sample of another
length takes no part in it, the model's reading, assumption 36). The level of LIDSW
comes with the L-port's unit and is kept in the lines at every unit (the model's choice, assumption 8). -/
def Obligations.LidAndPenPorts : Prop :=
  ∀ (b0 : Byte) (rest : List Byte) (s : State),
    let unit := b0 :: rest
    (∀ lidsw : Bool,
      let t := stagedAtL unit (s.setLines { s.lines with lidsw := lidsw })
      let k := t.lport.counters
      let answer (v : State) : Prop := exec (.lPortUnitCompleted lidsw b0 rest) s = .next (sLook v)
      (frameCheckPasses unit = false → answer (reportError .crc .l unit
        (t.setLport { t.lport with counters := { k with checkFailures := satInc k.checkFailures } })))
      ∧ (frameCheckPasses unit = true → headerCheck .l unit = none → answer (reportError .header .l unit
        (t.setLport { t.lport with counters := { k with headerErrors := satInc k.headerErrors } })))
      ∧ ∀ f, frameCheckPasses unit = true → headerCheck .l unit = some f →
        (f.payload.length ≠ 8 → answer (classify .l f t).2)
        ∧ (f.payload.length = 8 →
          let n : Half := unitByte f.payload 1 ++ unitByte f.payload 0
          (s.lport.lastValid = true → n ≠ s.lport.lastCounter + 1 →
            answer (classify .l f (t.setLport { t.lport with
              lastCounter := n, lastValid := true, counters := { k with gaps := satInc k.gaps } })).2)
          ∧ (s.lport.lastValid = false ∨ n = s.lport.lastCounter + 1 →
            answer (classify .l f (t.setLport { t.lport with lastCounter := n, lastValid := true })).2)))
    ∧ (let t := stagedAtP unit s
      let k := t.pport.counters
      let answer (v : State) : Prop := exec (.pPortUnitCompleted b0 rest) s = .next (lookAfter s v)
      (frameCheckPasses unit = false → answer (reportError .crc .p unit
        (t.setPport { t.pport with counters := { k with checkFailures := satInc k.checkFailures } })))
      ∧ (frameCheckPasses unit = true → headerCheck .p unit = none → answer (reportError .header .p unit
        (t.setPport { t.pport with counters := { k with headerErrors := satInc k.headerErrors } })))
      ∧ ∀ f, frameCheckPasses unit = true → headerCheck .p unit = some f → answer (classify .p f t).2)

/-- An S-port unit: failing a check, counted and logged; a MGMT frame for node 0 executed as the command it
carries (a row of its own in the model, assumption 18, and counted before it runs, the model's choice, assumption
37) where Q0 has room for its response, and otherwise not
executed, logged as MGMT_OVERRUN and counted on Q0; a frame for node 2 placed on QD while a base is attached,
a placement being a look of the B-port transmitter;
anything else BAD_DEST. -/
def Obligations.HostPort : Prop :=
  ∀ (b0 : Byte) (rest : List Byte) (s : State),
    let unit := b0 :: rest
    let t := stagedAtS unit s
    let k := t.sport.counters
    let counted (c : SCounters) : State := t.setSport { t.sport with counters := c }
    let answer (v : State) : Prop := exec (.sPortUnitCompleted b0 rest) s = .next (lookAfter s v)
    let managed : State := counted { k with mgmtFrames := satInc k.mgmtFrames }
    let bad : State := reportError .badDest .s unit (counted { k with badDest := satInc k.badDest })
    (frameCheckPasses unit = false →
      answer (reportError .crc .s unit (counted { k with checkFailures := satInc k.checkFailures })))
    ∧ (frameCheckPasses unit = true → headerCheck .s unit = none →
      answer (reportError .header .s unit (counted { k with headerErrors := satInc k.headerErrors })))
    ∧ ∀ f, frameCheckPasses unit = true → headerCheck .s unit = some f →
      let known := s.link.state = .attached ∨ s.link.state = .suspect
      let placed := placeReceived .qd unit t
      (f.dest = 0 → f.kind ≠ .mgmt → answer bad)
      ∧ (f.dest ≠ 0 → f.dest ≠ 2 → answer bad)
      ∧ (f.dest = 2 → ¬ known → answer bad)
      ∧ (f.dest = 2 → known → placed.1 = true → answer (bLook (placed.2.setSport { placed.2.sport with
        counters := { k with downAccepted := satInc k.downAccepted } })))
      ∧ (f.dest = 2 → known → placed.1 = false → answer placed.2)
      ∧ (f.dest = 0 → f.kind = .mgmt → s.pool.hasRoom = true → ∀ code args c,
        f.payload = code :: args → commandOfCode f.channel args code.toNat = some c →
        exec (.sPortUnitCompleted b0 rest) s = exec c managed)
      ∧ (f.dest = 0 → f.kind = .mgmt → s.pool.hasRoom = true → f.payload = [] →
        exec (.sPortUnitCompleted b0 rest) s = .next (answered 0 .badLength [] (withPlace managed) managed))
      ∧ (f.dest = 0 → f.kind = .mgmt → s.pool.hasRoom = true → ∀ code args,
        f.payload = code :: args → commandOfCode f.channel args code.toNat = none →
        exec (.sPortUnitCompleted b0 rest) s
          = .next (answered code .badCommand [] (withPlace managed) managed))
      ∧ (f.dest = 0 → f.kind = .mgmt → s.pool.hasRoom = false →
        answer (reportError .mgmtOverrun .s unit (managed.setPool { s.pool with q0 := { s.pool.q0 with
          counters := { s.pool.q0.counters with overrun := satInc s.pool.q0.counters.overrun } } })))

/-! ### Classification -/

/-- A frame is decided by the matching valid entry of lowest index, else by the Default Route; the deciding
route and the classifier count it; and it is forwarded, tapped, consumed or dropped. A KEYS or POINT frame of a
gated entry is passed to its filter with the decision: the entry's index, its gate class and its queue. A SAMPLE
of the L-port is a lid sample, a SAMPLE of the B-port a base sample, a PEN frame of the P-port a pen frame, and
no other frame has a consumer. -/
def Obligations.ClassificationOfAFrame : Prop :=
  ∀ (port : UpPort) (f : Frame) (s : State),
    let r := s.classifier.routes
    let hit (i : Fin 24) : Prop := r[i].valid = true ∧ r[i].port = port ∧ r[i].base ≤ f.channel.val
      ∧ f.channel.val < r[i].base + r[i].span ∧ (r[i].kind = none ∨ r[i].kind = some f.kind)
    let byEntry (i : Fin 24) : State := s.setClassifier { s.classifier with
      routes := r.set i { r[i] with matchCount := satInc r[i].matchCount }
      classified := satInc s.classifier.classified }
    let byDefault : State := s.setClassifier { s.classifier with
      dflt := { s.classifier.dflt with matchCount := satInc s.classifier.dflt.matchCount }
      classified := satInc s.classifier.classified }
    let decided (i : Fin 24) : Prop := hit i ∧ ∀ j : Fin 24, j < i → ¬ hit j
    (consumerOf .l .sample = some .lidSample ∧ consumerOf .b .sample = some .baseSample
      ∧ consumerOf .p .pen = some .penFrame
      ∧ (¬ (((port = .l ∨ port = .b) ∧ f.kind = .sample) ∨ (port = .p ∧ f.kind = .pen)) →
        consumerOf port f.kind = none))
    ∧ (∀ i, decided i →
      classify port f s
        = act { entry := some i, action := r[i].action, queue := r[i].queue, gate := r[i].gate } port f (byEntry i))
    ∧ ((∀ i, ¬ hit i) →
      classify port f s
        = act { entry := none, action := s.classifier.dflt.action, queue := s.classifier.dflt.queue
                gate := none } port f byDefault)
    ∧ (∀ (e : Option (Fin 24)) (q : HostQueue) (g : Option GateClass),
      g = none ∨ (f.kind ≠ .keys ∧ f.kind ≠ .point) →
      act { entry := e, action := .forward, queue := some q, gate := g } port f s
        = placeReceived q.id f.raw s)
    ∧ (∀ (i : Fin 24) (q : HostQueue) (g : GateClass),
      let d : Decision := { entry := some i, action := .forward, queue := some q, gate := some g }
      let gated : State := s.setClassifier { s.classifier with gated := satInc s.classifier.gated }
      (f.kind = .keys → act d port f s = keyFilterFrame f { entry := i, gate := g, queue := q } gated)
      ∧ (f.kind = .point → act d port f s = padFilterFrame f { entry := i, gate := g, queue := q } gated))
    ∧ (∀ e g q, act { entry := e, action := .drop, queue := q, gate := g } port f s = (true, s))
    ∧ (∀ e g q c, consumerOf port f.kind = some c →
      act { entry := e, action := .consume, queue := q, gate := g } port f s = (true, consume c port f.payload s))
    ∧ (∀ e g q, consumerOf port f.kind = none →
      act { entry := e, action := .consume, queue := q, gate := g } port f s
        = (true, s.setClassifier { s.classifier with unconsumed := satInc s.classifier.unconsumed }))
    ∧ (∀ e g q c, consumerOf port f.kind = some c →
      act { entry := e, action := .tap, queue := some q, gate := g } port f s
        = placeReceived q.id f.raw (consume c port f.payload s))
    ∧ (∀ e g q, consumerOf port f.kind = none →
      act { entry := e, action := .tap, queue := some q, gate := g } port f s = placeReceived q.id f.raw s)

/-- What the internal consumers take: a base sample is stored valid with its freshness timer started, and a payload
of the wrong length is a shape error of its port and nothing else. A lid sample is stored and evaluated: LIDSW is
read; the screen angle is vectored and the rotation step made; with the link in ATTACHED or SUSPECT (as it stands
between the Link Monitor's teardown and the Posture Engine's too, the model's reading, assumption 32) the hinge
work is made, and posture selection on a resolved outcome; without hinge work the degenerate and stale flags are
clear and motion is the rotation's; the mode of the posture then in force is applied; and a change of posture or
orientation requests one STATE frame, a change of posture being delivered to its three receivers, each with the old
and the new posture code; the request is
a delivery to the Management Unit (taken by its row of events: the model's reading, assumption 35). -/
def Obligations.ConsumersTakeWellShapedFrames : Prop :=
  ∀ (port : UpPort) (payload : List Byte) (s : State),
    let b := unitByte payload
    let sample : SampleRecord :=
      { counter := b 1 ++ b 0, x := b 3 ++ b 2, y := b 5 ++ b 4, z := b 7 ++ b 6, time := s.time }
    let old := s.posture
    let y := old.axisLid.y.apply sample
    let screen := vectoring (-y) (old.axisLid.x.apply sample)
    let moving := decide (old.params.maxProjection < screen.2)
    let turned := { old with lid := sample, lidsw := s.lines.lidsw }.rotationStep screen.1 screen.2
    let work := turned.hingeWork moving
    let chosen : PostureEngine :=
      if s.link.state = .attached ∨ s.link.state = .suspect then
        if work.1 = .resolved then work.2.select s.time else work.2
      else { turned with degenerate := false, stale := false, motion := moving }
    let still : PostureEngine := { chosen with rotCandidate := none, rotCount := 0 }
    let new : PostureEngine :=
      match chosen.policy[chosen.posture.code].rotation, chosen.rotLock with
      | .free, false => chosen
      | .lock0, _ => { still with orientation := .rot0 }
      | _, _ => still
    let row := new.policy[new.posture.code]
    let v := s.setPosture new
    let told := if new.posture = old.posture ∧ new.orientation = old.orientation then v
      else v.setDeliveries (v.deliveries ++ [.stateRequest])
    (payload.length = 8 →
      consume .lidSample port payload s = (if new.posture = old.posture then told
        else told.setDeliveries (told.deliveries ++ [.gateUpdate (.change old.posture new.posture) row.gateMask,
          .capChange (.posture (.change old.posture new.posture)),
          .powerPostureChange old.posture new.posture row]))
      ∧ consume .baseSample port payload s = s.setPosture { s.posture with
        base := sample, baseValid := true, baseStale := false
        baseFresh := some s.posture.params.baseFreshness })
    ∧ (payload.length ≠ 8 → ∀ c, c = .lidSample ∨ c = .baseSample →
      (consume c .l payload s = s.setLport { s.lport with counters :=
        { s.lport.counters with shapeErrors := satInc s.lport.counters.shapeErrors } })
      ∧ consume c .b payload s = s.setBport { s.bport with counters :=
        { s.bport.counters with shapeErrors := satInc s.bport.counters.shapeErrors } })
    ∧ (payload.length ≠ 5 →
      consume .penFrame .p payload s = s.setPport { s.pport with counters :=
        { s.pport.counters with shapeErrors := satInc s.pport.counters.shapeErrors } })

/-! ### Posture -/

/-- The hinge work is held, and H, its flag and the base face stand, while the base sample is stale, a tilt is
degenerate or a tilt is in motion; otherwise the base face is classified and the raw hinge angle resolved by the
wrap band and the side of the half turn on which H lay. The tilts are the vectorings of (Z, Y) of the two samples,
their magnitudes compared as they are, above 65535 too (the model's choice, assumption 31); the base face is UP
within the Base Face band of 0, DOWN within it of 2048, and EDGE elsewhere. -/
def Obligations.HingeWorkHoldsOrResolves : Prop :=
  (∀ band tilt : Nat, 128 ≤ band → band ≤ 1023 → tilt ≤ 4095 →
    (faceOf band tilt = .up ↔ tilt ≤ band ∨ 4096 - band ≤ tilt)
    ∧ (faceOf band tilt = .down ↔ 2048 - band ≤ tilt ∧ tilt ≤ 2048 + band)
    ∧ (faceOf band tilt = .edge ↔
      (band < tilt ∧ tilt < 2048 - band) ∨ (2048 + band < tilt ∧ tilt < 4096 - band)))
  ∧
  ∀ (p : PostureEngine) (turning : Bool),
    let lid := vectoring (p.axisLid.z.apply p.lid) (p.axisLid.y.apply p.lid)
    let base := vectoring (p.axisBase.z.apply p.base) (p.axisBase.y.apply p.base)
    let ml := lid.2
    let mb := base.2
    let stale := p.baseValid = false ∨ p.baseStale = true
    let degenerate := ml < p.params.minProjection ∨ (¬ stale ∧ mb < p.params.minProjection)
    let moving := p.params.maxProjection < ml ∨ (¬ stale ∧ p.params.maxProjection < mb)
    let w := p.params.wrapBand
    let raw := (((base.1 : Int) - lid.1 + p.params.hingeOffset) % 4096).toNat
    let h := p.hingeWork turning
    let flags : Prop := (h.2.stale = true ↔ stale) ∧ (h.2.degenerate = true ↔ degenerate)
      ∧ (h.2.motion = true ↔ moving ∨ turning = true)
    flags
    ∧ (stale ∨ degenerate ∨ moving →
      h.1 = .held ∧ h.2 = { p with
        stale := h.2.stale, degenerate := h.2.degenerate, motion := h.2.motion })
    ∧ (¬ stale → ¬ degenerate → ¬ moving →
      let q : PostureEngine := { p with
        stale := false, degenerate := false, motion := turning
        face := faceOf p.params.baseFaceBand base.1 }
      (p.hingeValid = false →
        (w ≤ raw ∧ raw < 4096 - w → h = (.resolved, { q with hinge := raw, hingeValid := true }))
        ∧ (raw < w ∨ 4096 - w ≤ raw → h = (.unresolved, q)))
      ∧ (p.hingeValid = true →
        (p.hinge < 2048 → 4096 - w ≤ raw → h = (.resolved, { q with hinge := 0 }))
        ∧ (p.hinge < 2048 → raw < 4096 - w → h = (.resolved, { q with hinge := raw }))
        ∧ (2048 ≤ p.hinge → raw < w → h = (.resolved, { q with hinge := 4095 }))
        ∧ (2048 ≤ p.hinge → w ≤ raw → h = (.resolved, { q with hinge := raw }))))

/-- Posture selection at a resolved evaluation: the current entry, widened by its hysteresis, keeps the posture;
otherwise the first matching entry is switched to silently or counted toward, and no match counts toward
UNKNOWN; the posture changes when the count reaches the dwell. -/
def Obligations.PostureSelection : Prop :=
  ∀ (p : PostureEngine) (time : Half),
    let fits (e : PostureEntry) (low high : Nat) : Prop :=
      e.valid = true ∧ low ≤ p.hinge ∧ p.hinge ≤ high ∧ e.faces.getLsbD p.face.code = true
        ∧ (e.lid = .any ∨ (e.lid = .asserted ∧ p.lidsw = true) ∨ (e.lid = .released ∧ p.lidsw = false))
    let held (i : Fin 8) : Prop := p.entry = some i ∧ p.table[i].posture = p.posture
      ∧ fits p.table[i] (p.table[i].low - p.table[i].hysteresis)
          (min 4095 (p.table[i].high + p.table[i].hysteresis))
    let matched (i : Fin 8) : Prop := fits p.table[i] p.table[i].low p.table[i].high
    let first (i : Fin 8) : Prop := matched i ∧ ∀ j : Fin 8, j < i → ¬ matched j
    let cleared : PostureEngine := { p with candidate := .none, candidateCount := 0 }
    let changed (x : Posture) (e : Option (Fin 8)) : PostureEngine := { cleared with
      posture := x, entry := e, changeCount := p.changeCount + 1, changeTime := time }
    let counts (c : Candidate) : Nat := if p.candidate = c then p.candidateCount + 1 else 1
    ((∃ i, held i) → p.select time = cleared)
    ∧ ((∀ i, ¬ held i) →
      (∀ i, first i → p.table[i].posture = p.posture → p.select time = { cleared with entry := some i })
      ∧ (∀ i, first i → p.table[i].posture ≠ p.posture →
        (p.table[i].dwell ≤ counts (.entry i) → p.select time = changed p.table[i].posture (some i))
        ∧ (counts (.entry i) < p.table[i].dwell → p.select time
          = { p with candidate := .entry i, candidateCount := counts (.entry i) }))
      ∧ ((∀ i, ¬ matched i) →
        (p.posture = .unknown → p.select time = cleared)
        ∧ (p.posture ≠ .unknown →
          (p.params.unmatchedDwell ≤ counts .unmatched → p.select time = changed .unknown none)
          ∧ (counts .unmatched < p.params.unmatchedDwell → p.select time
            = { p with candidate := .unmatched, candidateCount := counts .unmatched }))))

/-- The rotation step: flat or in motion, or under a mode other than FREE, the orientation does not follow the
screen angle; under FREE it is kept within its sector widened by the hysteresis and otherwise turns when the
Rotation Dwell is counted; LOCK0 sets ROT0. The distance from a sector is the circular distance to the nearer of
its two bounds. -/
def Obligations.RotationFollowsTheScreen : Prop :=
  ∀ (p : PostureEngine) (angle magnitude : Nat), angle ≤ 4095 →
    let flat := decide (magnitude < p.params.flatThreshold)
    let q : PostureEngine := { p with flat := flat }
    let cleared : PostureEngine := { q with rotCandidate := none, rotCount := 0 }
    let mode := if p.policy[p.posture.code].rotation = .free ∧ p.rotLock = true then RotationMode.hold
      else p.policy[p.posture.code].rotation
    let o := sectorOf angle
    let n := if p.rotCandidate = some o then p.rotCount + 1 else 1
    let r := p.rotationStep angle magnitude
    (mode = .lock0 → r = { cleared with orientation := .rot0 })
    ∧ (mode = .hold → r = cleared)
    ∧ (mode = .free → flat = true ∨ p.params.maxProjection < magnitude → r = q)
    ∧ (mode = .free → flat = false → magnitude ≤ p.params.maxProjection →
      (o = p.orientation ∨ sectorDistance angle p.orientation ≤ p.params.rotHysteresis → r = cleared)
      ∧ (o ≠ p.orientation → p.params.rotHysteresis < sectorDistance angle p.orientation →
        (p.params.rotDwell ≤ n → r = { cleared with orientation := o })
        ∧ (n < p.params.rotDwell → r = { q with rotCandidate := some o, rotCount := n })))
    ∧ (∀ a : Nat, a ≤ 4095 →
      (sectorOf a = .rot0 ↔ a ≤ 511 ∨ 3584 ≤ a) ∧ (sectorOf a = .rot90 ↔ 512 ≤ a ∧ a ≤ 1535)
      ∧ (sectorOf a = .rot180 ↔ 1536 ≤ a ∧ a ≤ 2559) ∧ (sectorOf a = .rot270 ↔ 2560 ≤ a ∧ a ≤ 3583)
      ∧ (let apart (b : Nat) : Nat := min ((a + (4096 - b)) % 4096) ((b + (4096 - a)) % 4096);
        sectorDistance a .rot0 = min (apart 3584) (apart 511)
        ∧ sectorDistance a .rot90 = min (apart 512) (apart 1535)
        ∧ sectorDistance a .rot180 = min (apart 1536) (apart 2559)
        ∧ sectorDistance a .rot270 = min (apart 2560) (apart 3583)))

/-- The Posture Engine at an admission clears the Hinge Record and sets UNKNOWN, at a teardown sets DETACHED;
a change is recorded, requests a STATE frame (a delivery: the model's reading, assumption 35) and is delivered to
its three receivers, and the new posture's rotation mode takes effect (the model's reading, assumption 11). -/
def Obligations.PostureAtAdmissionAndTeardown : Prop :=
  ∀ (before after : List Delivery) (s : State),
    let u := s.setDeliveries (before ++ after)
    let p := s.posture
    let turned (q : PostureEngine) : PostureEngine :=
      match q.policy[q.posture.code].rotation, q.rotLock with
      | .free, false => q
      | .lock0, _ => { q with rotCandidate := none, rotCount := 0, orientation := .rot0 }
      | _, _ => { q with rotCandidate := none, rotCount := 0 }
    let set (q : PostureEngine) (x : Posture) : PostureEngine := turned { q with
      posture := x, entry := none, candidate := .none, candidateCount := 0
      changeCount := p.changeCount + 1, changeTime := s.time }
    let told (x : Posture) (v : State) : State := v.setDeliveries (v.deliveries ++
      [.stateRequest, .gateUpdate (.change p.posture x) p.policy[x.code].gateMask,
       .capChange (.posture (.change p.posture x)), .powerPostureChange p.posture x p.policy[x.code]])
    let unhinged : PostureEngine := { p with hinge := 0, hingeValid := false }
    (Front .postureAdmission before after s →
      (p.posture ≠ .unknown → exec .postureAdmission s
        = .next (sLook (told .unknown (u.setPosture (set unhinged .unknown)))))
      ∧ (p.posture = .unknown → exec .postureAdmission s = .next (sLook (u.setPosture
        { unhinged with entry := none, candidate := .none, candidateCount := 0 }))))
    ∧ (Front .postureTeardown before after s →
      (p.posture ≠ .detached → exec .postureTeardown s
        = .next (sLook (told .detached (u.setPosture (set p .detached)))))
      ∧ (p.posture = .detached → exec .postureTeardown s = .next (sLook (u.setPosture
        { p with entry := none, candidate := .none, candidateCount := 0 }))))

/-! ### The Input Gate -/

/-- A KEYS frame at the Key Filter: foreign on another channel than the bound one; with the gate closed it masks
every held key and is accepted; with the gate open the unmasked held keys are forwarded if they differ from the
last ones forwarded, and a refused placement leaves the last ones as they were. -/
def Obligations.KeyReports : Prop :=
  ∀ (f : Frame) (d : GatedDecision) (s t : State),
    let k := s.gate.key
    let codes := f.payload.filter (fun c => c ≠ 0)
    let distinct := firstPlaces codes
    let cleaned := distinct.take 14
    let held := t.gate.key.held.filter (fun c => c ∈ cleaned)
      ++ cleaned.filter (fun c => c ∉ t.gate.key.held)
    let masked := t.gate.key.masked.filter (fun c => c ∈ held)
    let counted : KeyCounters := { t.gate.key.counters with
      fixups := if distinct.length = codes.length then t.gate.key.counters.fixups
        else satInc t.gate.key.counters.fixups
      overflow := if distinct.length ≤ 14 then t.gate.key.counters.overflow
        else satInc t.gate.key.counters.overflow }
    let shown := held.filter (fun c => c ∉ masked)
    let taken : KeyFilter := { t.gate.key with held := held, masked := masked, counters := counted }
    let last := t.gate.key.lastForwarded
    let r := placeReceived d.queue.id (buildFrame f.kind f.channel f.dest f.toggle shown) (setKey taken t)
    ((∃ b, k.bound = some b ∧ b ≠ f.channel) →
      keyFilterFrame f d s
        = (true, setKey { k with counters := { k.counters with foreign := satInc k.counters.foreign } } s))
    ∧ (keyBind f.channel d.gate d.queue s = some t →
      (t.gate.key.gateOpen = false → keyFilterFrame f d s = (true, setKey { taken with
        masked := held
        counters := { counted with suppressed := satInc counted.suppressed } } t))
      ∧ (t.gate.key.gateOpen = true → shown = last → keyFilterFrame f d s
        = (true, setKey { taken with
          counters := { counted with unchanged := satInc counted.unchanged } } t))
      ∧ (t.gate.key.gateOpen = true → shown ≠ last → r.1 = true → keyFilterFrame f d s
        = (true, let v := setKey { taken with
            lastForwarded := shown, pending := none
            counters := { counted with forwarded := satInc counted.forwarded } } r.2
          v.setDeliveries (v.deliveries ++ (if shown = [] then [] else [.activity .key])
            ++ (if ∃ c ∈ shown, c ∉ last then [.wakeSource .key] else []))))
      ∧ (t.gate.key.gateOpen = true → shown ≠ last → r.1 = false → keyFilterFrame f d s
        = (false, setKey { taken with
          counters := { counted with refused := satInc counted.refused } } r.2)))

/-- The binding of the Key Filter, and its transitions: a closing masks every held key and makes a synthetic
release if the host was told of keys; an opening masks every held key and makes no frame; a release that finds
no place is left pending. -/
def Obligations.KeyBindingAndTransitions : Prop :=
  ∀ (c : Chan) (cls : GateClass) (q : HostQueue) (s : State),
    let k := s.gate.key
    (k.bound = none → keyBind c cls q s = some (setKey { k with
      bound := some c, cls := cls, queue := q, gateOpen := s.gate.gates.getLsbD cls.val } s))
    ∧ (k.bound = some c → cls = k.cls → keyBind c cls q s = some (setKey { k with queue := q } s))
    ∧ (k.bound = some c → cls ≠ k.cls →
      let v := setKey { k with queue := q, cls := cls } s
      (s.gate.gates.getLsbD cls.val = k.gateOpen → keyBind c cls q s = some v)
      ∧ (s.gate.gates.getLsbD cls.val = true → k.gateOpen = false → keyBind c cls q s = some (keyOpen v))
      ∧ (s.gate.gates.getLsbD cls.val = false → k.gateOpen = true → keyBind c cls q s = some (keyClose v)))
    ∧ keyOpen s = setKey { k with gateOpen := true, masked := k.held } s
    ∧ (k.bound = none ∨ k.lastForwarded = [] →
      keyClose s = setKey { k with gateOpen := false, masked := k.held } s)
    ∧ (∀ b, k.bound = some b → k.lastForwarded ≠ [] →
      let closed : KeyFilter := { k with gateOpen := false, masked := k.held, lastForwarded := [] }
      let r := placeSynthetic k.queue (buildFrame .keys b 1 false []) s
      (r.1 = true → keyClose s = setKey { closed with
        pending := none
        counters := { k.counters with releases := satInc k.counters.releases } } r.2)
      ∧ (r.1 = false → keyClose s = setKey { closed with
        pending := some { channel := b, queue := k.queue }
        counters := { k.counters with releaseFailures := satInc k.counters.releaseFailures } } s))

/-- A POINT frame at the Pad Filter follows its class, and is suppressed with the gate closed, dropped while a
lift is awaited, or forwarded unchanged; a closing of the pad gate makes a synthetic lift if the host was told of
contacts, an opening awaits a lift. -/
def Obligations.PadReportsAndTransitions : Prop :=
  ∀ (f : Frame) (d : GatedDecision) (s : State),
    let cls := d.gate
    let q := d.queue
    let t := padFollow f.channel cls q s
    let p := t.gate.pad
    let touches := 1 ≤ (unitByte f.payload 0).toNat
    let r := placeReceived q.id f.raw t
    (p.gateOpen = false → padFilterFrame f d s = (true, setPad { p with counters :=
      { p.counters with suppressed := satInc p.counters.suppressed } } t))
    ∧ (p.gateOpen = true → p.awaitLift = true → touches →
      padFilterFrame f d s = (true, setPad { p with counters :=
        { p.counters with awaitLiftDrops := satInc p.counters.awaitLiftDrops } } t))
    ∧ (p.gateOpen = true → p.awaitLift = false ∨ ¬ touches → r.1 = true →
      padFilterFrame f d s = (true, let v := setPad { p with
          hadContacts := decide touches, awaitLift := false, pending := none
          counters := { p.counters with forwarded := satInc p.counters.forwarded } } r.2
        v.setDeliveries (v.deliveries ++ if touches then [.activity .pad, .wakeSource .point] else [])))
    ∧ (p.gateOpen = true → p.awaitLift = false ∨ ¬ touches → r.1 = false →
      padFilterFrame f d s = (false, setPad { p with counters :=
        { p.counters with refused := satInc p.counters.refused } } r.2))
    ∧ (let v := setPad { s.gate.pad with channel := f.channel, queue := q, cls := cls } s
      let isOpen := s.gate.gates.getLsbD cls.val
      (cls = s.gate.pad.cls ∨ isOpen = s.gate.pad.gateOpen → t = v)
      ∧ (cls ≠ s.gate.pad.cls → isOpen = true → s.gate.pad.gateOpen = false →
        t = setPad { v.gate.pad with gateOpen := true, awaitLift := true } v)
      ∧ (cls ≠ s.gate.pad.cls → isOpen = false → s.gate.pad.gateOpen = true → t = padClose v))
    ∧ (s.gate.pad.hadContacts = false → padClose s = setPad { s.gate.pad with gateOpen := false } s)
    ∧ (s.gate.pad.hadContacts = true →
      let a := s.gate.pad
      let closed : PadFilter := { a with gateOpen := false, hadContacts := false }
      let l := placeSynthetic a.queue (buildFrame .point a.channel 1 false [0]) s
      (l.1 = true → padClose s = setPad { closed with
        pending := none, counters := { a.counters with lifts := satInc a.counters.lifts } } l.2)
      ∧ (l.1 = false → padClose s = setPad { closed with
        pending := some { channel := a.channel, queue := a.queue }
        counters := { a.counters with liftFailures := satInc a.counters.liftFailures } } s))

/-- A gate update: every class takes its new setting, and each filter whose class changed runs one transition, in
the order the command names (the model's choice, assumption 7); the mask is the one the delivery carries (the
model's reading, assumption 9), and an unbound Key Filter follows class 0 (from a teardown on, with the gate it
kept, the model's reading, assumption 23). A teardown at the Input Gate releases what the host was told of,
empties the key sets and unbinds the Key Filter, and clears the Pad Filter's two flags. -/
def Obligations.GateUpdatesAndTeardown : Prop :=
  ∀ (before after : List Delivery) (padFirst : Bool) (s : State),
    let u := s.setDeliveries (before ++ after)
    (∀ (event : PostureEvent) (mask : BitVec 8), Front (.gateUpdate event mask) before after s →
      let v : State := u.setGate { s.gate with gates := mask }
      let cls : GateClass := if s.gate.key.bound = none then 0 else s.gate.key.cls
      let keyTurn (w : State) : State :=
        if s.gate.gates.getLsbD cls.val = mask.getLsbD cls.val then w
        else if w.gate.key.gateOpen = mask.getLsbD cls.val then w
        else if mask.getLsbD cls.val = true then keyOpen w else keyClose w
      let padTurn (w : State) : State :=
        if s.gate.gates.getLsbD s.gate.pad.cls.val = mask.getLsbD s.gate.pad.cls.val then w
        else if w.gate.pad.gateOpen = mask.getLsbD s.gate.pad.cls.val then w
        else if mask.getLsbD s.gate.pad.cls.val = true then
          setPad { w.gate.pad with gateOpen := true, awaitLift := true } w
        else padClose w
      exec (.gateUpdate padFirst) s
        = .next (sLook (if padFirst then keyTurn (padTurn v) else padTurn (keyTurn v))))
    ∧ (Front .inputGateTeardown before after s →
      let keyGone (w : State) : State :=
        let x := match w.gate.key.bound with
          | none => w
          | some b => if w.gate.key.lastForwarded = [] then w else makeRelease b w.gate.key.queue w
        setKey { x.gate.key with lastForwarded := [], held := [], masked := [], bound := none } x
      let padGone (w : State) : State :=
        let x := liftIfContacts w
        setPad { x.gate.pad with hadContacts := false, awaitLift := false } x
      exec (.inputGateTeardown padFirst) s
        = .next (sLook (if padFirst then keyGone (padGone u) else padGone (keyGone u))))

/-- The retries of a pending release, a pending lift and a pending IDENT_REQ or GRANT: placed, the pending item is
cleared and counted; failed, nothing is counted; an occasion that does not concern it does nothing. -/
def Obligations.RetriesOfWaitingItems : Prop :=
  ∀ (before after : List Delivery) (o : RetryOccasion) (s : State),
    let u := s.setDeliveries (before ++ after)
    (Front .itemRetry before after s → exec .pendingItemRetry s = .next (bLook u))
    ∧ (Front (.releaseRetry o) before after s →
      (o.concerns s.gate.key.pending = false → exec .releaseRetry s = .next (sLook u))
      ∧ ∀ w, s.gate.key.pending = some w → o = .bufferAvailable ∨ o = .dequeue w.queue →
        let r := placeSynthetic w.queue (buildFrame .keys w.channel 1 false []) u
        (r.1 = true → exec .releaseRetry s = .next (sLook (setKey { s.gate.key with
          pending := none
          counters := { s.gate.key.counters with releases := satInc s.gate.key.counters.releases } } r.2)))
        ∧ (r.1 = false → exec .releaseRetry s = .next (sLook u)))
    ∧ (Front (.liftRetry o) before after s →
      (o.concerns s.gate.pad.pending = false → exec .liftRetry s = .next (sLook u))
      ∧ ∀ w, s.gate.pad.pending = some w → o = .bufferAvailable ∨ o = .dequeue w.queue →
        let r := placeSynthetic w.queue (buildFrame .point w.channel 1 false [0]) u
        (r.1 = true → exec .liftRetry s = .next (sLook (setPad { s.gate.pad with
          pending := none
          counters := { s.gate.pad.counters with lifts := satInc s.gate.pad.counters.lifts } } r.2)))
        ∧ (r.1 = false → exec .liftRetry s = .next (sLook u)))

/-! ### Rail and charge -/

/-- At an admission or teardown the B-port receiver clears every expected toggle and halt flag; at a teardown the
B-port transmitter stops its work, releases the buffer of the frame it was sending and then of the frame awaiting
its handshake, counts the downstream ones abandoned, and flushes QD. -/
def Obligations.BPortAtAdmissionAndTeardown : Prop :=
  ∀ (before after : List Delivery) (s : State),
    let u := s.setDeliveries (before ++ after)
    (Front .toggleAndHaltReset before after s →
      exec .toggleAndHaltReset s = .next (u.setBport { s.bport with
        toggles := Vector.replicate 16 false, halts := Vector.replicate 16 false }))
    ∧ (Front .transmitterTeardown before after s →
      let stopped : State := u.setBport { s.bport with
        owed := [], pendingGrant := none, sending := .idle, awaiting := none, handshakeWait := none }
      let abandoned (i : BufIdx) (v : State) : State := freed i (v.setBport { v.bport with counters :=
        { v.bport.counters with downAbandoned := satInc v.bport.counters.downAbandoned } })
      let first := match s.bport.sending with
        | .idle | .symbol _ _ => stopped
        | .partOriginated i => freed i stopped
        | .downstream i => abandoned i stopped
      let second := match s.bport.awaiting with
        | none => first
        | some i => abandoned i first
      let flushed : State := { second with
        pool := { second.pool with
          free := second.pool.free ++ s.pool.qd.items
          qd := { s.pool.qd with
            items := []
            counters := { s.pool.qd.counters with
              flushed := satAdd s.pool.qd.counters.flushed s.pool.qd.items.length } } }
        deliveries := second.deliveries ++
          if s.pool.qd.items = [] then [] else availableDeliveries second }
      exec .transmitterTeardown s = .next (bLook flushed))

/-- An admission computes the grant as the smallest of the requested load, the load cap and Te, and puts it in
force with a GRANT or defers it, with GRANT_LIMITED when it is below the requested load; a teardown releases the
grants and completes a pending lowering; the budget cap is recomputed and delivered when it moves. -/
def Obligations.RailAtAdmissionAndTeardown : Prop :=
  ∀ (before after : List Delivery) (s : State),
    let u := s.setDeliveries (before ++ after)
    let g := min s.link.record.requestedLoad (min s.link.record.loadCap s.rail.effective)
    let limited : Bool := decide (g < s.link.record.requestedLoad)
    let recapped (r : Rail) (v : State) : State :=
      let cap := capFor s.charge ((r.total : Int) - r.grant - r.pendingGrant)
      { v with
        rail := { r with cap := cap }
        deliveries := v.deliveries ++ if cap = s.rail.cap then [] else [.capChange .rail] }
    let noted (k : RailCounters) : RailCounters :=
      if limited then { k with limitedGrants := satInc k.limitedGrants } else k
    let noteds : State := u.setDeliveries (u.deliveries ++ if limited then [.event .grantLimited] else [])
    (Front .admissionGrant before after s →
      (s.rail.penAlloc + g ≤ s.rail.effective →
        exec .admissionGrant s = .next (bLook (recapped { s.rail with
            grant := g
            counters := noted { s.rail.counters with grants := satInc s.rail.counters.grants } }
          (noteds.setBport { s.bport with pendingGrant := some g }))))
      ∧ (s.rail.effective < s.rail.penAlloc + g →
        exec .admissionGrant s = .next (recapped { s.rail with
            pendingGrant := g, grantPending := true
            counters := noted
              { s.rail.counters with deferredGrants := satInc s.rail.counters.deferredGrants } } noteds)))
    ∧ (Front .railTeardown before after s →
      let released : Rail := { s.rail with grant := 0, pendingGrant := 0, grantPending := false }
      (s.rail.budgetPending = true ∧ s.rail.penAlloc ≤ s.rail.total →
        exec .railTeardown s = .next (recapped { released with
          effective := s.rail.total, budgetPending := false } u))
      ∧ (s.rail.budgetPending = false ∨ s.rail.total < s.rail.penAlloc →
        exec .railTeardown s = .next (recapped released u)))

/-- The budget cap is the highest level whose power is at most the room, 0 where none is; a level request is
allocated in full where its power fits the room and the budget cap otherwise; the pen allocation is the larger of
the powers of the active and the allocated level; a report completes a pending grant and then a pending lowering
that now fit. -/
def Obligations.LevelRequestsAndCaps : Prop :=
  (∀ (c : Charge) (room : Int) (l : Level), (c.power l : Int) ≤ room →
    (∀ m : Level, l < m → room < c.power m) → capFor c room = l)
  ∧ (∀ (c : Charge) (room : Int), (∀ m : Level, room < c.power m) → capFor c room = 0)
  ∧ (∀ (l : Level) (s : State),
    let room : Int := (s.rail.total : Int) - s.rail.grant - s.rail.pendingGrant
    let fits := (s.charge.power l : Int) ≤ room
    let a := if fits then l else s.rail.cap
    levelRequest l s = (a, completionTests (s.setRail { s.rail with
      allocated := a
      penAlloc := max (s.charge.power s.rail.active) (s.charge.power a)
      counters := { s.rail.counters with clippedRequests :=
        if a = l then s.rail.counters.clippedRequests else satInc s.rail.counters.clippedRequests } })))
  ∧ ∀ s : State,
    let granting := s.rail.grantPending = true ∧ s.rail.penAlloc + s.rail.pendingGrant ≤ s.rail.effective
    let one : State := if granting then { s with
        rail := { s.rail with
          grant := s.rail.pendingGrant, pendingGrant := 0, grantPending := false
          counters := { s.rail.counters with grants := satInc s.rail.counters.grants } }
        bport := { s.bport with pendingGrant := some s.rail.pendingGrant } }
      else s
    let lowering := s.rail.budgetPending = true ∧ s.rail.penAlloc + one.rail.grant ≤ s.rail.total
    let two : State := if lowering then one.setRail { one.rail with
        effective := s.rail.total, budgetPending := false }
      else one
    completionTests s = if granting ∨ lowering then recomputeCap two else s

/-- The end of a drive period: with a swap pending the buffered values become active and the swap is reported;
otherwise, with an idle coil too, nothing changes (the model's choice, assumption 26). An immediate stop idles a
driven coil and leaves an idle one as it is. A start drives at once at the level the Rail Allocator returns,
reported as a swap; a returned level 0 leaves the coil idle. -/
def Obligations.CoilStartsPeriodsAndStops : Prop :=
  ∀ s : State,
    let k := s.pport.coil
    let reported (c : Coil) (active allocated : Level) : State := completionTests { s with
      pport := { s.pport with coil := c }
      rail := { s.rail with
        active := active, allocated := allocated
        penAlloc := max (s.charge.power active) (s.charge.power allocated) } }
    (k.driving = true → k.swapPending = true →
      exec .drivePeriodEnd s = .next (bLookAfter s (reported { k with
        activeFreq := k.bufferedFreq, activeDuty := k.bufferedDuty, inEffect := k.buffered
        swapPending := false } s.rail.allocated s.rail.allocated)))
    ∧ (k.driving = false ∨ k.swapPending = false → exec .drivePeriodEnd s = .next s)
    ∧ (k.driving = true → stopCoil s = reported
      { driving := false, activeFreq := 200, activeDuty := 0, inEffect := 0
        bufferedFreq := 200, bufferedDuty := 0, buffered := 0, swapPending := false } 0 0)
    ∧ (k.driving = false → stopCoil s = s)
    ∧ ∀ l : Level,
      let r := levelRequest l s
      (r.1 = 0 → startCoil l s = (false, r.2))
      ∧ (r.1 ≠ 0 →
        let d := s.charge.levels[r.1]
        startCoil l s = (true, completionTests { r.2 with
          pport := { s.pport with coil :=
            { driving := true, activeFreq := d.freq, activeDuty := d.duty, inEffect := r.1
              bufferedFreq := d.freq, bufferedDuty := d.duty, buffered := r.1, swapPending := false } }
          rail := { r.2.rail with
            active := r.2.rail.allocated
            penAlloc := s.charge.power r.2.rail.allocated } }))

/-- The four caps and the targets of the charge session, and the order of the pen tests. -/
def Obligations.TargetsAndPenTests : Prop :=
  ∀ s : State,
    let c := s.charge
    let posture := s.posture.policy[s.posture.posture.code].chargeCap
    let sleep : Level := match s.power.host with
      | .active => 7
      | .standby => c.params.standbyCap
      | .off => c.params.offCap
    let outer := min posture (min s.rail.cap sleep)
    let hot := c.params.faultTemp ≤ c.pen.temperature.toInt
    let topped := c.pen.full = true ∨ (95 ≤ c.pen.battery ∧ c.params.resume ≤ c.pen.battery)
    probeTarget s = min 1 outer
    ∧ chargeTarget s = min c.cellCap outer
    ∧ (c.pen.valid = false → c.cellCap = 0)
    ∧ (∀ b t : Fin 4, c.pen.valid = true →
      (b = 0 ∧ c.pen.battery < 20) ∨ (b = 1 ∧ 20 ≤ c.pen.battery ∧ c.pen.battery < 80)
        ∨ (b = 2 ∧ 80 ≤ c.pen.battery ∧ c.pen.battery < 95) ∨ (b = 3 ∧ 95 ≤ c.pen.battery) →
      (t = 0 ∧ c.pen.temperature.toInt < 0)
        ∨ (t = 1 ∧ 0 ≤ c.pen.temperature.toInt ∧ c.pen.temperature.toInt < 35)
        ∨ (t = 2 ∧ 35 ≤ c.pen.temperature.toInt ∧ c.pen.temperature.toInt < 45)
        ∨ (t = 3 ∧ 45 ≤ c.pen.temperature.toInt) →
      ∀ n : Fin 16, n.val = 4 * b.val + t.val → c.cellCap = c.cells[n])
    ∧ (penTests s = .fault ↔ c.pen.error = true ∨ hot)
    ∧ (penTests s = .full ↔ ¬ (c.pen.error = true ∨ hot) ∧ topped)
    ∧ (penTests s = .noTarget ↔ ¬ (c.pen.error = true ∨ hot) ∧ ¬ topped ∧ chargeTarget s = 0)

/-- The session timers: a ping or a top-up starts a probe at level 1, or counts a starved ping where the probe
target is 0; a probe from SCAN counts as a ping and a top-up probe from TOPPED does not (the model's reading,
assumption 12); an unanswered probe, a silent pen and a cooldown return to SCAN, a pen that was present being
reported removed. -/
def Obligations.SessionTimerExpiries : Prop :=
  ∀ s : State,
    let at_ (x : Session) (t : ChargeTimers) (v : State) : State :=
      v.setCharge { v.charge with session := x, timers := t }
    let scan (v : State) : State := at_ .scan { ping := some s.charge.params.pingInterval } v
    let again (v : State) : State := at_ .topped { topUp := some s.charge.params.topUp } v
    let starved (v : State) : State := v.setCharge { v.charge with counters :=
      { v.charge.counters with starvedPings := satInc v.charge.counters.starvedPings } }
    let probing (v : State) : State := v.setCharge { v.charge with
      session := .probe, timers := { probe := some s.charge.params.probeWindow } }
    let pinged (v : State) : State := v.setCharge { v.charge with counters :=
      { v.charge.counters with pings := satInc v.charge.counters.pings } }
    let removed (v : State) : State := { v with
      charge := { v.charge with
        penPresent := false
        counters := { v.charge.counters with removals := satInc v.charge.counters.removals } }
      deliveries := v.deliveries ++ [.event .penRemoved, .wakeSource .penOut] }
    (s.charge.session = .scan → s.charge.timers.ping = some 0 →
      (probeTarget s = 0 → exec .pingExpiry s = .next (starved (scan s)))
      ∧ (probeTarget s ≠ 0 → exec .pingExpiry s
        = .next (bLookAfter s (pinged (probing (startCoil 1 s).2)))))
    ∧ (s.charge.session = .topped → s.charge.timers.topUp = some 0 →
      (probeTarget s = 0 → exec .topUpExpiry s = .next (starved (again s)))
      ∧ (probeTarget s ≠ 0 → exec .topUpExpiry s = .next (bLookAfter s (probing (startCoil 1 s).2))))
    ∧ (s.charge.session = .probe → s.charge.timers.probe = some 0 →
      let unanswered : State :=
        let v := scan (stopCoil s)
        v.setCharge { v.charge with counters :=
          { v.charge.counters with unanswered := satInc v.charge.counters.unanswered } }
      exec .probeWindowExpiry s
        = .next (bLookAfter s (if s.charge.penPresent then removed unanswered else unanswered)))
    ∧ (s.charge.session = .charging → s.charge.timers.silence = some 0 →
      exec .penSilenceExpiry s = .next (bLookAfter s (removed (scan (stopCoil s)))))
    ∧ (s.charge.session = .cooldown → s.charge.timers.cooldown = some 0 →
      exec .cooldownExpiry s = .next (scan s))

/-- A well-shaped pen frame: ignored and counted in OFF; otherwise it fills the Pen Record, and nothing else in
SCAN, COOLDOWN and LOCKOUT; in PROBE and CHARGING the pen tests lead to a fault, to TOPPED, to HOLD or to
CHARGING, where CHARGING kept restarts Pen Silence and changes the level if the target is another; in TOPPED they
are made below the Resume Threshold; in HOLD a charge target of 1 or more starts the coil at level 1 and enters
PROBE with the Probe Window, counted as a ping (the model's reading, assumption 12), its level request never
returning 0. -/
def Obligations.PenFrames : Prop :=
  ∀ (payload : List Byte) (s : State), payload.length = 5 →
    let b := unitByte payload
    let pen : PenRecord :=
      { valid := true, id := b 1 ++ b 0, battery := min (b 2).toNat 100, temperature := b 3
        full := (b 4).getLsbD 0, error := (b 4).getLsbD 1, time := s.time }
    let t := s.setCharge { s.charge with pen := pen }
    let handed (v : State) : Prop := consume .penFrame .p payload s = v
    (s.charge.session = .off → handed (s.setCharge { s.charge with counters :=
      { s.charge.counters with ignoredFrames := satInc s.charge.counters.ignoredFrames } }))
    ∧ (s.charge.session = .scan ∨ s.charge.session = .cooldown ∨ s.charge.session = .lockout → handed t)
    ∧ (s.charge.session = .probe ∨ s.charge.session = .charging →
      (penTests t = .fault → handed (enterFault t))
      ∧ (penTests t = .full → handed (enterTopped t))
      ∧ (penTests t = .noTarget → handed (enterHold t)))
    ∧ (s.charge.session = .probe → penTests t = .charge → handed (enterCharging t))
    ∧ (s.charge.session = .charging → penTests t = .charge →
      let kept := t.setCharge { t.charge with timers := { silence := some s.charge.params.penSilence } }
      let l := chargeTarget t
      let r := levelRequest l kept
      let d := s.charge.levels[r.1]
      r.1 ≠ 0
      ∧ (s.pport.coil.driving = true → l = s.pport.coil.buffered → handed kept)
      ∧ (s.pport.coil.driving = true → l ≠ s.pport.coil.buffered →
        handed { r.2 with pport := { s.pport with coil := { s.pport.coil with
          bufferedFreq := d.freq, bufferedDuty := d.duty, buffered := r.1, swapPending := true } } })
      ∧ (s.pport.coil.driving = false → handed (startCoil l kept).2))
    ∧ (s.charge.session = .topped →
      (s.charge.params.resume ≤ pen.battery → handed t)
      ∧ (pen.battery < s.charge.params.resume →
        (penTests t = .fault → handed (enterFault t))
        ∧ (penTests t = .full → handed t)
        ∧ (penTests t = .noTarget → handed (enterHold t))
        ∧ (penTests t = .charge → handed (enterCharging t))))
    ∧ (s.charge.session = .hold →
      (chargeTarget t = 0 → handed t)
      ∧ (chargeTarget t ≠ 0 →
        let v := (startCoil 1 t).2
        (startCoil 1 t).1 = true
        ∧ handed (v.setCharge { t.charge with
          session := .probe, timers := { probe := some s.charge.params.probeWindow }
          counters := { s.charge.counters with pings := satInc s.charge.counters.pings } })))

/-- The session moves a pen frame leads to: a fault stops the coil, records its cause and counts toward LOCKOUT at
the third; TOPPED stops the coil, clears the fault count and reports CHARGE_DONE; HOLD stops the coil; CHARGING
reports a pen not yet present and drives at the charge target. -/
def Obligations.SessionMoves : Prop :=
  ∀ s : State,
    let v := stopCoil s
    let n := s.charge.faultCount + 1
    let faulted (x : Session) (tm : ChargeTimers) (k : ChargeCounters) (ds : List Delivery) : State :=
      { v with
        charge := { s.charge with
          session := x, timers := tm, faultCount := n
          lastFault := if s.charge.pen.error then .error else .temperature
          counters := k }
        deliveries := v.deliveries ++ ds }
    let k : ChargeCounters := { s.charge.counters with faults := satInc s.charge.counters.faults }
    (n < 3 → enterFault s
      = faulted .cooldown { cooldown := some s.charge.params.cooldown } k [.event .chargeFault])
    ∧ (3 ≤ n → enterFault s = faulted .lockout {} { k with lockouts := satInc k.lockouts }
      [.event .chargeFault, .event .chargeLockout])
    ∧ enterTopped s = { v with
      charge := { s.charge with
        session := .topped, timers := { topUp := some s.charge.params.topUp }, faultCount := 0
        counters := { s.charge.counters with topOffs := satInc s.charge.counters.topOffs } }
      deliveries := v.deliveries ++ [.event .chargeDone, .wakeSource .chargeDone] }
    ∧ enterHold s = v.setCharge { s.charge with session := .hold, timers := {} }
    ∧ (let begun := if s.charge.penPresent then s.charge.counters.sessions
        else satInc s.charge.counters.sessions
      let found : State := { s with
        charge := { s.charge with
          session := .charging, timers := { silence := some s.charge.params.penSilence }
          penPresent := true
          counters := { s.charge.counters with sessions := begun } }
        deliveries := s.deliveries ++ if s.charge.penPresent then [] else [.event .penFound] }
      enterCharging s = driveAt (chargeTarget s) found)
    ∧ (let l := chargeTarget s
      let r := levelRequest l s
      let d := s.charge.levels[r.1]
      (s.pport.coil.driving = true → l = s.pport.coil.buffered → driveAt l s = s)
      ∧ (s.pport.coil.driving = true → l ≠ s.pport.coil.buffered →
        (r.1 = 0 → driveAt l s = enterHold r.2)
        ∧ (r.1 ≠ 0 → driveAt l s = { r.2 with pport := { s.pport with coil := { s.pport.coil with
          bufferedFreq := d.freq, bufferedDuty := d.duty, buffered := r.1, swapPending := true } } }))
      ∧ (s.pport.coil.driving = false →
        (r.1 = 0 → driveAt l s = enterHold r.2) ∧ (r.1 ≠ 0 → driveAt l s = (startCoil l s).2)))

/-- A cap change at the Charge Controller: a probe whose target fell to 0 is aborted into SCAN; in CHARGING a
charge target of 0 is HOLD and another target is driven; in HOLD a charge target of 1 or more starts the coil at
level 1 and enters PROBE with the Probe Window, counted as a ping (the model's reading, assumption 12); in the
other states nothing happens. The caps are those that stand when it is taken, whatever codes a posture change or
policy event carries. -/
def Obligations.CapChanges : Prop :=
  ∀ (before after : List Delivery) (c : CapCause) (e : CapEvent) (s : State),
    (c = .posture ∧ ∃ x, e = .posture x) ∨ (c = .rail ∧ e = .rail) ∨ (c = .hostState ∧ e = .hostState) →
    Front (.capChange e) before after s →
    let u := s.setDeliveries (before ++ after)
    let answer (v : State) : Prop := exec (.capChange c) s = .next (bLookAfter s v)
    (s.charge.session = .probe →
      (probeTarget s = 0 → answer (let v := stopCoil u
        v.setCharge { s.charge with
          session := .scan, timers := { ping := some s.charge.params.pingInterval }
          counters := { s.charge.counters with aborted := satInc s.charge.counters.aborted } }))
      ∧ (probeTarget s ≠ 0 → answer u))
    ∧ (s.charge.session = .charging →
      (chargeTarget s = 0 → answer (enterHold u))
      ∧ (chargeTarget s ≠ 0 → answer (driveAt (chargeTarget s) u)))
    ∧ (s.charge.session = .hold →
      (chargeTarget s = 0 → answer u) ∧ (chargeTarget s ≠ 0 →
        let v := (startCoil 1 u).2
        (startCoil 1 u).1 = true
        ∧ answer (v.setCharge { s.charge with
          session := .probe, timers := { probe := some s.charge.params.probeWindow }
          counters := { s.charge.counters with pings := satInc s.charge.counters.pings } })))
    ∧ (s.charge.session ≠ .probe → s.charge.session ≠ .charging → s.charge.session ≠ .hold → answer u)

/-! ### Sleep, wake and events -/

/-- The sleep vote: the two timers, an activity event, a posture change event and a policy event, each by the
state and reason of the vote. A posture change and a policy event act by the row their delivery carries (the
model's reading, assumption 9); an activity event found in AWAKE leaves AWAKE, the first after a reset too (the
model's reading, assumption 34). -/
def Obligations.SleepVoteMoves : Prop :=
  ∀ (before after : List Delivery) (s : State),
    let u := s.setDeliveries (before ++ after)
    let awake (row : PolicyRow) (p : Power) : Power :=
      match row.sleepDelay with
      | some d => { p with
        vote := .pending, reason := .closed, sleepDelay := some d, idle := none, wakeLine := false }
      | none => { p with
        vote := .awake, reason := .none, sleepDelay := none, wakeLine := false
        idle := if row.idleTimeout = 0 then none else some row.idleTimeout }
    let withdrawn (row : PolicyRow) (v : State) : State := { v with
      power := { awake row v.power with
        counters := { v.power.counters with withdrawals := satInc v.power.counters.withdrawals } }
      deliveries := v.deliveries ++ [.event .sleepWithdrawn] }
    let now := s.posture.policy[s.posture.posture.code]
    (s.power.vote = .pending → s.power.sleepDelay = some 0 →
      exec .sleepDelayExpiry s = .next { s with
        power := { s.power with
          vote := .requested, sleepDelay := none
          counters := { s.power.counters with sleepRequests := satInc s.power.counters.sleepRequests } }
        deliveries := s.deliveries ++ [.event .sleepRequest] })
    ∧ (s.power.vote = .awake → s.power.idle = some 0 →
      exec .idleTimerExpiry s = .next (s.setPower { s.power with
        vote := .pending, reason := .idle, idle := none, sleepDelay := some 0 }))
    ∧ (∀ f, Front (.activity f) before after s →
      let t : State := u.setPower { s.power with activityTime := s.time }
      (s.power.vote = .awake → exec (.activityEvent f) s = .next (if now.idleTimeout = 0 then t
        else t.setPower { t.power with idle := some now.idleTimeout }))
      ∧ (s.power.vote = .pending → s.power.reason = .idle →
        exec (.activityEvent f) s = .next (t.setPower (awake now t.power)))
      ∧ (s.power.vote = .requested → s.power.reason = .idle →
        exec (.activityEvent f) s = .next (withdrawn now t))
      ∧ (s.power.vote = .pending ∨ s.power.vote = .requested → s.power.reason ≠ .idle →
        exec (.activityEvent f) s = .next t)
      ∧ (s.power.vote = .asleep ∨ s.power.vote = .waking → exec (.activityEvent f) s = .next t))
    ∧ (∀ old new row, Front (.powerPostureChange old new row) before after s →
      let t := postureWake new (u.setPower { s.power with activityTime := s.time })
      (s.power.vote = .awake ∨ s.power.vote = .pending →
        exec .powerPostureChange s = .next (t.setPower (awake row t.power)))
      ∧ (s.power.vote = .requested → exec .powerPostureChange s = .next (withdrawn row t))
      ∧ (s.power.vote = .asleep ∨ s.power.vote = .waking → exec .powerPostureChange s = .next t))
    ∧ (∀ current row, Front (.powerPolicyEvent current row) before after s →
      let ended := if s.power.vote = .requested then withdrawn row u
        else u.setPower (awake row s.power)
      (s.power.vote = .awake → exec .powerPolicyEvent s = .next (u.setPower (awake row s.power)))
      ∧ (s.power.vote = .asleep ∨ s.power.vote = .waking → exec .powerPolicyEvent s = .next u)
      ∧ (s.power.vote = .pending ∨ s.power.vote = .requested →
        (s.power.reason = .idle → row.idleTimeout = 0 → exec .powerPolicyEvent s = .next ended)
        ∧ (s.power.reason = .idle → row.idleTimeout ≠ 0 → exec .powerPolicyEvent s = .next u)
        ∧ (s.power.reason = .closed → row.sleepDelay = none → exec .powerPolicyEvent s = .next ended))
      ∧ (∀ d, s.power.reason = .closed → row.sleepDelay = some d →
        (s.power.vote = .pending →
          exec .powerPolicyEvent s = .next (u.setPower { s.power with sleepDelay := some d }))
        ∧ (s.power.vote = .requested → exec .powerPolicyEvent s = .next u)))

/-- Wake sources: awake, a source's occurrence changes nothing; asleep or waking it raises its latch, and in
ASLEEP a rise of an enabled source wakes the host, a rise of a disabled one being counted; a posture change
event raises POSTURE, and LID_OPEN when its condition goes true, the latch falling with the condition. -/
def Obligations.WakeSources : Prop :=
  ∀ (before after : List Delivery) (e : EdgeSource) (s : State),
    let u := s.setDeliveries (before ++ after)
    let bit : BitVec 8 := BitVec.twoPow 8 (edgeIndex e)
    let asleep := s.power.vote = .asleep ∨ s.power.vote = .waking
    let p := s.power
    let latched : Power := { p with latches := p.latches ||| bit }
    (Front (.wakeSource e) before after s →
      (¬ asleep → exec (.wakeSourceEvent e) s = .next u)
      ∧ (asleep → p.latches &&& bit ≠ 0 → exec (.wakeSourceEvent e) s = .next u)
      ∧ (asleep → p.latches &&& bit = 0 → p.enables &&& bit = 0 →
        exec (.wakeSourceEvent e) s = .next (u.setPower { latched with counters :=
          { p.counters with wakeSuppressed := satInc p.counters.wakeSuppressed } }))
      ∧ (p.vote = .waking → p.latches &&& bit = 0 → p.enables &&& bit ≠ 0 →
        exec (.wakeSourceEvent e) s = .next (u.setPower latched))
      ∧ (p.vote = .asleep → p.latches &&& bit = 0 → p.enables &&& bit ≠ 0 →
        exec (.wakeSourceEvent e) s = .next { u with
          power := { latched with
            vote := .waking, wakeLine := true, cause := bit
            counters := { p.counters with wakes := satInc p.counters.wakes } }
          deliveries := u.deliveries ++ [.event .wake] }))
    ∧ ∀ new : Posture,
      let opens := new ≠ .closed ∧ new ≠ .detached
      (¬ asleep → postureWake new s = s.setPower { p with lidOpen := decide opens })
      ∧ (asleep →
        let fell := p.lidOpen = true ∧ ¬ opens
        let raised : BitVec 8 := if p.lidOpen = false ∧ opens then 9 else 8
        postureWake new s = raiseSources raised (s.setPower { p with
          lidOpen := decide opens
          latches := if fell then p.latches &&& 0xFE else p.latches }))
      ∧ ∀ m : BitVec 8,
        let rises := m &&& ~~~p.latches
        let v : Power := { p with
          latches := p.latches ||| m
          counters := { p.counters with
            wakeSuppressed := satAdd p.counters.wakeSuppressed (maskCount (rises &&& ~~~p.enables)) } }
        (¬ asleep → raiseSources m s = s)
        ∧ (p.vote = .waking ∨ (p.vote = .asleep ∧ rises &&& p.enables = 0) → raiseSources m s = s.setPower v)
        ∧ (p.vote = .asleep → rises &&& p.enables ≠ 0 → raiseSources m s = { s with
          power := { v with
            vote := .waking, wakeLine := true, cause := rises &&& p.enables
            counters := { v.counters with wakes := satInc p.counters.wakes } }
          deliveries := s.deliveries ++ [.event .wake] })

/-- An event delivered to the Management Unit sets its flag and recomputes ATTN, and a NOTE is requested when the
flag was clear and its enable set. The Posture Engine's request of a STATE frame, taken by the same row (the
model's reading, assumption 35), places the frame or leaves it owed. -/
def Obligations.EventDeliveries : Prop :=
  (∀ (before after : List Delivery) (s : State), Front .stateRequest before after s →
    exec (.eventDelivery .stateRequest) s = .next (sLook (requestState (s.setDeliveries (before ++ after)))))
  ∧ ∀ (before after : List Delivery) (c : EventCause) (s : State), Front (.event c) before after s →
    let bit : BitVec 16 := BitVec.twoPow 16 (causeIndex c).val
    let flags := s.mgmt.flags ||| bit
    let t : State := { s with
      deliveries := before ++ after
      mgmt := { s.mgmt with flags := flags, attn := decide (flags &&& s.mgmt.enables ≠ 0) } }
    (s.mgmt.flags &&& bit = 0 → s.mgmt.enables &&& bit ≠ 0 →
      exec (.eventDelivery (.cause c)) s = .next (sLook (requestNote c t)))
    ∧ (s.mgmt.flags &&& bit ≠ 0 ∨ s.mgmt.enables &&& bit = 0 →
      exec (.eventDelivery (.cause c)) s = .next (sLook t))

/-- A tick takes one millisecond from every running timer and changes nothing else but the Time Count; a timer
with none left waits for its expiry to be taken; the expiry of a timer that is not due changes nothing, and
neither does a command that takes a delivery where no such delivery is next on its route (the model's choices,
assumptions 3 and 4). -/
def Obligations.TimersRunAndOnlyWhatIsDueActs : Prop :=
  ∀ s : State,
    (let less (t : Timer) : Timer := t.map (· - 1);
      exec .timeCountTick s = .next { s with
        time := s.time + 1
        posture := { s.posture with baseFresh := less s.posture.baseFresh }
        bport := { s.bport with handshakeWait := less s.bport.handshakeWait }
        link := { s.link with
          debounce := less s.link.debounce
          identTimer := less s.link.identTimer
          alive := less s.link.alive }
        charge := { s.charge with
          timers := {
            ping := less s.charge.timers.ping
            probe := less s.charge.timers.probe
            silence := less s.charge.timers.silence
            topUp := less s.charge.timers.topUp
            cooldown := less s.charge.timers.cooldown } }
        power := { s.power with
          sleepDelay := less s.power.sleepDelay
          idle := less s.power.idle } })
    ∧
    (∀ (d : Delivery) (c : Instr),
      (d, c) ∈ ([(.owedEmission, .owedFrameEmission), (.itemRetry, .pendingItemRetry),
        (.inputGateTeardown, .inputGateTeardown false), (.inputGateTeardown, .inputGateTeardown true),
        (.postureAdmission, .postureAdmission), (.postureTeardown, .postureTeardown),
        (.toggleAndHaltReset, .toggleAndHaltReset), (.transmitterTeardown, .transmitterTeardown),
        (.admissionGrant, .admissionGrant), (.railTeardown, .railTeardown),
        (.stateRequest, .eventDelivery .stateRequest), (.capChange .rail, .capChange .rail),
        (.capChange .hostState, .capChange .hostState)] : List (Delivery × Instr))
        ∨ (∃ f, d = .activity f ∧ c = .activityEvent f)
        ∨ (∃ e, d = .wakeSource e ∧ c = .wakeSourceEvent e)
        ∨ (∃ v, d = .event v ∧ c = .eventDelivery (.cause v)) →
      (∀ before after, ¬ Front d before after s) → exec c s = .next s)
    ∧ ((∀ o before after, ¬ Front (.releaseRetry o) before after s) → exec .releaseRetry s = .next s)
    ∧ ((∀ o before after, ¬ Front (.liftRetry o) before after s) → exec .liftRetry s = .next s)
    ∧ ((∀ e m before after, ¬ Front (.gateUpdate e m) before after s) →
      ∀ padFirst, exec (.gateUpdate padFirst) s = .next s)
    ∧ ((∀ e before after, ¬ Front (.capChange (.posture e)) before after s) →
      exec (.capChange .posture) s = .next s)
    ∧ ((∀ old new row before after, ¬ Front (.powerPostureChange old new row) before after s) →
      exec .powerPostureChange s = .next s)
    ∧ ((∀ current row before after, ¬ Front (.powerPolicyEvent current row) before after s) →
      exec .powerPolicyEvent s = .next s)
    ∧ (s.lines.presence = true → (∀ before after, ¬ Front .presenceRead before after s) →
      exec .presenceAsserted s = .next s)
    ∧ (s.bport.handshakeWait ≠ some 0 → exec .handshakeWaitExpiry s = .next s)
    ∧ (s.posture.baseFresh ≠ some 0 → exec .baseFreshnessExpiry s = .next s)
    ∧ (s.link.debounce ≠ some 0 → exec .contactDebounceExpiry s = .next s)
    ∧ (s.link.identTimer ≠ some 0 → exec .identTimeoutExpiry s = .next s)
    ∧ (s.link.alive ≠ some 0 → exec .aliveWindowExpiry s = .next s)
    ∧ (s.charge.timers.ping ≠ some 0 → exec .pingExpiry s = .next s)
    ∧ (s.charge.timers.probe ≠ some 0 → exec .probeWindowExpiry s = .next s)
    ∧ (s.charge.timers.silence ≠ some 0 → exec .penSilenceExpiry s = .next s)
    ∧ (s.charge.timers.topUp ≠ some 0 → exec .topUpExpiry s = .next s)
    ∧ (s.charge.timers.cooldown ≠ some 0 → exec .cooldownExpiry s = .next s)
    ∧ (s.power.sleepDelay ≠ some 0 → exec .sleepDelayExpiry s = .next s)
    ∧ (s.power.idle ≠ some 0 → exec .idleTimerExpiry s = .next s)

/-! ### Management commands -/

/-- GET_INFO answers the 17 identity bytes, the Time Count and the last reset, and changes nothing; the last reset
byte is 0 after power-on reset and 1 after soft reset, and no other command changes it. -/
def Obligations.GetInfoAndTheLastReset : Prop :=
  (∀ (channel : Chan) (s : State), s.pool.hasRoom = true →
    exec (.getInfo channel []) s = .next (answered 1 .ok
      [0x48, 0xC4, 1, 48, 24, 8, 4, 8, 16, 8, 16, 14, 32, 16, s.time.setWidth 8,
        (s.time >>> (8 : Nat)).setWidth 8, if s.mgmt.lastReset = .powerOn then 0 else 1]
      (withPlace s) s))
  ∧ (∀ s : State, ∃ t, exec .powerOnReset s = .next t ∧ t.mgmt.lastReset = .powerOn)
  ∧ ∀ (c : Instr) (s : State),
    let resets : Prop := c = .powerOnReset
      ∨ (s.pool.hasRoom = true ∧ ((∃ channel, c = .softReset channel [])
        ∨ ∃ b0 rest f, c = .sPortUnitCompleted b0 rest ∧ frameCheckPasses (b0 :: rest) = true
          ∧ headerCheck .s (b0 :: rest) = some f ∧ f.dest = 0 ∧ f.kind = .mgmt ∧ f.payload = [2]))
    (¬ resets → ∃ t, exec c s = .next t ∧ t.mgmt.lastReset = s.mgmt.lastReset)
    ∧ (resets → c ≠ .powerOnReset → ∃ t, exec c s = .next t ∧ t.mgmt.lastReset = .soft)

/-- The reads answer the record as it stands at their execution and change nothing; with the clear option
READ_ROUTE, READ_QUEUES and READ_COUNTERS zero the counters they return, and no others; an index out of range is
refused with BAD_INDEX and an option above 1 with BAD_VALUE. The Posture Record, the counters of the eleven groups
and the codes of the named values are written out. The model's readings: READ_POSTURE_ENTRY's ten bytes (assumption
24), bit 6 of a descriptor read back as 0 (13), and group 10 without its own count (19). -/
def Obligations.ReadsAnswerTheRecords : Prop :=
  ∀ (ch : Chan) (s : State), s.pool.hasRoom = true →
    let p := withPlace s
    let read (c : Instr) (code : Byte) (data : List Byte) : Prop :=
      exec c s = .next (answered code .ok data p s)
    let refused (c : Instr) (code : Byte) (st : Status) : Prop :=
      exec c s = .next (answered code st [] p s)
    (∀ i : Fin 8, read (.readPostureEntry ch [byteNat i.val]) 9
      (let e := s.posture.table[i];
        [byteBool e.valid, byteNat e.posture.code.val, byteNat e.low, byteNat (e.low / 256),
          byteNat e.high, byteNat (e.high / 256), byteNat e.hysteresis, e.faces.setWidth 8,
          byteNat e.lid.code, byteNat e.dwell]))
    ∧ read (.readPostureRecord ch []) 13
      (let e := s.posture;
        [byteNat e.posture.code.val, (match e.entry with | none => 255 | some i => byteNat i.val),
          byteNat e.hinge, byteNat (e.hinge / 256),
          byteNat ((if e.hingeValid then 1 else 0) + (if e.lidsw then 2 else 0) + (if e.degenerate then 4 else 0)
            + (if e.motion then 8 else 0) + (if e.stale then 16 else 0) + (if e.flat then 32 else 0)),
          byteNat e.face.code, byteNat e.orientation.code]
        ++ le16 e.changeCount ++ le16 e.changeTime ++
        [(match s.posture.candidate with | .none => 255 | .entry i => byteNat i.val | .unmatched => 8),
          byteNat s.posture.candidateCount,
          (match s.posture.rotCandidate with | none => 255 | some o => byteNat o.code),
          byteNat s.posture.rotCount]
        ++ le16 s.posture.lid.counter ++ le16 s.posture.base.counter)
    ∧ (read (.readBaseRecord ch [0]) 16 (let l := s.link;
        [byteNat l.state.code, byteNat l.attempts, byteBool l.record.valid, l.record.cls,
          l.record.revision, l.record.layout, byteNat l.record.requestedLoad, byteNat l.record.loadCap]
        ++ le16 l.record.attachTime ++ [byteNat l.lastTeardown.code, byteNat l.lastReject.code])
      ∧ read (.readBaseRecord ch [1]) 16 (byteNat s.link.record.descriptors.length
        :: s.link.record.descriptors.flatMap (fun d => [byteNat d.channel.val, byteNat d.kind.kind.code,
          if d.handshaked then 128 + byteNat d.maxLength else byteNat d.maxLength]))
      ∧ read (.readBaseRecord ch [2]) 16
        (s.link.classes.toList.flatMap (fun e =>
            [byteBool e.valid, e.cls, e.minRevision, byteNat e.loadCap])
          ++ [byteNat s.link.defaultLoad] ++ le16Nat s.link.timing.contactDebounce
          ++ le16Nat s.link.timing.identTimeout ++ le16Nat s.link.timing.aliveWindow))
    ∧ read (.readBudget ch []) 21 (let r := s.rail;
        [byteNat r.total, byteNat r.effective, byteNat r.grant, byteNat r.pendingGrant,
          byteNat ((if r.grantPending then 1 else 0) + (if r.budgetPending then 2 else 0)),
          byteNat r.penAlloc, byteNat r.active.val, byteNat r.allocated.val, byteNat r.cap.val,
          BitVec.ofInt 8 ((r.total : Int) - r.grant - r.pendingGrant)])
    ∧ read (.readChargeRecord ch []) 26 (let c := s.charge;
        [byteNat c.session.code,
          byteNat ((if c.enabled then 1 else 0) + (if c.penPresent then 2 else 0)
            + (if c.pen.valid then 4 else 0) + (if s.pport.coil.swapPending then 8 else 0)),
          byteNat s.pport.coil.inEffect.val, byteNat s.pport.coil.buffered.val,
          byteNat (match c.session with
            | .probe => (probeTarget s).val | .charging => (chargeTarget s).val | _ => 0),
          byteNat c.cellCap.val, byteNat s.posture.policy[s.posture.posture.code].chargeCap.val,
          byteNat s.rail.cap.val, byteNat (sleepCap s).val, byteNat c.faultCount, byteNat c.lastFault.code]
        ++ le16 c.pen.id ++ [byteNat c.pen.battery, c.pen.temperature,
          byteNat ((if c.pen.full then 1 else 0) + (if c.pen.error then 2 else 0))] ++ le16 c.pen.time)
    ∧ read (.readSleepRecord ch []) 29 (let w := s.power;
        [byteNat w.host.code, byteNat w.vote.code, byteNat w.reason.code, w.enables, w.latches, w.cause,
          byteNat ((if w.wakeLine then 1 else 0) + (if w.sleepDelay.isSome then 2 else 0)
            + (if w.idle.isSome then 4 else 0) + (if w.lidOpen then 8 else 0))]
        ++ le16 w.activityTime ++ le16Nat (w.sleepDelay.getD 0) ++ le32Nat (w.idle.getD 0))
    ∧ read (.readEvents ch []) 33 (le16 s.mgmt.flags ++ le16 s.mgmt.enables ++ le16 s.mgmt.owedNotices
        ++ [byteBool s.mgmt.owedState])
    ∧ (s.classifier.log.valid = true → read (.readLog ch []) 36 (let l := s.classifier.log;
        [1, byteNat l.reason.code, byteNat l.port.code, l.kind.setWidth 8, l.channel.setWidth 8,
          l.dest.setWidth 8, l.length] ++ le16 l.time ++ [byteNat l.overflow]))
    ∧ (s.classifier.log.valid = false → read (.readLog ch []) 36
        [0, 0, 0, 0, 0, 0, 0, 0, 0, byteNat s.classifier.log.overflow])
    ∧ (∀ i : Fin 24,
      let r := s.classifier.routes[i]
      let zeroed := s.classifier.routes.set i { r with matchCount := 0 }
      read (.readRoute ch [byteNat i.val, 0]) 5 (routeBytes r)
      ∧ exec (.readRoute ch [byteNat i.val, 1]) s = .next (answered 5 .ok (routeBytes r)
        (p.setClassifier { s.classifier with routes := zeroed }) s))
    ∧ (let d := s.classifier.dflt
      let data : List Byte := [1, 0, 0, 16, 15, byteNat d.action.code, byteNat (queueField d.queue), 15]
        ++ le16Nat d.matchCount
      read (.readRoute ch [24, 0]) 5 data
      ∧ exec (.readRoute ch [24, 1]) s = .next (answered 5 .ok data
        (p.setClassifier { s.classifier with dflt := { d with matchCount := 0 } }) s))
    ∧ (∀ q : QueueId, let v := p.pool.queue q
      let data : List Byte := [byteNat q.code, byteNat v.items.length, byteNat v.limit,
          (match v.policy with | none => 255 | some .dropOld => 0 | some .dropNew => 1), byteNat v.peak,
          byteNat p.pool.free.length]
        ++ [v.counters.placed, v.counters.sent, v.counters.evicted, v.counters.refused,
          v.counters.noBuffer, v.counters.flushed, v.counters.owed, v.counters.overrun].flatMap le16Nat
      read (.readQueues ch [byteNat q.code, 0]) 32 data
      ∧ exec (.readQueues ch [byteNat q.code, 1]) s = .next (answered 32 .ok data
        (p.setPool (p.pool.setQueue q { v with counters := {}, peak := v.items.length })) s))
    ∧ (∀ g : Fin 11,
      let b := s.bport.counters
      let l := s.lport.counters
      let n := s.pport.counters
      let h := s.sport.counters
      let k := s.gate.key.counters
      let d := s.gate.pad.counters
      let m := s.link.counters
      let r := s.rail.counters
      let c := s.charge.counters
      let w := s.power.counters
      let u := s.mgmt.counters
      let count : Nat := [11, 6, 9, 9, 9, 6, 8, 5, 10, 5, 4].getD g.val 0
      let counters : List Counter :=
        match g with
        | 0 => [b.received, b.checkFailures, b.headerErrors, b.identAlive, b.notAttached, b.undeclared,
            b.kindMismatch, b.halted, b.duplicates, b.overlength, b.refused]
        | 1 => [b.shapeErrors, b.straySymbols, b.downSent, b.downAcked, b.downFailed, b.downAbandoned]
        | 2 => [l.received, l.checkFailures, l.headerErrors, l.gaps, l.shapeErrors, n.received,
            n.checkFailures, n.headerErrors, n.shapeErrors]
        | 3 => [h.received, h.checkFailures, h.headerErrors, h.mgmtFrames, h.badDest, h.downAccepted,
            s.classifier.classified, s.classifier.gated, s.classifier.unconsumed]
        | 4 => [k.forwarded, k.refused, k.unchanged, k.suppressed, k.foreign, k.fixups, k.overflow,
            k.releases, k.releaseFailures]
        | 5 => [d.forwarded, d.refused, d.suppressed, d.awaitLiftDrops, d.lifts, d.liftFailures]
        | 6 => [m.contacts, m.identRequests, m.admissions, m.rejections, m.ignoredIdents, m.suspects,
            m.recoveries, m.teardowns]
        | 7 => [r.grants, r.deferredGrants, r.limitedGrants, r.deferredBudgets, r.clippedRequests]
        | 8 => [c.pings, c.starvedPings, c.unanswered, c.aborted, c.sessions, c.topOffs, c.removals,
            c.faults, c.lockouts, c.ignoredFrames]
        | 9 => [w.sleepRequests, w.withdrawals, w.sleepEntries, w.wakes, w.wakeSuppressed]
        | 10 => [u.commands, u.notOk, u.notices, u.stateReports]
      let cleared : State :=
        match g with
        | 0 => { p with bport := { p.bport with counters := { b with
            received := 0, checkFailures := 0, headerErrors := 0, identAlive := 0, notAttached := 0
            undeclared := 0, kindMismatch := 0, halted := 0, duplicates := 0, overlength := 0
            refused := 0 } } }
        | 1 => { p with bport := { p.bport with counters := { b with
            shapeErrors := 0, straySymbols := 0, downSent := 0, downAcked := 0, downFailed := 0
            downAbandoned := 0 } } }
        | 2 => { p with
            lport := { p.lport with counters := { received := 0, checkFailures := 0, headerErrors := 0
                                                  gaps := 0, shapeErrors := 0 } }
            pport := { p.pport with counters := { received := 0, checkFailures := 0, headerErrors := 0
                                                  shapeErrors := 0 } } }
        | 3 => { p with
            sport := { p.sport with counters := { received := 0, checkFailures := 0, headerErrors := 0
                                                  mgmtFrames := 0, badDest := 0, downAccepted := 0 } }
            classifier := { p.classifier with classified := 0, gated := 0, unconsumed := 0 } }
        | 4 => { p with gate := { p.gate with key := { p.gate.key with counters := {
            forwarded := 0, refused := 0, unchanged := 0, suppressed := 0, foreign := 0, fixups := 0
            overflow := 0, releases := 0, releaseFailures := 0 } } } }
        | 5 => { p with gate := { p.gate with pad := { p.gate.pad with counters := {
            forwarded := 0, refused := 0, suppressed := 0, awaitLiftDrops := 0, lifts := 0
            liftFailures := 0 } } } }
        | 6 => { p with link := { p.link with counters := {
            contacts := 0, identRequests := 0, admissions := 0, rejections := 0, ignoredIdents := 0
            suspects := 0, recoveries := 0, teardowns := 0 } } }
        | 7 => { p with rail := { p.rail with counters := {
            grants := 0, deferredGrants := 0, limitedGrants := 0, deferredBudgets := 0
            clippedRequests := 0 } } }
        | 8 => { p with charge := { p.charge with counters := {
            pings := 0, starvedPings := 0, unanswered := 0, aborted := 0, sessions := 0, topOffs := 0
            removals := 0, faults := 0, lockouts := 0, ignoredFrames := 0 } } }
        | 9 => { p with power := { p.power with counters := {
            sleepRequests := 0, withdrawals := 0, sleepEntries := 0, wakes := 0, wakeSuppressed := 0 } } }
        | 10 => { p with mgmt := { p.mgmt with counters := {
            commands := 0, notOk := 0, notices := 0, stateReports := 0 } } }
      let data : List Byte := [byteNat g.val, byteNat count] ++ counters.flatMap le16Nat
      counters.length = count
      ∧ read (.readCounters ch [byteNat g.val, 0]) 38 data
      ∧ exec (.readCounters ch [byteNat g.val, 1]) s = .next (answered 38 .ok data cleared s)
      ∧ groupCounters g s = counters ∧ groupCounters g (clearGroup g s) = List.replicate count 0)
    ∧ ([Posture.unknown, .detached, .closed, .laptop, .flat, .stand, .tent, .tablet].map Posture.code
        = [0, 1, 2, 3, 4, 5, 6, 7]
      ∧ [Face.up, .edge, .down].map Face.code = [0, 1, 2]
      ∧ [Orientation.rot0, .rot90, .rot180, .rot270].map Orientation.code = [0, 1, 2, 3]
      ∧ [LidCondition.any, .asserted, .released].map LidCondition.code = [0, 1, 2]
      ∧ [LinkState.detached, .contact, .identify, .attached, .suspect, .rejected].map LinkState.code
        = [0, 1, 2, 3, 4, 5]
      ∧ [TeardownCause.none, .presence, .silence, .reident].map TeardownCause.code = [0, 1, 2, 3]
      ∧ [RejectReason.none, .shape, .cls, .noAnswer].map RejectReason.code = [0, 1, 2, 3]
      ∧ [Session.off, .scan, .probe, .charging, .topped, .hold, .fault, .cooldown, .lockout].map Session.code
        = [0, 1, 2, 3, 4, 5, 6, 7, 8]
      ∧ [FaultCause.none, .error, .temperature].map FaultCause.code = [0, 1, 2]
      ∧ [Vote.awake, .pending, .requested, .asleep, .waking].map Vote.code = [0, 1, 2, 3, 4]
      ∧ [SleepReason.none, .closed, .idle].map SleepReason.code = [0, 1, 2]
      ∧ [HostPower.active, .standby, .off].map HostPower.code = [0, 1, 2]
      ∧ [LogReason.crc, .header, .notAttached, .undeclared, .kindMismatch, .overlength, .badDest,
          .mgmtOverrun].map LogReason.code = [0, 1, 2, 3, 4, 5, 6, 7]
      ∧ [Port.b, .l, .p, .s].map Port.code = [0, 1, 2, 3]
      ∧ [DeclaredKind.data, .keys, .point, .sample].map (fun k => k.kind.code) = [0, 1, 2, 3]
      ∧ [Action.forward, .tap, .consume, .drop].map Action.code = [0, 1, 2, 3]
      ∧ [QueueId.q0, .q1, .q2, .q3, .qd].map QueueId.code = [0, 1, 2, 3, 4])
    ∧ (∀ b o : Byte,
      (8 ≤ b.toNat → refused (.readPostureEntry ch [b]) 9 .badIndex)
      ∧ (3 ≤ b.toNat → refused (.readBaseRecord ch [b]) 16 .badIndex)
      ∧ (25 ≤ b.toNat → refused (.readRoute ch [b, o]) 5 .badIndex)
      ∧ (5 ≤ b.toNat → refused (.readQueues ch [b, o]) 32 .badIndex)
      ∧ (11 ≤ b.toNat → refused (.readCounters ch [b, o]) 38 .badIndex)
      ∧ (b.toNat ≤ 24 → 2 ≤ o.toNat → refused (.readRoute ch [b, o]) 5 .badValue)
      ∧ (b.toNat ≤ 4 → 2 ≤ o.toNat → refused (.readQueues ch [b, o]) 32 .badValue)
      ∧ (b.toNat ≤ 10 → 2 ≤ o.toNat → refused (.readCounters ch [b, o]) 38 .badValue))

/-- INVALIDATE_ROUTE clears the valid flag of the entry it names, valid or not, keeps its other fields and its
match counter, and takes it out of lookup. WRITE_ROUTE checks port, base, span, kind on the port, action, queue of
FORWARD and TAP, and gate class; it stores a route that passes into an invalid entry, the base aligned to the span,
and READ_ROUTE then shows the arguments, the queue of CONSUME and DROP as 0. SET_DEFAULT_ROUTE sets action and
queue and keeps the match counter. -/
def Obligations.RouteCommands : Prop :=
  ∀ (ch : Chan) (s : State), s.pool.hasRoom = true →
    let p := withPlace s
    let routes := s.classifier.routes
    let answer (c : Instr) (code : Byte) (st : Status) (v : State) : Prop :=
      exec c s = .next (answered code st [] v s)
    (∀ i : Fin 24,
      let gone : Classifier := { s.classifier with
        routes := routes.set i { routes[i] with valid := false } }
      answer (.invalidateRoute ch [byteNat i.val]) 4 .ok (p.setClassifier gone)
      ∧ ∀ port f, gone.lookup port f ≠ some i)
    ∧ (∀ b : Byte, 24 ≤ b.toNat → answer (.invalidateRoute ch [b]) 4 .badIndex p)
    ∧ (∀ (i : Fin 24) (port base span kind action queue gate : Byte),
      let c : Instr := .writeRoute ch [byteNat i.val, port, base, span, kind, action, queue, gate]
      let good := port.toNat ≤ 2 ∧ base.toNat ≤ 15
        ∧ (span = 1 ∨ span = 2 ∨ span = 4 ∨ span = 8 ∨ span = 16)
        ∧ (kind = 15 ∨ (port = 0 ∧ kind.toNat ≤ 3) ∨ (port = 1 ∧ kind = 3) ∨ (port = 2 ∧ kind = 4))
        ∧ action.toNat ≤ 3 ∧ (action.toNat ≤ 1 → 1 ≤ queue.toNat ∧ queue.toNat ≤ 3)
        ∧ (gate = 15 ∨ (gate.toNat ≤ 7 ∧ port = 0 ∧ action = 0 ∧ (kind = 15 ∨ kind = 1 ∨ kind = 2)))
      (¬ good → answer c 3 .badValue p)
      ∧ (good → routes[i].valid = true → answer c 3 .busy p)
      ∧ ∀ (x : UpPort) (a : Action) (g : Option GateClass), good → x.code = port.toNat →
        a.code = action.toNat → (gate = 15 ∧ g = none) ∨ (∃ n, g = some n ∧ n.val = gate.toNat) →
        let e : Route :=
          { valid := true, port := x, base := base.toNat / span.toNat * span.toNat, span := span.toNat
            kind := if kind = 15 then none else Kind.ofCode kind.toNat
            action := a
            queue := if action.toNat ≤ 1 then HostQueue.ofCode queue.toNat else none
            gate := g, matchCount := 0 }
        (routes[i].valid = false →
          answer c 3 .ok (p.setClassifier { s.classifier with routes := routes.set i e }))
        ∧ routeBytes e = [1, port, byteNat (base.toNat / span.toNat * span.toNat), span, kind, action,
          if action.toNat ≤ 1 then queue else 0, gate, 0, 0])
    ∧ (∀ b port base span kind action queue gate : Byte, 24 ≤ b.toNat →
      answer (.writeRoute ch [b, port, base, span, kind, action, queue, gate]) 3 .badIndex p)
    ∧ (∀ (a : Action) (b : Byte),
      let d : DefaultRoute := s.classifier.dflt
      let c : Instr := .setDefaultRoute ch [byteNat a.code, b]
      (a = .consume ∨ a = .drop → answer c 6 .ok (p.setClassifier { s.classifier with
        dflt := { d with action := a, queue := none } }))
      ∧ (∀ q : HostQueue, a = .forward ∨ a = .tap → b.toNat = q.id.code →
        answer c 6 .ok (p.setClassifier { s.classifier with
          dflt := { d with action := a, queue := some q } }))
      ∧ (a = .forward ∨ a = .tap → b.toNat = 0 ∨ 4 ≤ b.toNat → answer c 6 .badValue p))
    ∧ (∀ a b : Byte, 4 ≤ a.toNat → answer (.setDefaultRoute ch [a, b]) 6 .badValue p)

/-- The posture tables: a posture entry is written only into an invalid place; an invalidated entry ends its own
candidacy; a policy row written to the current row acts at once; an Axis Map write invalidates the base sample
and the Hinge Record, clears candidate and entry, and sets UNKNOWN unless DETACHED (the rotation mode at that change
being the model's reading, assumption 11); what these two deliver carries the posture codes,
and the mask and the row (the model's
reading, assumption 9), a STATE frame they request being a delivery too (the model's reading, assumption 35); the
Angle Parameters are stored together; the rotation lock takes effect at once. -/
def Obligations.PostureCommands : Prop :=
  ∀ (ch : Chan) (s : State), s.pool.hasRoom = true →
    let p := withPlace s
    let e := s.posture
    let answer (c : Instr) (code : Byte) (st : Status) (v : State) : Prop :=
      exec c s = .next (answered code st [] v s)
    (∀ (i : Fin 8) (x l0 l1 h0 h1 y f l d : Byte),
      let c : Instr := .writePosture ch [byteNat i.val, x, l0, l1, h0, h1, y, f, l, d]
      let low := l0.toNat + 256 * l1.toNat
      let high := h0.toNat + 256 * h1.toNat
      let good := 2 ≤ x.toNat ∧ x.toNat ≤ 7 ∧ low ≤ high ∧ high ≤ 4095 ∧ 1 ≤ f.toNat ∧ f.toNat ≤ 7
        ∧ l.toNat ≤ 2 ∧ 1 ≤ d.toNat ∧ d.toNat ≤ 64
      (¬ good → answer c 7 .badValue p)
      ∧ (good → e.table[i].valid = true → answer c 7 .busy p)
      ∧ (∀ (v : Posture) (n : LidCondition), good → e.table[i].valid = false → v.code.val = x.toNat →
        n.code = l.toNat →
        let x : PostureEntry :=
          { valid := true, posture := v, low := low, high := high, hysteresis := y.toNat
            faces := f.setWidth 3, lid := n, dwell := d.toNat }
        answer c 7 .ok (p.setPosture { e with table := e.table.set i x })))
    ∧ (∀ i : Fin 8,
      let q : PostureEngine := { e with table := e.table.set i { e.table[i] with valid := false } }
      (e.candidate = .entry i → answer (.invalidatePosture ch [byteNat i.val]) 8 .ok
        (p.setPosture { q with candidate := .none, candidateCount := 0 }))
      ∧ (e.candidate ≠ .entry i →
        answer (.invalidatePosture ch [byteNat i.val]) 8 .ok (p.setPosture q)))
    ∧ (∀ b x l0 l1 h0 h1 y f l d : Byte, 8 ≤ b.toNat →
      answer (.writePosture ch [b, x, l0, l1, h0, h1, y, f, l, d]) 7 .badIndex p
      ∧ answer (.invalidatePosture ch [b]) 8 .badIndex p
      ∧ answer (.writePolicy ch [b, x, l0, l1, h0, h1, y, f, l, d, x]) 10 .badIndex p)
    ∧ (∀ (i : Fin 8) (mask mode cap action d0 d1 t0 t1 t2 t3 : Byte),
      let c : Instr := .writePolicy ch [byteNat i.val, mask, mode, cap, action, d0, d1, t0, t1, t2, t3]
      let delay := d0.toNat + 256 * d1.toNat
      let idle := t0.toNat + 256 * t1.toNat + 65536 * (t2.toNat + 256 * t3.toNat)
      let good := mode.toNat ≤ 2 ∧ cap.toNat ≤ 7 ∧ action.toNat ≤ 1 ∧ (action.toNat = 1 → delay ≤ 60000)
        ∧ (idle = 0 ∨ (1000 ≤ idle ∧ idle ≤ 3600000))
      (¬ good → answer c 10 .badValue p)
      ∧ ∀ (m : RotationMode) (l : Level), good → RotationMode.ofCode mode.toNat = some m →
        l.val = cap.toNat →
        let row : PolicyRow :=
          { gateMask := mask, rotation := m, chargeCap := l
            sleepDelay := if action.toNat = 1 then some delay else none, idleTimeout := idle }
        let q : PostureEngine := { e with policy := e.policy.set i row }
        (i ≠ e.posture.code → answer c 10 .ok (p.setPosture q))
        ∧ (i = e.posture.code → answer c 10 .ok
          (let v := p.setPosture q.applyMode
            let w := if q.applyMode.orientation = e.orientation then v
              else v.setDeliveries (v.deliveries ++ [.stateRequest])
            w.setDeliveries (w.deliveries ++
              [.gateUpdate (.policy e.posture) mask, .capChange (.posture (.policy e.posture)),
               .powerPolicyEvent e.posture row]))))
    ∧ (∀ (b : Bool) (r : AxisRecord), r.x.source ≠ r.y.source → r.x.source ≠ r.z.source →
      r.y.source ≠ r.z.source →
      let source : Axis → Byte
        | .x => 0 | .y => 1 | .z => 2
      let c : Instr := .writeAxisMap ch [byteBool b, source r.x.source, byteBool r.x.negated,
        source r.y.source, byteBool r.y.negated, source r.z.source, byteBool r.z.negated]
      let q : PostureEngine := { e with
        axisLid := if b then e.axisLid else r
        axisBase := if b then r else e.axisBase
        baseValid := false, baseFresh := none, hinge := 0, hingeValid := false
        entry := none, candidate := .none, candidateCount := 0 }
      (e.posture = .detached ∨ e.posture = .unknown → answer c 11 .ok (p.setPosture q))
      ∧ (e.posture ≠ .detached → e.posture ≠ .unknown → answer c 11 .ok
        (let x : PostureEngine := { q with
            posture := .unknown, changeCount := e.changeCount + 1, changeTime := s.time }
          let w := p.setPosture x.applyMode
          w.setDeliveries (w.deliveries ++ [.stateRequest,
            .gateUpdate (.change e.posture .unknown) e.policy[(0 : Fin 8)].gateMask,
            .capChange (.posture (.change e.posture .unknown)),
            .powerPostureChange e.posture .unknown e.policy[(0 : Fin 8)]]))))
    ∧ (∀ b x nx y ny z nz : Byte,
      let c : Instr := .writeAxisMap ch [b, x, nx, y, ny, z, nz]
      (2 ≤ b.toNat → answer c 11 .badIndex p)
      ∧ (b.toNat ≤ 1 → 3 ≤ x.toNat ∨ 3 ≤ y.toNat ∨ 3 ≤ z.toNat ∨ 2 ≤ nx.toNat ∨ 2 ≤ ny.toNat
        ∨ 2 ≤ nz.toNat ∨ x = y ∨ x = z ∨ y = z → answer c 11 .badValue p))
    ∧ (∀ a : AngleParams,
      (∀ n ∈ [a.hingeOffset, a.wrapBand, a.minProjection, a.maxProjection, a.baseFaceBand,
        a.flatThreshold, a.rotHysteresis, a.rotDwell, a.unmatchedDwell, a.baseFreshness], n ≤ 65535) →
      let c : Instr := .writeAngleParams ch ([a.hingeOffset, a.wrapBand, a.minProjection, a.maxProjection,
        a.baseFaceBand, a.flatThreshold, a.rotHysteresis, a.rotDwell, a.unmatchedDwell,
        a.baseFreshness].flatMap le16Nat)
      let good := a.hingeOffset ≤ 4095 ∧ 16 ≤ a.wrapBand ∧ a.wrapBand ≤ 1024 ∧ 128 ≤ a.baseFaceBand
        ∧ a.baseFaceBand ≤ 1023 ∧ a.rotHysteresis ≤ 511 ∧ 1 ≤ a.rotDwell ∧ a.rotDwell ≤ 64
        ∧ 1 ≤ a.unmatchedDwell ∧ a.unmatchedDwell ≤ 64 ∧ 5 ≤ a.baseFreshness ∧ a.baseFreshness ≤ 500
        ∧ a.minProjection ≤ a.maxProjection
      (good → answer c 12 .ok (p.setPosture { e with params := a }))
      ∧ (¬ good → answer c 12 .badValue p))
    ∧ (∀ v : Bool,
      let c : Instr := .setRotationLock ch [byteBool v]
      let free := e.policy[e.posture.code].rotation = .free
      (¬ free ∨ v = e.rotLock ∨ v = false →
        answer c 14 .ok (p.setPosture { e with rotLock := v }))
      ∧ (free → v = true → e.rotLock = false → answer c 14 .ok (p.setPosture { e with
        rotLock := true, rotCandidate := none, rotCount := 0 })))
    ∧ (∀ b : Byte, 2 ≤ b.toNat → answer (.setRotationLock ch [b]) 14 .badValue p)

/-- WRITE_BASE_CLASS and SET_LINK_TIMING store values that pass their checks, a running timer keeping its expiry;
CHANNEL_HALT and CHANNEL_RESUME set and clear the halt flag of a channel. -/
def Obligations.LinkAndChannelCommands : Prop :=
  ∀ (ch : Chan) (s : State), s.pool.hasRoom = true →
    let p := withPlace s
    let l := s.link
    let answer (c : Instr) (code : Byte) (st : Status) (v : State) : Prop :=
      exec c s = .next (answered code st [] v s)
    (∀ (i : Fin 4) (v : Bool) (cls rev load : Byte),
      let c : Instr := .writeBaseClass ch [byteNat i.val, byteBool v, cls, rev, load]
      let e : BaseClass := { valid := v, cls := cls, minRevision := rev, loadCap := load.toNat }
      (load.toNat ≤ 40 → answer c 15 .ok (p.setLink { l with classes := l.classes.set i e }))
      ∧ (41 ≤ load.toNat → answer c 15 .badValue p))
    ∧ (∀ b v cls rev load : Byte,
      let c : Instr := .writeBaseClass ch [b, v, cls, rev, load]
      (5 ≤ b.toNat → answer c 15 .badIndex p)
      ∧ (b.toNat ≤ 3 → 2 ≤ v.toNat → answer c 15 .badValue p)
      ∧ (b.toNat = 4 → load.toNat ≤ 40 → answer c 15 .ok (p.setLink { l with defaultLoad := load.toNat }))
      ∧ (b.toNat = 4 → 41 ≤ load.toNat → answer c 15 .badValue p))
    ∧ (∀ d i a : Nat, d ≤ 65535 → i ≤ 65535 → a ≤ 65535 →
      let c : Instr := .setLinkTiming ch (le16Nat d ++ le16Nat i ++ le16Nat a)
      let good := 10 ≤ d ∧ d ≤ 500 ∧ 50 ≤ i ∧ i ≤ 2000 ∧ 20 ≤ a ∧ a ≤ 1000
      (good → answer c 17 .ok (p.setLink { l with
        timing := { contactDebounce := d, identTimeout := i, aliveWindow := a } }))
      ∧ (¬ good → answer c 17 .badValue p))
    ∧ (∀ i : Chan,
      answer (.channelHalt ch [byteNat i.val]) 18 .ok
        (p.setBport { s.bport with halts := s.bport.halts.set i true })
      ∧ answer (.channelResume ch [byteNat i.val]) 19 .ok
        (p.setBport { s.bport with halts := s.bport.halts.set i false }))
    ∧ (∀ b : Byte, 16 ≤ b.toNat → answer (.channelHalt ch [b]) 18 .badIndex p
      ∧ answer (.channelResume ch [b]) 19 .badIndex p)

/-- SET_BUDGET puts a budget in force at once or defers a lowering the pen still exceeds; WRITE_DRIVE_LEVEL is
refused while the charger is enabled; a charge cell and the charge parameters act as a cap change, within the
command's own event (the model's reading, assumption 21); CHARGE_ENABLE starts scanning from OFF under rising
powers and from LOCKOUT, and off stops the coil and the session. -/
def Obligations.RailAndChargeCommands : Prop :=
  ∀ (ch : Chan) (s : State), s.pool.hasRoom = true →
    let p := withPlace s
    let r := s.rail
    let c := s.charge
    let answer (i : Instr) (code : Byte) (st : Status) (v : State) : Prop :=
      exec i s = .next (answered code st [] v s)
    (∀ v : Byte, let n := v.toNat
      (81 ≤ n → answer (.setBudget ch [v]) 20 .badValue p)
      ∧ (n ≤ 80 → n < r.grant + r.pendingGrant → answer (.setBudget ch [v]) 20 .busy p)
      ∧ (n ≤ 80 → r.grant + r.pendingGrant ≤ n →
        (r.grant + r.penAlloc ≤ n → exec (.setBudget ch [v]) s = .next (answered 20 .ok [0]
          (recomputeCap (p.setRail { r with total := n, effective := n, budgetPending := false })) s))
        ∧ (n < r.grant + r.penAlloc → exec (.setBudget ch [v]) s = .next (answered 20 .ok [1]
          (recomputeCap (p.setRail { r with
            total := n, budgetPending := true
            counters := { r.counters with deferredBudgets := satInc r.counters.deferredBudgets } })) s))))
    ∧ (∀ v f0 f1 d w : Byte,
      let i : Instr := .writeDriveLevel ch [v, f0, f1, d, w]
      let freq := f0.toNat + 256 * f1.toNat
      (v.toNat = 0 ∨ 8 ≤ v.toNat → answer i 22 .badIndex p)
      ∧ ∀ l : Level, l ≠ 0 → l.val = v.toNat →
        (freq < 100 ∨ 400 < freq ∨ 40 < w.toNat → answer i 22 .badValue p)
        ∧ (100 ≤ freq → freq ≤ 400 → w.toNat ≤ 40 →
          (c.enabled = true → answer i 22 .busy p)
          ∧ (c.enabled = false → answer i 22 .ok (recomputeCap (p.setCharge { c with
            levels := c.levels.set l { freq := freq, duty := d.toNat, power := w.toNat } })))))
    ∧ (∀ (b t : Fin 4) (l : Level) (n : Fin 16), n.val = 4 * b.val + t.val →
      answer (.writeChargeCell ch [byteNat b.val, byteNat t.val, byteNat l.val]) 23 .ok
        (takeCapChange (p.setCharge { c with cells := c.cells.set n l })))
    ∧ (∀ b t l : Byte,
      (4 ≤ b.toNat ∨ 4 ≤ t.toNat → answer (.writeChargeCell ch [b, t, l]) 23 .badIndex p)
      ∧ (b.toNat ≤ 3 → t.toNat ≤ 3 → 8 ≤ l.toNat → answer (.writeChargeCell ch [b, t, l]) 23 .badValue p))
    ∧ (∀ (ping probe silence cooldown topUp : Nat) (temp resume standby off : Byte),
      ping ≤ 65535 → probe ≤ 65535 → silence ≤ 65535 → cooldown < 4294967296 → topUp < 4294967296 →
      let i : Instr := .setChargeParams ch (le16Nat ping ++ le16Nat probe ++ le16Nat silence ++ [temp]
        ++ le32Nat cooldown ++ le32Nat topUp ++ [resume, standby, off])
      let good := 100 ≤ ping ∧ ping ≤ 10000 ∧ 5 ≤ probe ∧ probe ≤ 200 ∧ 100 ≤ silence ∧ silence ≤ 10000
        ∧ 20 ≤ temp.toInt ∧ temp.toInt ≤ 100 ∧ 1000 ≤ cooldown ∧ cooldown ≤ 600000
        ∧ 1000 ≤ topUp ∧ topUp ≤ 3600000 ∧ 50 ≤ resume.toNat ∧ resume.toNat ≤ 100
        ∧ standby.toNat ≤ 7 ∧ off.toNat ≤ 7
      (¬ good → answer i 24 .badValue p)
      ∧ ∀ x y : Level, good → x.val = standby.toNat → y.val = off.toNat →
        answer i 24 .ok (takeCapChange (p.setCharge { c with params :=
          { pingInterval := ping, probeWindow := probe, penSilence := silence, faultTemp := temp.toInt
            cooldown := cooldown, topUp := topUp, resume := resume.toNat, standbyCap := x
            offCap := y } })))
    ∧ (let rising := ∀ l : Fin 7, c.power l.castSucc ≤ c.power l.succ
      let on : State := p.setCharge { c with
        enabled := true, faultCount := 0, lastFault := .none, session := .scan
        timers := { ping := some c.params.pingInterval } }
      (c.session = .off → ¬ rising → answer (.chargeEnable ch [1]) 25 .badValue p)
      ∧ (c.session = .off → rising → answer (.chargeEnable ch [1]) 25 .ok on)
      ∧ (c.session = .lockout → answer (.chargeEnable ch [1]) 25 .ok on)
      ∧ (c.session ≠ .off → c.session ≠ .lockout → answer (.chargeEnable ch [1]) 25 .ok p)
      ∧ (c.session = .off → answer (.chargeEnable ch [0]) 25 .ok p)
      ∧ (c.session ≠ .off → answer (.chargeEnable ch [0]) 25 .ok ((stopCoil p).setCharge { c with
        enabled := false, penPresent := false, pen := { c.pen with valid := false }
        session := .off, timers := {} }))
      ∧ ∀ b : Byte, 2 ≤ b.toNat → answer (.chargeEnable ch [b]) 25 .badValue p)

/-- SET_HOST_STATE by the vote's state; WRITE_WAKE_TABLE with its re-latching, in every vote state (the model's
reading, assumption 33); SET_QUEUE and its checks in order; FLUSH_QUEUE, whose dequeue is delivered only where
something waits for it (the model's choice, assumption 10); CLEAR_EVENTS; SET_EVENT_ENABLE, which requests a NOTE
for each cause it turns on that was off (the model's reading, assumption 14) and whose flag is set and notice not
owed, in ascending cause number; and CLEAR_LOG. -/
def Obligations.HostQueueAndEventCommands : Prop :=
  ∀ (ch : Chan) (s : State), s.pool.hasRoom = true →
    let p := withPlace s
    let w := s.power
    let m := s.mgmt
    let answer (i : Instr) (code : Byte) (st : Status) (v : State) : Prop :=
      exec i s = .next (answered code st [] v s)
    (∀ h : HostPower,
      let i : Instr := .setHostState ch [byteNat h.code]
      let told : State := p.setDeliveries
        (s.deliveries ++ if h = w.host then [] else [.capChange .hostState])
      let reply (v : Vote) (x : State) : Prop :=
        exec i s = .next (answered 27 .ok [byteNat v.code] x s)
      let awake := w.vote ≠ .asleep ∧ w.vote ≠ .waking
      (h = .active → awake → reply w.vote p)
      ∧ (h = .active → ¬ awake →
        let t := enterAwake s.posture.policy[s.posture.posture.code]
          (told.setPower { w with host := .active })
        reply t.power.vote t)
      ∧ (h ≠ .active → w.vote = .asleep → reply .asleep (told.setPower { w with host := h }))
      ∧ (h ≠ .active → w.vote ≠ .asleep → reply .asleep (told.setPower { w with
        host := h, vote := .asleep, reason := .none, sleepDelay := none, idle := none, wakeLine := false
        latches := if w.lidOpen then 1 else 0
        counters := { w.counters with sleepEntries := satInc w.counters.sleepEntries } })))
    ∧ (∀ b : Byte, 3 ≤ b.toNat → answer (.setHostState ch [b]) 27 .badValue p)
    ∧ (∀ mask : Byte,
      let fresh := mask &&& ~~~w.enables
      answer (.writeWakeTable ch [mask]) 28 .ok (p.setPower { w with
        enables := mask
        latches := (w.latches &&& ~~~fresh) ||| (fresh &&& if w.lidOpen then 1 else 0) }))
    ∧ (∀ (q : QueueId) (n b : Byte),
      let v := p.pool.queue q
      let i : Instr := .setQueue ch [byteNat q.code, n, b]
      let least := if q = .q0 then 2 else 1
      (n.toNat < least ∨ 48 < n.toNat → answer i 30 .badValue p)
      ∧ (least ≤ n.toNat → n.toNat ≤ 48 →
        (q ≠ .q0 → 2 ≤ b.toNat → answer i 30 .badValue p)
        ∧ (q = .q0 ∨ b.toNat ≤ 1 →
          (n.toNat < v.items.length → answer i 30 .busy p)
          ∧ (v.items.length ≤ n.toNat → answer i 30 .ok (p.setPool (p.pool.setQueue q { v with
            limit := n.toNat
            policy := if q = .q0 then none else if b.toNat = 0 then some .dropOld else some .dropNew }))))))
    ∧ (∀ b n x : Byte, 5 ≤ b.toNat → answer (.setQueue ch [b, n, x]) 30 .badIndex p)
    ∧ (∀ q : QueueId, q ≠ .q0 →
      let v := s.pool.queue q
      let emptied : State := p.setPool (({ p.pool with free := p.pool.free ++ v.items }).setQueue q { v with
        items := []
        counters := { v.counters with flushed := satAdd v.counters.flushed v.items.length } })
      let o : List Delivery := match q with
        | .q1 => retryDeliveries (.dequeue .q1) s.gate
        | .q2 => retryDeliveries (.dequeue .q2) s.gate
        | .q3 => retryDeliveries (.dequeue .q3) s.gate
        | _ => []
      answer (.flushQueue ch [byteNat q.code]) 31 .ok (emptied.setDeliveries
        (s.deliveries ++ (if v.items = [] then [] else availableDeliveries s) ++ o)))
    ∧ (∀ b : Byte, b.toNat = 0 ∨ 5 ≤ b.toNat → answer (.flushQueue ch [b]) 31 .badIndex p)
    ∧ (∀ b0 b1 : Byte,
      let mask : BitVec 16 := b1 ++ b0
      let flags := m.flags &&& ~~~mask
      exec (.clearEvents ch [b0, b1]) s = .next (answered 34 .ok
        [flags.setWidth 8, (flags >>> (8 : Nat)).setWidth 8]
        (p.setMgmt { m with
          flags := flags, owedNotices := m.owedNotices &&& ~~~mask
          attn := decide (flags &&& m.enables ≠ 0) }) s))
    ∧ (∀ b0 b1 : Byte,
      let mask : BitVec 16 := b1 ++ b0
      let on : State := p.setMgmt { m with enables := mask, attn := decide (m.flags &&& mask ≠ 0) }
      let fresh := mask &&& ~~~m.enables &&& m.flags &&& ~~~m.owedNotices
      let i : Instr := .setEventEnable ch [b0, b1]
      (fresh = 0 → answer i 35 .ok on)
      ∧ (∀ c : EventCause, fresh = BitVec.twoPow 16 (causeIndex c).val →
        answer i 35 .ok (requestNote c on))
      ∧ ∀ cs : List EventCause, (cs.map causeIndex).Pairwise (· < ·) →
        (∀ c, c ∈ cs ↔ fresh.getLsbD (causeIndex c).val = true) →
        answer i 35 .ok (cs.foldl (fun v c => requestNote c v) on))
    ∧ answer (.clearLog ch []) 37 .ok (p.setClassifier { s.classifier with
      log := { s.classifier.log with valid := false, overflow := 0 } })

/-- SOFT_RESET rebuilds the pool, stops both transmitters and sets every block to its soft reset state, then
places its response as the first frame on Q0; a command with the wrong number of arguments is answered BAD_LENGTH
without effect; a command that finds no room is not executed, is logged and is counted. The model's choices: the
lines stand and an asserted PRESENCE is read afterwards (assumption 1), the staging frames are kept (17), the log
shows a frame built with destination 0 (18), and more argument bytes than a MGMT frame can carry are BAD_LENGTH
(27); its readings: the deliveries under way are discarded (16), and the response of SOFT_RESET is counted (19). -/
def Obligations.SoftResetArgumentsAndRoom : Prop :=
  ∀ (ch : Chan) (s : State),
    (s.pool.hasRoom = true → ∃ t, exec (.softReset ch []) s = .next (sLook t)
      ∧ (let emptied (v : Queue) : Queue :=
          { items := [], limit := v.limit, policy := v.policy, peak := 0
            counters := { placed := 0, sent := 0, evicted := 0, refused := 0, noBuffer := 0, flushed := 0
                          owed := 0, overrun := 0 } };
        t.pool =
          { bufs := s.pool.bufs.set 0 (buildFrame .resp 0 1 false [2, 0])
            free := (List.finRange 48).tail
            q0 := { emptied s.pool.q0 with
              items := [0], peak := 1, counters := { (emptied s.pool.q0).counters with placed := 1 } }
            q1 := emptied s.pool.q1, q2 := emptied s.pool.q2, q3 := emptied s.pool.q3
            qd := emptied s.pool.qd })
      ∧ t.bport = { staging := s.bport.staging } ∧ t.sport = { staging := s.sport.staging }
      ∧ t.pport = { staging := s.pport.staging }
      ∧ t.lport = { staging := s.lport.staging, lastCounter := s.lport.lastCounter, lastValid := false
                    counters := {} }
      ∧ t.time = s.time ∧ t.lines = s.lines
      ∧ t.deliveries = (if s.lines.presence then [.presenceRead] else [])
      ∧ t.classifier = { routes := s.classifier.routes.map (fun r => { r with matchCount := 0 })
                         dflt := { s.classifier.dflt with matchCount := 0 }
                         classified := 0, gated := 0, unconsumed := 0, log := {} }
      ∧ t.posture = { axisLid := s.posture.axisLid, axisBase := s.posture.axisBase
                      params := s.posture.params, lid := s.posture.lid, base := s.posture.base
                      table := s.posture.table, rotLock := s.posture.rotLock
                      policy := s.posture.policy }
      ∧ (let mask := s.posture.policy[(1 : Fin 8)].gateMask;
        t.gate =
          { gates := mask
            key := { held := [], masked := [], lastForwarded := [], bound := none, cls := 0, queue := .q1
                     gateOpen := mask.getLsbD 0, pending := none, counters := {} }
            pad := { channel := 0, cls := 0, queue := .q1, gateOpen := mask.getLsbD 0, hadContacts := false
                     awaitLift := false, pending := none, counters := {} } })
      ∧ t.link = { classes := s.link.classes, defaultLoad := s.link.defaultLoad, timing := s.link.timing }
      ∧ t.rail = { total := s.rail.total, effective := s.rail.total
                   cap := capFor s.charge s.rail.total }
      ∧ t.charge = { levels := s.charge.levels, cells := s.charge.cells, params := s.charge.params
                     pen := { s.charge.pen with valid := false } }
      ∧ t.power = { enables := s.power.enables }
      ∧ t.mgmt = { enables := s.mgmt.enables, lastReset := .soft, counters := { commands := 1 } })
    ∧ (∀ (code : Byte) (args : List Byte) (c : Instr), s.pool.hasRoom = true →
      commandOfCode ch args code.toNat = some c → argumentBytes code.toNat ≠ some args.length →
      exec c s = .next (answered code .badLength [] (withPlace s) s))
    ∧ (∀ (code : Byte) (args : List Byte) (c : Instr), s.pool.hasRoom = false →
      commandOfCode ch args code.toNat = some c →
      exec c s = .next (sLook (reportError .mgmtOverrun .s
        (buildFrame .mgmt ch 0 false (code :: args))
        (s.setPool { s.pool with q0 := { s.pool.q0 with counters :=
          { s.pool.q0.counters with overrun := satInc s.pool.q0.counters.overrun } } }))))

end
end

