-- ==== Sys2Proof/Laws/State.lean ====
section
/-! SUPPORT. What each update of one field of the state leaves in each field. -/

namespace Sys2Proof.Machine

variable (s : State)

@[simp] theorem State.setTime_time (v : Half) : (s.setTime v).time = v := rfl
@[simp] theorem State.setTime_lines (v : Half) : (s.setTime v).lines = s.lines := rfl
@[simp] theorem State.setTime_bport (v : Half) : (s.setTime v).bport = s.bport := rfl
@[simp] theorem State.setTime_lport (v : Half) : (s.setTime v).lport = s.lport := rfl
@[simp] theorem State.setTime_pport (v : Half) : (s.setTime v).pport = s.pport := rfl
@[simp] theorem State.setTime_sport (v : Half) : (s.setTime v).sport = s.sport := rfl
@[simp] theorem State.setTime_classifier (v : Half) : (s.setTime v).classifier = s.classifier := rfl
@[simp] theorem State.setTime_pool (v : Half) : (s.setTime v).pool = s.pool := rfl
@[simp] theorem State.setTime_posture (v : Half) : (s.setTime v).posture = s.posture := rfl
@[simp] theorem State.setTime_gate (v : Half) : (s.setTime v).gate = s.gate := rfl
@[simp] theorem State.setTime_link (v : Half) : (s.setTime v).link = s.link := rfl
@[simp] theorem State.setTime_rail (v : Half) : (s.setTime v).rail = s.rail := rfl
@[simp] theorem State.setTime_charge (v : Half) : (s.setTime v).charge = s.charge := rfl
@[simp] theorem State.setTime_power (v : Half) : (s.setTime v).power = s.power := rfl
@[simp] theorem State.setTime_mgmt (v : Half) : (s.setTime v).mgmt = s.mgmt := rfl
@[simp] theorem State.setTime_deliveries (v : Half) : (s.setTime v).deliveries = s.deliveries := rfl
@[simp] theorem State.setTime_pending (v : Half) : (s.setTime v).pending = s.pending := rfl

@[simp] theorem State.setLines_time (v : Lines) : (s.setLines v).time = s.time := rfl
@[simp] theorem State.setLines_lines (v : Lines) : (s.setLines v).lines = v := rfl
@[simp] theorem State.setLines_bport (v : Lines) : (s.setLines v).bport = s.bport := rfl
@[simp] theorem State.setLines_lport (v : Lines) : (s.setLines v).lport = s.lport := rfl
@[simp] theorem State.setLines_pport (v : Lines) : (s.setLines v).pport = s.pport := rfl
@[simp] theorem State.setLines_sport (v : Lines) : (s.setLines v).sport = s.sport := rfl
@[simp] theorem State.setLines_classifier (v : Lines) : (s.setLines v).classifier = s.classifier := rfl
@[simp] theorem State.setLines_pool (v : Lines) : (s.setLines v).pool = s.pool := rfl
@[simp] theorem State.setLines_posture (v : Lines) : (s.setLines v).posture = s.posture := rfl
@[simp] theorem State.setLines_gate (v : Lines) : (s.setLines v).gate = s.gate := rfl
@[simp] theorem State.setLines_link (v : Lines) : (s.setLines v).link = s.link := rfl
@[simp] theorem State.setLines_rail (v : Lines) : (s.setLines v).rail = s.rail := rfl
@[simp] theorem State.setLines_charge (v : Lines) : (s.setLines v).charge = s.charge := rfl
@[simp] theorem State.setLines_power (v : Lines) : (s.setLines v).power = s.power := rfl
@[simp] theorem State.setLines_mgmt (v : Lines) : (s.setLines v).mgmt = s.mgmt := rfl
@[simp] theorem State.setLines_deliveries (v : Lines) : (s.setLines v).deliveries = s.deliveries := rfl
@[simp] theorem State.setLines_pending (v : Lines) : (s.setLines v).pending = s.pending := rfl

@[simp] theorem State.setBport_time (v : BPort) : (s.setBport v).time = s.time := rfl
@[simp] theorem State.setBport_lines (v : BPort) : (s.setBport v).lines = s.lines := rfl
@[simp] theorem State.setBport_bport (v : BPort) : (s.setBport v).bport = v := rfl
@[simp] theorem State.setBport_lport (v : BPort) : (s.setBport v).lport = s.lport := rfl
@[simp] theorem State.setBport_pport (v : BPort) : (s.setBport v).pport = s.pport := rfl
@[simp] theorem State.setBport_sport (v : BPort) : (s.setBport v).sport = s.sport := rfl
@[simp] theorem State.setBport_classifier (v : BPort) : (s.setBport v).classifier = s.classifier := rfl
@[simp] theorem State.setBport_pool (v : BPort) : (s.setBport v).pool = s.pool := rfl
@[simp] theorem State.setBport_posture (v : BPort) : (s.setBport v).posture = s.posture := rfl
@[simp] theorem State.setBport_gate (v : BPort) : (s.setBport v).gate = s.gate := rfl
@[simp] theorem State.setBport_link (v : BPort) : (s.setBport v).link = s.link := rfl
@[simp] theorem State.setBport_rail (v : BPort) : (s.setBport v).rail = s.rail := rfl
@[simp] theorem State.setBport_charge (v : BPort) : (s.setBport v).charge = s.charge := rfl
@[simp] theorem State.setBport_power (v : BPort) : (s.setBport v).power = s.power := rfl
@[simp] theorem State.setBport_mgmt (v : BPort) : (s.setBport v).mgmt = s.mgmt := rfl
@[simp] theorem State.setBport_deliveries (v : BPort) : (s.setBport v).deliveries = s.deliveries := rfl
@[simp] theorem State.setBport_pending (v : BPort) : (s.setBport v).pending = s.pending := rfl

@[simp] theorem State.setLport_time (v : LPort) : (s.setLport v).time = s.time := rfl
@[simp] theorem State.setLport_lines (v : LPort) : (s.setLport v).lines = s.lines := rfl
@[simp] theorem State.setLport_bport (v : LPort) : (s.setLport v).bport = s.bport := rfl
@[simp] theorem State.setLport_lport (v : LPort) : (s.setLport v).lport = v := rfl
@[simp] theorem State.setLport_pport (v : LPort) : (s.setLport v).pport = s.pport := rfl
@[simp] theorem State.setLport_sport (v : LPort) : (s.setLport v).sport = s.sport := rfl
@[simp] theorem State.setLport_classifier (v : LPort) : (s.setLport v).classifier = s.classifier := rfl
@[simp] theorem State.setLport_pool (v : LPort) : (s.setLport v).pool = s.pool := rfl
@[simp] theorem State.setLport_posture (v : LPort) : (s.setLport v).posture = s.posture := rfl
@[simp] theorem State.setLport_gate (v : LPort) : (s.setLport v).gate = s.gate := rfl
@[simp] theorem State.setLport_link (v : LPort) : (s.setLport v).link = s.link := rfl
@[simp] theorem State.setLport_rail (v : LPort) : (s.setLport v).rail = s.rail := rfl
@[simp] theorem State.setLport_charge (v : LPort) : (s.setLport v).charge = s.charge := rfl
@[simp] theorem State.setLport_power (v : LPort) : (s.setLport v).power = s.power := rfl
@[simp] theorem State.setLport_mgmt (v : LPort) : (s.setLport v).mgmt = s.mgmt := rfl
@[simp] theorem State.setLport_deliveries (v : LPort) : (s.setLport v).deliveries = s.deliveries := rfl
@[simp] theorem State.setLport_pending (v : LPort) : (s.setLport v).pending = s.pending := rfl

@[simp] theorem State.setPport_time (v : PPort) : (s.setPport v).time = s.time := rfl
@[simp] theorem State.setPport_lines (v : PPort) : (s.setPport v).lines = s.lines := rfl
@[simp] theorem State.setPport_bport (v : PPort) : (s.setPport v).bport = s.bport := rfl
@[simp] theorem State.setPport_lport (v : PPort) : (s.setPport v).lport = s.lport := rfl
@[simp] theorem State.setPport_pport (v : PPort) : (s.setPport v).pport = v := rfl
@[simp] theorem State.setPport_sport (v : PPort) : (s.setPport v).sport = s.sport := rfl
@[simp] theorem State.setPport_classifier (v : PPort) : (s.setPport v).classifier = s.classifier := rfl
@[simp] theorem State.setPport_pool (v : PPort) : (s.setPport v).pool = s.pool := rfl
@[simp] theorem State.setPport_posture (v : PPort) : (s.setPport v).posture = s.posture := rfl
@[simp] theorem State.setPport_gate (v : PPort) : (s.setPport v).gate = s.gate := rfl
@[simp] theorem State.setPport_link (v : PPort) : (s.setPport v).link = s.link := rfl
@[simp] theorem State.setPport_rail (v : PPort) : (s.setPport v).rail = s.rail := rfl
@[simp] theorem State.setPport_charge (v : PPort) : (s.setPport v).charge = s.charge := rfl
@[simp] theorem State.setPport_power (v : PPort) : (s.setPport v).power = s.power := rfl
@[simp] theorem State.setPport_mgmt (v : PPort) : (s.setPport v).mgmt = s.mgmt := rfl
@[simp] theorem State.setPport_deliveries (v : PPort) : (s.setPport v).deliveries = s.deliveries := rfl
@[simp] theorem State.setPport_pending (v : PPort) : (s.setPport v).pending = s.pending := rfl

@[simp] theorem State.setSport_time (v : SPort) : (s.setSport v).time = s.time := rfl
@[simp] theorem State.setSport_lines (v : SPort) : (s.setSport v).lines = s.lines := rfl
@[simp] theorem State.setSport_bport (v : SPort) : (s.setSport v).bport = s.bport := rfl
@[simp] theorem State.setSport_lport (v : SPort) : (s.setSport v).lport = s.lport := rfl
@[simp] theorem State.setSport_pport (v : SPort) : (s.setSport v).pport = s.pport := rfl
@[simp] theorem State.setSport_sport (v : SPort) : (s.setSport v).sport = v := rfl
@[simp] theorem State.setSport_classifier (v : SPort) : (s.setSport v).classifier = s.classifier := rfl
@[simp] theorem State.setSport_pool (v : SPort) : (s.setSport v).pool = s.pool := rfl
@[simp] theorem State.setSport_posture (v : SPort) : (s.setSport v).posture = s.posture := rfl
@[simp] theorem State.setSport_gate (v : SPort) : (s.setSport v).gate = s.gate := rfl
@[simp] theorem State.setSport_link (v : SPort) : (s.setSport v).link = s.link := rfl
@[simp] theorem State.setSport_rail (v : SPort) : (s.setSport v).rail = s.rail := rfl
@[simp] theorem State.setSport_charge (v : SPort) : (s.setSport v).charge = s.charge := rfl
@[simp] theorem State.setSport_power (v : SPort) : (s.setSport v).power = s.power := rfl
@[simp] theorem State.setSport_mgmt (v : SPort) : (s.setSport v).mgmt = s.mgmt := rfl
@[simp] theorem State.setSport_deliveries (v : SPort) : (s.setSport v).deliveries = s.deliveries := rfl
@[simp] theorem State.setSport_pending (v : SPort) : (s.setSport v).pending = s.pending := rfl

@[simp] theorem State.setClassifier_time (v : Classifier) : (s.setClassifier v).time = s.time := rfl
@[simp] theorem State.setClassifier_lines (v : Classifier) : (s.setClassifier v).lines = s.lines := rfl
@[simp] theorem State.setClassifier_bport (v : Classifier) : (s.setClassifier v).bport = s.bport := rfl
@[simp] theorem State.setClassifier_lport (v : Classifier) : (s.setClassifier v).lport = s.lport := rfl
@[simp] theorem State.setClassifier_pport (v : Classifier) : (s.setClassifier v).pport = s.pport := rfl
@[simp] theorem State.setClassifier_sport (v : Classifier) : (s.setClassifier v).sport = s.sport := rfl
@[simp] theorem State.setClassifier_classifier (v : Classifier) : (s.setClassifier v).classifier = v := rfl
@[simp] theorem State.setClassifier_pool (v : Classifier) : (s.setClassifier v).pool = s.pool := rfl
@[simp] theorem State.setClassifier_posture (v : Classifier) : (s.setClassifier v).posture = s.posture := rfl
@[simp] theorem State.setClassifier_gate (v : Classifier) : (s.setClassifier v).gate = s.gate := rfl
@[simp] theorem State.setClassifier_link (v : Classifier) : (s.setClassifier v).link = s.link := rfl
@[simp] theorem State.setClassifier_rail (v : Classifier) : (s.setClassifier v).rail = s.rail := rfl
@[simp] theorem State.setClassifier_charge (v : Classifier) : (s.setClassifier v).charge = s.charge := rfl
@[simp] theorem State.setClassifier_power (v : Classifier) : (s.setClassifier v).power = s.power := rfl
@[simp] theorem State.setClassifier_mgmt (v : Classifier) : (s.setClassifier v).mgmt = s.mgmt := rfl
@[simp] theorem State.setClassifier_deliveries (v : Classifier) : (s.setClassifier v).deliveries = s.deliveries := rfl
@[simp] theorem State.setClassifier_pending (v : Classifier) : (s.setClassifier v).pending = s.pending := rfl

@[simp] theorem State.setPool_time (v : Pool) : (s.setPool v).time = s.time := rfl
@[simp] theorem State.setPool_lines (v : Pool) : (s.setPool v).lines = s.lines := rfl
@[simp] theorem State.setPool_bport (v : Pool) : (s.setPool v).bport = s.bport := rfl
@[simp] theorem State.setPool_lport (v : Pool) : (s.setPool v).lport = s.lport := rfl
@[simp] theorem State.setPool_pport (v : Pool) : (s.setPool v).pport = s.pport := rfl
@[simp] theorem State.setPool_sport (v : Pool) : (s.setPool v).sport = s.sport := rfl
@[simp] theorem State.setPool_classifier (v : Pool) : (s.setPool v).classifier = s.classifier := rfl
@[simp] theorem State.setPool_pool (v : Pool) : (s.setPool v).pool = v := rfl
@[simp] theorem State.setPool_posture (v : Pool) : (s.setPool v).posture = s.posture := rfl
@[simp] theorem State.setPool_gate (v : Pool) : (s.setPool v).gate = s.gate := rfl
@[simp] theorem State.setPool_link (v : Pool) : (s.setPool v).link = s.link := rfl
@[simp] theorem State.setPool_rail (v : Pool) : (s.setPool v).rail = s.rail := rfl
@[simp] theorem State.setPool_charge (v : Pool) : (s.setPool v).charge = s.charge := rfl
@[simp] theorem State.setPool_power (v : Pool) : (s.setPool v).power = s.power := rfl
@[simp] theorem State.setPool_mgmt (v : Pool) : (s.setPool v).mgmt = s.mgmt := rfl
@[simp] theorem State.setPool_deliveries (v : Pool) : (s.setPool v).deliveries = s.deliveries := rfl
@[simp] theorem State.setPool_pending (v : Pool) : (s.setPool v).pending = s.pending := rfl

@[simp] theorem State.setPosture_time (v : PostureEngine) : (s.setPosture v).time = s.time := rfl
@[simp] theorem State.setPosture_lines (v : PostureEngine) : (s.setPosture v).lines = s.lines := rfl
@[simp] theorem State.setPosture_bport (v : PostureEngine) : (s.setPosture v).bport = s.bport := rfl
@[simp] theorem State.setPosture_lport (v : PostureEngine) : (s.setPosture v).lport = s.lport := rfl
@[simp] theorem State.setPosture_pport (v : PostureEngine) : (s.setPosture v).pport = s.pport := rfl
@[simp] theorem State.setPosture_sport (v : PostureEngine) : (s.setPosture v).sport = s.sport := rfl
@[simp] theorem State.setPosture_classifier (v : PostureEngine) : (s.setPosture v).classifier = s.classifier := rfl
@[simp] theorem State.setPosture_pool (v : PostureEngine) : (s.setPosture v).pool = s.pool := rfl
@[simp] theorem State.setPosture_posture (v : PostureEngine) : (s.setPosture v).posture = v := rfl
@[simp] theorem State.setPosture_gate (v : PostureEngine) : (s.setPosture v).gate = s.gate := rfl
@[simp] theorem State.setPosture_link (v : PostureEngine) : (s.setPosture v).link = s.link := rfl
@[simp] theorem State.setPosture_rail (v : PostureEngine) : (s.setPosture v).rail = s.rail := rfl
@[simp] theorem State.setPosture_charge (v : PostureEngine) : (s.setPosture v).charge = s.charge := rfl
@[simp] theorem State.setPosture_power (v : PostureEngine) : (s.setPosture v).power = s.power := rfl
@[simp] theorem State.setPosture_mgmt (v : PostureEngine) : (s.setPosture v).mgmt = s.mgmt := rfl
@[simp] theorem State.setPosture_deliveries (v : PostureEngine) : (s.setPosture v).deliveries = s.deliveries := rfl
@[simp] theorem State.setPosture_pending (v : PostureEngine) : (s.setPosture v).pending = s.pending := rfl

@[simp] theorem State.setGate_time (v : InputGate) : (s.setGate v).time = s.time := rfl
@[simp] theorem State.setGate_lines (v : InputGate) : (s.setGate v).lines = s.lines := rfl
@[simp] theorem State.setGate_bport (v : InputGate) : (s.setGate v).bport = s.bport := rfl
@[simp] theorem State.setGate_lport (v : InputGate) : (s.setGate v).lport = s.lport := rfl
@[simp] theorem State.setGate_pport (v : InputGate) : (s.setGate v).pport = s.pport := rfl
@[simp] theorem State.setGate_sport (v : InputGate) : (s.setGate v).sport = s.sport := rfl
@[simp] theorem State.setGate_classifier (v : InputGate) : (s.setGate v).classifier = s.classifier := rfl
@[simp] theorem State.setGate_pool (v : InputGate) : (s.setGate v).pool = s.pool := rfl
@[simp] theorem State.setGate_posture (v : InputGate) : (s.setGate v).posture = s.posture := rfl
@[simp] theorem State.setGate_gate (v : InputGate) : (s.setGate v).gate = v := rfl
@[simp] theorem State.setGate_link (v : InputGate) : (s.setGate v).link = s.link := rfl
@[simp] theorem State.setGate_rail (v : InputGate) : (s.setGate v).rail = s.rail := rfl
@[simp] theorem State.setGate_charge (v : InputGate) : (s.setGate v).charge = s.charge := rfl
@[simp] theorem State.setGate_power (v : InputGate) : (s.setGate v).power = s.power := rfl
@[simp] theorem State.setGate_mgmt (v : InputGate) : (s.setGate v).mgmt = s.mgmt := rfl
@[simp] theorem State.setGate_deliveries (v : InputGate) : (s.setGate v).deliveries = s.deliveries := rfl
@[simp] theorem State.setGate_pending (v : InputGate) : (s.setGate v).pending = s.pending := rfl

@[simp] theorem State.setLink_time (v : Link) : (s.setLink v).time = s.time := rfl
@[simp] theorem State.setLink_lines (v : Link) : (s.setLink v).lines = s.lines := rfl
@[simp] theorem State.setLink_bport (v : Link) : (s.setLink v).bport = s.bport := rfl
@[simp] theorem State.setLink_lport (v : Link) : (s.setLink v).lport = s.lport := rfl
@[simp] theorem State.setLink_pport (v : Link) : (s.setLink v).pport = s.pport := rfl
@[simp] theorem State.setLink_sport (v : Link) : (s.setLink v).sport = s.sport := rfl
@[simp] theorem State.setLink_classifier (v : Link) : (s.setLink v).classifier = s.classifier := rfl
@[simp] theorem State.setLink_pool (v : Link) : (s.setLink v).pool = s.pool := rfl
@[simp] theorem State.setLink_posture (v : Link) : (s.setLink v).posture = s.posture := rfl
@[simp] theorem State.setLink_gate (v : Link) : (s.setLink v).gate = s.gate := rfl
@[simp] theorem State.setLink_link (v : Link) : (s.setLink v).link = v := rfl
@[simp] theorem State.setLink_rail (v : Link) : (s.setLink v).rail = s.rail := rfl
@[simp] theorem State.setLink_charge (v : Link) : (s.setLink v).charge = s.charge := rfl
@[simp] theorem State.setLink_power (v : Link) : (s.setLink v).power = s.power := rfl
@[simp] theorem State.setLink_mgmt (v : Link) : (s.setLink v).mgmt = s.mgmt := rfl
@[simp] theorem State.setLink_deliveries (v : Link) : (s.setLink v).deliveries = s.deliveries := rfl
@[simp] theorem State.setLink_pending (v : Link) : (s.setLink v).pending = s.pending := rfl

@[simp] theorem State.setRail_time (v : Rail) : (s.setRail v).time = s.time := rfl
@[simp] theorem State.setRail_lines (v : Rail) : (s.setRail v).lines = s.lines := rfl
@[simp] theorem State.setRail_bport (v : Rail) : (s.setRail v).bport = s.bport := rfl
@[simp] theorem State.setRail_lport (v : Rail) : (s.setRail v).lport = s.lport := rfl
@[simp] theorem State.setRail_pport (v : Rail) : (s.setRail v).pport = s.pport := rfl
@[simp] theorem State.setRail_sport (v : Rail) : (s.setRail v).sport = s.sport := rfl
@[simp] theorem State.setRail_classifier (v : Rail) : (s.setRail v).classifier = s.classifier := rfl
@[simp] theorem State.setRail_pool (v : Rail) : (s.setRail v).pool = s.pool := rfl
@[simp] theorem State.setRail_posture (v : Rail) : (s.setRail v).posture = s.posture := rfl
@[simp] theorem State.setRail_gate (v : Rail) : (s.setRail v).gate = s.gate := rfl
@[simp] theorem State.setRail_link (v : Rail) : (s.setRail v).link = s.link := rfl
@[simp] theorem State.setRail_rail (v : Rail) : (s.setRail v).rail = v := rfl
@[simp] theorem State.setRail_charge (v : Rail) : (s.setRail v).charge = s.charge := rfl
@[simp] theorem State.setRail_power (v : Rail) : (s.setRail v).power = s.power := rfl
@[simp] theorem State.setRail_mgmt (v : Rail) : (s.setRail v).mgmt = s.mgmt := rfl
@[simp] theorem State.setRail_deliveries (v : Rail) : (s.setRail v).deliveries = s.deliveries := rfl
@[simp] theorem State.setRail_pending (v : Rail) : (s.setRail v).pending = s.pending := rfl

@[simp] theorem State.setCharge_time (v : Charge) : (s.setCharge v).time = s.time := rfl
@[simp] theorem State.setCharge_lines (v : Charge) : (s.setCharge v).lines = s.lines := rfl
@[simp] theorem State.setCharge_bport (v : Charge) : (s.setCharge v).bport = s.bport := rfl
@[simp] theorem State.setCharge_lport (v : Charge) : (s.setCharge v).lport = s.lport := rfl
@[simp] theorem State.setCharge_pport (v : Charge) : (s.setCharge v).pport = s.pport := rfl
@[simp] theorem State.setCharge_sport (v : Charge) : (s.setCharge v).sport = s.sport := rfl
@[simp] theorem State.setCharge_classifier (v : Charge) : (s.setCharge v).classifier = s.classifier := rfl
@[simp] theorem State.setCharge_pool (v : Charge) : (s.setCharge v).pool = s.pool := rfl
@[simp] theorem State.setCharge_posture (v : Charge) : (s.setCharge v).posture = s.posture := rfl
@[simp] theorem State.setCharge_gate (v : Charge) : (s.setCharge v).gate = s.gate := rfl
@[simp] theorem State.setCharge_link (v : Charge) : (s.setCharge v).link = s.link := rfl
@[simp] theorem State.setCharge_rail (v : Charge) : (s.setCharge v).rail = s.rail := rfl
@[simp] theorem State.setCharge_charge (v : Charge) : (s.setCharge v).charge = v := rfl
@[simp] theorem State.setCharge_power (v : Charge) : (s.setCharge v).power = s.power := rfl
@[simp] theorem State.setCharge_mgmt (v : Charge) : (s.setCharge v).mgmt = s.mgmt := rfl
@[simp] theorem State.setCharge_deliveries (v : Charge) : (s.setCharge v).deliveries = s.deliveries := rfl
@[simp] theorem State.setCharge_pending (v : Charge) : (s.setCharge v).pending = s.pending := rfl

@[simp] theorem State.setPower_time (v : Power) : (s.setPower v).time = s.time := rfl
@[simp] theorem State.setPower_lines (v : Power) : (s.setPower v).lines = s.lines := rfl
@[simp] theorem State.setPower_bport (v : Power) : (s.setPower v).bport = s.bport := rfl
@[simp] theorem State.setPower_lport (v : Power) : (s.setPower v).lport = s.lport := rfl
@[simp] theorem State.setPower_pport (v : Power) : (s.setPower v).pport = s.pport := rfl
@[simp] theorem State.setPower_sport (v : Power) : (s.setPower v).sport = s.sport := rfl
@[simp] theorem State.setPower_classifier (v : Power) : (s.setPower v).classifier = s.classifier := rfl
@[simp] theorem State.setPower_pool (v : Power) : (s.setPower v).pool = s.pool := rfl
@[simp] theorem State.setPower_posture (v : Power) : (s.setPower v).posture = s.posture := rfl
@[simp] theorem State.setPower_gate (v : Power) : (s.setPower v).gate = s.gate := rfl
@[simp] theorem State.setPower_link (v : Power) : (s.setPower v).link = s.link := rfl
@[simp] theorem State.setPower_rail (v : Power) : (s.setPower v).rail = s.rail := rfl
@[simp] theorem State.setPower_charge (v : Power) : (s.setPower v).charge = s.charge := rfl
@[simp] theorem State.setPower_power (v : Power) : (s.setPower v).power = v := rfl
@[simp] theorem State.setPower_mgmt (v : Power) : (s.setPower v).mgmt = s.mgmt := rfl
@[simp] theorem State.setPower_deliveries (v : Power) : (s.setPower v).deliveries = s.deliveries := rfl
@[simp] theorem State.setPower_pending (v : Power) : (s.setPower v).pending = s.pending := rfl

@[simp] theorem State.setMgmt_time (v : Mgmt) : (s.setMgmt v).time = s.time := rfl
@[simp] theorem State.setMgmt_lines (v : Mgmt) : (s.setMgmt v).lines = s.lines := rfl
@[simp] theorem State.setMgmt_bport (v : Mgmt) : (s.setMgmt v).bport = s.bport := rfl
@[simp] theorem State.setMgmt_lport (v : Mgmt) : (s.setMgmt v).lport = s.lport := rfl
@[simp] theorem State.setMgmt_pport (v : Mgmt) : (s.setMgmt v).pport = s.pport := rfl
@[simp] theorem State.setMgmt_sport (v : Mgmt) : (s.setMgmt v).sport = s.sport := rfl
@[simp] theorem State.setMgmt_classifier (v : Mgmt) : (s.setMgmt v).classifier = s.classifier := rfl
@[simp] theorem State.setMgmt_pool (v : Mgmt) : (s.setMgmt v).pool = s.pool := rfl
@[simp] theorem State.setMgmt_posture (v : Mgmt) : (s.setMgmt v).posture = s.posture := rfl
@[simp] theorem State.setMgmt_gate (v : Mgmt) : (s.setMgmt v).gate = s.gate := rfl
@[simp] theorem State.setMgmt_link (v : Mgmt) : (s.setMgmt v).link = s.link := rfl
@[simp] theorem State.setMgmt_rail (v : Mgmt) : (s.setMgmt v).rail = s.rail := rfl
@[simp] theorem State.setMgmt_charge (v : Mgmt) : (s.setMgmt v).charge = s.charge := rfl
@[simp] theorem State.setMgmt_power (v : Mgmt) : (s.setMgmt v).power = s.power := rfl
@[simp] theorem State.setMgmt_mgmt (v : Mgmt) : (s.setMgmt v).mgmt = v := rfl
@[simp] theorem State.setMgmt_deliveries (v : Mgmt) : (s.setMgmt v).deliveries = s.deliveries := rfl
@[simp] theorem State.setMgmt_pending (v : Mgmt) : (s.setMgmt v).pending = s.pending := rfl

@[simp] theorem State.setDeliveries_time (v : List Delivery) : (s.setDeliveries v).time = s.time := rfl
@[simp] theorem State.setDeliveries_lines (v : List Delivery) : (s.setDeliveries v).lines = s.lines := rfl
@[simp] theorem State.setDeliveries_bport (v : List Delivery) : (s.setDeliveries v).bport = s.bport := rfl
@[simp] theorem State.setDeliveries_lport (v : List Delivery) : (s.setDeliveries v).lport = s.lport := rfl
@[simp] theorem State.setDeliveries_pport (v : List Delivery) : (s.setDeliveries v).pport = s.pport := rfl
@[simp] theorem State.setDeliveries_sport (v : List Delivery) : (s.setDeliveries v).sport = s.sport := rfl
@[simp] theorem State.setDeliveries_classifier (v : List Delivery) : (s.setDeliveries v).classifier = s.classifier := rfl
@[simp] theorem State.setDeliveries_pool (v : List Delivery) : (s.setDeliveries v).pool = s.pool := rfl
@[simp] theorem State.setDeliveries_posture (v : List Delivery) : (s.setDeliveries v).posture = s.posture := rfl
@[simp] theorem State.setDeliveries_gate (v : List Delivery) : (s.setDeliveries v).gate = s.gate := rfl
@[simp] theorem State.setDeliveries_link (v : List Delivery) : (s.setDeliveries v).link = s.link := rfl
@[simp] theorem State.setDeliveries_rail (v : List Delivery) : (s.setDeliveries v).rail = s.rail := rfl
@[simp] theorem State.setDeliveries_charge (v : List Delivery) : (s.setDeliveries v).charge = s.charge := rfl
@[simp] theorem State.setDeliveries_power (v : List Delivery) : (s.setDeliveries v).power = s.power := rfl
@[simp] theorem State.setDeliveries_mgmt (v : List Delivery) : (s.setDeliveries v).mgmt = s.mgmt := rfl
@[simp] theorem State.setDeliveries_deliveries (v : List Delivery) : (s.setDeliveries v).deliveries = v := rfl
@[simp] theorem State.setDeliveries_pending (v : List Delivery) : (s.setDeliveries v).pending = s.pending := rfl

@[simp] theorem State.setPending_time (v : List Instr) : (s.setPending v).time = s.time := rfl
@[simp] theorem State.setPending_lines (v : List Instr) : (s.setPending v).lines = s.lines := rfl
@[simp] theorem State.setPending_bport (v : List Instr) : (s.setPending v).bport = s.bport := rfl
@[simp] theorem State.setPending_lport (v : List Instr) : (s.setPending v).lport = s.lport := rfl
@[simp] theorem State.setPending_pport (v : List Instr) : (s.setPending v).pport = s.pport := rfl
@[simp] theorem State.setPending_sport (v : List Instr) : (s.setPending v).sport = s.sport := rfl
@[simp] theorem State.setPending_classifier (v : List Instr) : (s.setPending v).classifier = s.classifier := rfl
@[simp] theorem State.setPending_pool (v : List Instr) : (s.setPending v).pool = s.pool := rfl
@[simp] theorem State.setPending_posture (v : List Instr) : (s.setPending v).posture = s.posture := rfl
@[simp] theorem State.setPending_gate (v : List Instr) : (s.setPending v).gate = s.gate := rfl
@[simp] theorem State.setPending_link (v : List Instr) : (s.setPending v).link = s.link := rfl
@[simp] theorem State.setPending_rail (v : List Instr) : (s.setPending v).rail = s.rail := rfl
@[simp] theorem State.setPending_charge (v : List Instr) : (s.setPending v).charge = s.charge := rfl
@[simp] theorem State.setPending_power (v : List Instr) : (s.setPending v).power = s.power := rfl
@[simp] theorem State.setPending_mgmt (v : List Instr) : (s.setPending v).mgmt = s.mgmt := rfl
@[simp] theorem State.setPending_deliveries (v : List Instr) : (s.setPending v).deliveries = s.deliveries := rfl
@[simp] theorem State.setPending_pending (v : List Instr) : (s.setPending v).pending = v := rfl

/-- Two states with the same fields are the same state. -/
theorem State.ext_fields {s t : State}
    (h_time : s.time = t.time)
    (h_lines : s.lines = t.lines)
    (h_bport : s.bport = t.bport)
    (h_lport : s.lport = t.lport)
    (h_pport : s.pport = t.pport)
    (h_sport : s.sport = t.sport)
    (h_classifier : s.classifier = t.classifier)
    (h_pool : s.pool = t.pool)
    (h_posture : s.posture = t.posture)
    (h_gate : s.gate = t.gate)
    (h_link : s.link = t.link)
    (h_rail : s.rail = t.rail)
    (h_charge : s.charge = t.charge)
    (h_power : s.power = t.power)
    (h_mgmt : s.mgmt = t.mgmt)
    (h_deliveries : s.deliveries = t.deliveries)
    (h_pending : s.pending = t.pending) : s = t := by
  cases s; cases t; simp_all

end Sys2Proof.Machine
end

