-- ==== Sys2Proof/Laws/Ops.lean ====
section
/-! SUPPORT. What the shared operations leave alone, and what a delivery taken leaves. -/

namespace Sys2Proof.Machine

@[simp] theorem post_frame (d : Delivery) (s : State) :
    (post d s).time = s.time ∧ (post d s).lines = s.lines ∧ (post d s).bport = s.bport
      ∧ (post d s).lport = s.lport ∧ (post d s).pport = s.pport ∧ (post d s).sport = s.sport
      ∧ (post d s).classifier = s.classifier ∧ (post d s).pool = s.pool ∧ (post d s).posture = s.posture
      ∧ (post d s).gate = s.gate ∧ (post d s).link = s.link ∧ (post d s).rail = s.rail
      ∧ (post d s).charge = s.charge ∧ (post d s).power = s.power ∧ (post d s).mgmt = s.mgmt
      ∧ (post d s).pending = s.pending := by
  simp [post]

@[simp] theorem postAll_frame (ds : List Delivery) (s : State) :
    (postAll ds s).time = s.time ∧ (postAll ds s).lines = s.lines ∧ (postAll ds s).bport = s.bport
      ∧ (postAll ds s).lport = s.lport ∧ (postAll ds s).pport = s.pport ∧ (postAll ds s).sport = s.sport
      ∧ (postAll ds s).classifier = s.classifier ∧ (postAll ds s).pool = s.pool
      ∧ (postAll ds s).posture = s.posture ∧ (postAll ds s).gate = s.gate ∧ (postAll ds s).link = s.link
      ∧ (postAll ds s).rail = s.rail ∧ (postAll ds s).charge = s.charge ∧ (postAll ds s).power = s.power
      ∧ (postAll ds s).mgmt = s.mgmt ∧ (postAll ds s).pending = s.pending := by
  simp [postAll]

@[simp] theorem deliver_frame (c : EventCause) (s : State) :
    (deliver c s).time = s.time ∧ (deliver c s).lines = s.lines ∧ (deliver c s).bport = s.bport
      ∧ (deliver c s).lport = s.lport ∧ (deliver c s).pport = s.pport ∧ (deliver c s).sport = s.sport
      ∧ (deliver c s).classifier = s.classifier ∧ (deliver c s).pool = s.pool
      ∧ (deliver c s).posture = s.posture ∧ (deliver c s).gate = s.gate ∧ (deliver c s).link = s.link
      ∧ (deliver c s).rail = s.rail ∧ (deliver c s).charge = s.charge ∧ (deliver c s).power = s.power
      ∧ (deliver c s).mgmt = s.mgmt ∧ (deliver c s).pending = s.pending := by
  simp [deliver]

@[simp] theorem postRetries_frame (o : RetryOccasion) (s : State) :
    (postRetries o s).time = s.time ∧ (postRetries o s).lines = s.lines ∧ (postRetries o s).bport = s.bport
      ∧ (postRetries o s).lport = s.lport ∧ (postRetries o s).pport = s.pport
      ∧ (postRetries o s).sport = s.sport ∧ (postRetries o s).classifier = s.classifier
      ∧ (postRetries o s).pool = s.pool ∧ (postRetries o s).posture = s.posture
      ∧ (postRetries o s).gate = s.gate ∧ (postRetries o s).link = s.link ∧ (postRetries o s).rail = s.rail
      ∧ (postRetries o s).charge = s.charge ∧ (postRetries o s).power = s.power
      ∧ (postRetries o s).mgmt = s.mgmt ∧ (postRetries o s).pending = s.pending := by
  simp [postRetries]

@[simp] theorem bufferAvailable_frame (s : State) :
    (bufferAvailable s).time = s.time ∧ (bufferAvailable s).lines = s.lines
      ∧ (bufferAvailable s).bport = s.bport ∧ (bufferAvailable s).lport = s.lport
      ∧ (bufferAvailable s).pport = s.pport ∧ (bufferAvailable s).sport = s.sport
      ∧ (bufferAvailable s).classifier = s.classifier ∧ (bufferAvailable s).pool = s.pool
      ∧ (bufferAvailable s).posture = s.posture ∧ (bufferAvailable s).gate = s.gate
      ∧ (bufferAvailable s).link = s.link ∧ (bufferAvailable s).rail = s.rail
      ∧ (bufferAvailable s).charge = s.charge ∧ (bufferAvailable s).power = s.power
      ∧ (bufferAvailable s).mgmt = s.mgmt ∧ (bufferAvailable s).pending = s.pending := by
  simp [bufferAvailable]

@[simp] theorem releaseBuffer_frame (i : BufIdx) (s : State) :
    (releaseBuffer i s).time = s.time ∧ (releaseBuffer i s).lines = s.lines
      ∧ (releaseBuffer i s).bport = s.bport ∧ (releaseBuffer i s).lport = s.lport
      ∧ (releaseBuffer i s).pport = s.pport ∧ (releaseBuffer i s).sport = s.sport
      ∧ (releaseBuffer i s).classifier = s.classifier ∧ (releaseBuffer i s).posture = s.posture
      ∧ (releaseBuffer i s).gate = s.gate ∧ (releaseBuffer i s).link = s.link
      ∧ (releaseBuffer i s).rail = s.rail ∧ (releaseBuffer i s).charge = s.charge
      ∧ (releaseBuffer i s).power = s.power ∧ (releaseBuffer i s).mgmt = s.mgmt
      ∧ (releaseBuffer i s).pending = s.pending := by
  simp [releaseBuffer]

@[simp] theorem dequeued_frame (q : QueueId) (s : State) :
    (dequeued q s).time = s.time ∧ (dequeued q s).lines = s.lines ∧ (dequeued q s).bport = s.bport
      ∧ (dequeued q s).lport = s.lport ∧ (dequeued q s).pport = s.pport ∧ (dequeued q s).sport = s.sport
      ∧ (dequeued q s).classifier = s.classifier ∧ (dequeued q s).pool = s.pool
      ∧ (dequeued q s).posture = s.posture ∧ (dequeued q s).gate = s.gate ∧ (dequeued q s).link = s.link
      ∧ (dequeued q s).rail = s.rail ∧ (dequeued q s).charge = s.charge ∧ (dequeued q s).power = s.power
      ∧ (dequeued q s).mgmt = s.mgmt ∧ (dequeued q s).pending = s.pending := by
  cases q <;> simp only [dequeued] <;> (try split) <;> simp

@[simp] theorem placeReceived_frame (q : QueueId) (frame : List Byte) (s : State) :
    ((placeReceived q frame s).2).time = s.time ∧ ((placeReceived q frame s).2).lines = s.lines
      ∧ ((placeReceived q frame s).2).bport = s.bport ∧ ((placeReceived q frame s).2).lport = s.lport
      ∧ ((placeReceived q frame s).2).pport = s.pport ∧ ((placeReceived q frame s).2).sport = s.sport
      ∧ ((placeReceived q frame s).2).classifier = s.classifier
      ∧ ((placeReceived q frame s).2).posture = s.posture ∧ ((placeReceived q frame s).2).gate = s.gate
      ∧ ((placeReceived q frame s).2).link = s.link ∧ ((placeReceived q frame s).2).rail = s.rail
      ∧ ((placeReceived q frame s).2).charge = s.charge ∧ ((placeReceived q frame s).2).power = s.power
      ∧ ((placeReceived q frame s).2).mgmt = s.mgmt ∧ ((placeReceived q frame s).2).pending = s.pending := by
  simp only [placeReceived]; split <;> simp

@[simp] theorem placeOnQ0_frame (frame : List Byte) (s : State) :
    (placeOnQ0 frame s).time = s.time ∧ (placeOnQ0 frame s).lines = s.lines
      ∧ (placeOnQ0 frame s).bport = s.bport ∧ (placeOnQ0 frame s).lport = s.lport
      ∧ (placeOnQ0 frame s).pport = s.pport ∧ (placeOnQ0 frame s).sport = s.sport
      ∧ (placeOnQ0 frame s).classifier = s.classifier ∧ (placeOnQ0 frame s).posture = s.posture
      ∧ (placeOnQ0 frame s).gate = s.gate ∧ (placeOnQ0 frame s).link = s.link
      ∧ (placeOnQ0 frame s).rail = s.rail ∧ (placeOnQ0 frame s).charge = s.charge
      ∧ (placeOnQ0 frame s).power = s.power ∧ (placeOnQ0 frame s).mgmt = s.mgmt
      ∧ (placeOnQ0 frame s).deliveries = s.deliveries ∧ (placeOnQ0 frame s).pending = s.pending := by
  simp only [placeOnQ0]; split <;> simp

@[simp] theorem placeState_frame (s : State) :
    (placeState s).time = s.time ∧ (placeState s).lines = s.lines ∧ (placeState s).bport = s.bport
      ∧ (placeState s).lport = s.lport ∧ (placeState s).pport = s.pport ∧ (placeState s).sport = s.sport
      ∧ (placeState s).classifier = s.classifier ∧ (placeState s).posture = s.posture
      ∧ (placeState s).gate = s.gate ∧ (placeState s).link = s.link ∧ (placeState s).rail = s.rail
      ∧ (placeState s).charge = s.charge ∧ (placeState s).power = s.power
      ∧ (placeState s).deliveries = s.deliveries ∧ (placeState s).pending = s.pending
      ∧ (placeState s).mgmt.flags = s.mgmt.flags ∧ (placeState s).mgmt.enables = s.mgmt.enables
      ∧ (placeState s).mgmt.attn = s.mgmt.attn ∧ (placeState s).mgmt.lastReset = s.mgmt.lastReset
      ∧ (placeState s).mgmt.owedNotices = s.mgmt.owedNotices
      ∧ (placeState s).mgmt.owedState = s.mgmt.owedState := by
  simp [placeState]

@[simp] theorem placeNote_frame (c : EventCause) (s : State) :
    (placeNote c s).time = s.time ∧ (placeNote c s).lines = s.lines ∧ (placeNote c s).bport = s.bport
      ∧ (placeNote c s).lport = s.lport ∧ (placeNote c s).pport = s.pport ∧ (placeNote c s).sport = s.sport
      ∧ (placeNote c s).classifier = s.classifier ∧ (placeNote c s).posture = s.posture
      ∧ (placeNote c s).gate = s.gate ∧ (placeNote c s).link = s.link ∧ (placeNote c s).rail = s.rail
      ∧ (placeNote c s).charge = s.charge ∧ (placeNote c s).power = s.power
      ∧ (placeNote c s).deliveries = s.deliveries ∧ (placeNote c s).pending = s.pending
      ∧ (placeNote c s).mgmt.flags = s.mgmt.flags ∧ (placeNote c s).mgmt.enables = s.mgmt.enables
      ∧ (placeNote c s).mgmt.attn = s.mgmt.attn ∧ (placeNote c s).mgmt.lastReset = s.mgmt.lastReset
      ∧ (placeNote c s).mgmt.owedNotices = s.mgmt.owedNotices
      ∧ (placeNote c s).mgmt.owedState = s.mgmt.owedState := by
  simp [placeNote]

@[simp] theorem countOwed_frame (s : State) :
    (countOwed s).time = s.time ∧ (countOwed s).lines = s.lines ∧ (countOwed s).bport = s.bport
      ∧ (countOwed s).lport = s.lport ∧ (countOwed s).pport = s.pport ∧ (countOwed s).sport = s.sport
      ∧ (countOwed s).classifier = s.classifier ∧ (countOwed s).posture = s.posture
      ∧ (countOwed s).gate = s.gate ∧ (countOwed s).link = s.link ∧ (countOwed s).rail = s.rail
      ∧ (countOwed s).charge = s.charge ∧ (countOwed s).power = s.power ∧ (countOwed s).mgmt = s.mgmt
      ∧ (countOwed s).deliveries = s.deliveries ∧ (countOwed s).pending = s.pending := by
  simp [countOwed]

@[simp] theorem requestState_frame (s : State) :
    (requestState s).time = s.time ∧ (requestState s).lines = s.lines ∧ (requestState s).bport = s.bport
      ∧ (requestState s).lport = s.lport ∧ (requestState s).pport = s.pport
      ∧ (requestState s).sport = s.sport ∧ (requestState s).classifier = s.classifier
      ∧ (requestState s).posture = s.posture ∧ (requestState s).gate = s.gate
      ∧ (requestState s).link = s.link ∧ (requestState s).rail = s.rail ∧ (requestState s).charge = s.charge
      ∧ (requestState s).power = s.power ∧ (requestState s).deliveries = s.deliveries
      ∧ (requestState s).pending = s.pending ∧ (requestState s).mgmt.flags = s.mgmt.flags
      ∧ (requestState s).mgmt.enables = s.mgmt.enables ∧ (requestState s).mgmt.attn = s.mgmt.attn
      ∧ (requestState s).mgmt.lastReset = s.mgmt.lastReset
      ∧ (requestState s).mgmt.owedNotices = s.mgmt.owedNotices := by
  simp only [requestState]; (repeat' split) <;> simp

@[simp] theorem requestNote_frame (c : EventCause) (s : State) :
    (requestNote c s).time = s.time ∧ (requestNote c s).lines = s.lines ∧ (requestNote c s).bport = s.bport
      ∧ (requestNote c s).lport = s.lport ∧ (requestNote c s).pport = s.pport
      ∧ (requestNote c s).sport = s.sport ∧ (requestNote c s).classifier = s.classifier
      ∧ (requestNote c s).posture = s.posture ∧ (requestNote c s).gate = s.gate
      ∧ (requestNote c s).link = s.link ∧ (requestNote c s).rail = s.rail
      ∧ (requestNote c s).charge = s.charge ∧ (requestNote c s).power = s.power
      ∧ (requestNote c s).deliveries = s.deliveries ∧ (requestNote c s).pending = s.pending
      ∧ (requestNote c s).mgmt.flags = s.mgmt.flags ∧ (requestNote c s).mgmt.enables = s.mgmt.enables
      ∧ (requestNote c s).mgmt.attn = s.mgmt.attn ∧ (requestNote c s).mgmt.lastReset = s.mgmt.lastReset := by
  simp only [requestNote]; (repeat' split) <;> simp

@[simp] theorem emitNotices_frame (cs : List EventCause) (s : State) :
    (emitNotices cs s).time = s.time ∧ (emitNotices cs s).lines = s.lines
      ∧ (emitNotices cs s).bport = s.bport ∧ (emitNotices cs s).lport = s.lport
      ∧ (emitNotices cs s).pport = s.pport ∧ (emitNotices cs s).sport = s.sport
      ∧ (emitNotices cs s).classifier = s.classifier ∧ (emitNotices cs s).posture = s.posture
      ∧ (emitNotices cs s).gate = s.gate ∧ (emitNotices cs s).link = s.link
      ∧ (emitNotices cs s).rail = s.rail ∧ (emitNotices cs s).charge = s.charge
      ∧ (emitNotices cs s).power = s.power ∧ (emitNotices cs s).deliveries = s.deliveries
      ∧ (emitNotices cs s).pending = s.pending ∧ (emitNotices cs s).mgmt.flags = s.mgmt.flags
      ∧ (emitNotices cs s).mgmt.enables = s.mgmt.enables ∧ (emitNotices cs s).mgmt.attn = s.mgmt.attn
      ∧ (emitNotices cs s).mgmt.lastReset = s.mgmt.lastReset := by
  induction cs generalizing s with
  | nil => simp [emitNotices]
  | cons c cs ih => simp only [emitNotices]; (repeat' split) <;> simp [ih]

@[simp] theorem emitOwed_frame (s : State) :
    (emitOwed s).time = s.time ∧ (emitOwed s).lines = s.lines ∧ (emitOwed s).bport = s.bport
      ∧ (emitOwed s).lport = s.lport ∧ (emitOwed s).pport = s.pport ∧ (emitOwed s).sport = s.sport
      ∧ (emitOwed s).classifier = s.classifier ∧ (emitOwed s).posture = s.posture
      ∧ (emitOwed s).gate = s.gate ∧ (emitOwed s).link = s.link ∧ (emitOwed s).rail = s.rail
      ∧ (emitOwed s).charge = s.charge ∧ (emitOwed s).power = s.power
      ∧ (emitOwed s).deliveries = s.deliveries ∧ (emitOwed s).pending = s.pending
      ∧ (emitOwed s).mgmt.flags = s.mgmt.flags ∧ (emitOwed s).mgmt.enables = s.mgmt.enables
      ∧ (emitOwed s).mgmt.attn = s.mgmt.attn ∧ (emitOwed s).mgmt.lastReset = s.mgmt.lastReset := by
  simp only [emitOwed]; (repeat' split) <;> simp

@[simp] theorem reportError_frame (r : LogReason) (p : Port) (u : List Byte) (s : State) :
    (reportError r p u s).time = s.time ∧ (reportError r p u s).lines = s.lines
      ∧ (reportError r p u s).bport = s.bport ∧ (reportError r p u s).lport = s.lport
      ∧ (reportError r p u s).pport = s.pport ∧ (reportError r p u s).sport = s.sport
      ∧ (reportError r p u s).pool = s.pool ∧ (reportError r p u s).posture = s.posture
      ∧ (reportError r p u s).gate = s.gate ∧ (reportError r p u s).link = s.link
      ∧ (reportError r p u s).rail = s.rail ∧ (reportError r p u s).charge = s.charge
      ∧ (reportError r p u s).power = s.power ∧ (reportError r p u s).mgmt = s.mgmt
      ∧ (reportError r p u s).pending = s.pending := by
  simp only [reportError]; split <;> simp

@[simp] theorem sLook_frame (s : State) :
    (sLook s).time = s.time ∧ (sLook s).lines = s.lines ∧ (sLook s).bport = s.bport
      ∧ (sLook s).lport = s.lport ∧ (sLook s).pport = s.pport ∧ (sLook s).classifier = s.classifier
      ∧ (sLook s).posture = s.posture ∧ (sLook s).gate = s.gate ∧ (sLook s).link = s.link
      ∧ (sLook s).rail = s.rail ∧ (sLook s).charge = s.charge ∧ (sLook s).power = s.power
      ∧ (sLook s).mgmt = s.mgmt ∧ (sLook s).pending = s.pending := by
  simp only [sLook]; (repeat' split) <;> simp

@[simp] theorem oweSymbol_frame (y : SymbolType) (c : Chan) (s : State) :
    (oweSymbol y c s).time = s.time ∧ (oweSymbol y c s).lines = s.lines ∧ (oweSymbol y c s).lport = s.lport
      ∧ (oweSymbol y c s).pport = s.pport ∧ (oweSymbol y c s).sport = s.sport
      ∧ (oweSymbol y c s).classifier = s.classifier ∧ (oweSymbol y c s).pool = s.pool
      ∧ (oweSymbol y c s).posture = s.posture ∧ (oweSymbol y c s).gate = s.gate
      ∧ (oweSymbol y c s).link = s.link ∧ (oweSymbol y c s).rail = s.rail
      ∧ (oweSymbol y c s).charge = s.charge ∧ (oweSymbol y c s).power = s.power
      ∧ (oweSymbol y c s).mgmt = s.mgmt ∧ (oweSymbol y c s).deliveries = s.deliveries
      ∧ (oweSymbol y c s).pending = s.pending := by
  simp [oweSymbol]

@[simp] theorem requestIdent_frame (s : State) :
    (requestIdent s).time = s.time ∧ (requestIdent s).lines = s.lines ∧ (requestIdent s).lport = s.lport
      ∧ (requestIdent s).pport = s.pport ∧ (requestIdent s).sport = s.sport
      ∧ (requestIdent s).classifier = s.classifier ∧ (requestIdent s).pool = s.pool
      ∧ (requestIdent s).posture = s.posture ∧ (requestIdent s).gate = s.gate
      ∧ (requestIdent s).link = s.link ∧ (requestIdent s).rail = s.rail ∧ (requestIdent s).charge = s.charge
      ∧ (requestIdent s).power = s.power ∧ (requestIdent s).mgmt = s.mgmt
      ∧ (requestIdent s).deliveries = s.deliveries ∧ (requestIdent s).pending = s.pending := by
  simp [requestIdent]

@[simp] theorem cancelIdent_frame (s : State) :
    (cancelIdent s).time = s.time ∧ (cancelIdent s).lines = s.lines ∧ (cancelIdent s).lport = s.lport
      ∧ (cancelIdent s).pport = s.pport ∧ (cancelIdent s).sport = s.sport
      ∧ (cancelIdent s).classifier = s.classifier ∧ (cancelIdent s).pool = s.pool
      ∧ (cancelIdent s).posture = s.posture ∧ (cancelIdent s).gate = s.gate ∧ (cancelIdent s).link = s.link
      ∧ (cancelIdent s).rail = s.rail ∧ (cancelIdent s).charge = s.charge ∧ (cancelIdent s).power = s.power
      ∧ (cancelIdent s).mgmt = s.mgmt ∧ (cancelIdent s).deliveries = s.deliveries
      ∧ (cancelIdent s).pending = s.pending := by
  simp [cancelIdent]

@[simp] theorem requestGrant_frame (v : Nat) (s : State) :
    (requestGrant v s).time = s.time ∧ (requestGrant v s).lines = s.lines
      ∧ (requestGrant v s).lport = s.lport ∧ (requestGrant v s).pport = s.pport
      ∧ (requestGrant v s).sport = s.sport ∧ (requestGrant v s).classifier = s.classifier
      ∧ (requestGrant v s).pool = s.pool ∧ (requestGrant v s).posture = s.posture
      ∧ (requestGrant v s).gate = s.gate ∧ (requestGrant v s).link = s.link
      ∧ (requestGrant v s).rail = s.rail ∧ (requestGrant v s).charge = s.charge
      ∧ (requestGrant v s).power = s.power ∧ (requestGrant v s).mgmt = s.mgmt
      ∧ (requestGrant v s).deliveries = s.deliveries ∧ (requestGrant v s).pending = s.pending := by
  simp [requestGrant]

@[simp] theorem bLook_frame (s : State) :
    (bLook s).time = s.time ∧ (bLook s).lines = s.lines ∧ (bLook s).lport = s.lport
      ∧ (bLook s).pport = s.pport ∧ (bLook s).sport = s.sport ∧ (bLook s).classifier = s.classifier
      ∧ (bLook s).posture = s.posture ∧ (bLook s).gate = s.gate ∧ (bLook s).link = s.link
      ∧ (bLook s).rail = s.rail ∧ (bLook s).charge = s.charge ∧ (bLook s).power = s.power
      ∧ (bLook s).mgmt = s.mgmt ∧ (bLook s).deliveries = s.deliveries ∧ (bLook s).pending = s.pending := by
  have h : ∀ t, (((startSymbol s).or (startIdent s)).or (startGrant s)).or (startDownstream s) = some t →
      ∃ p b, t = (s.setPool p).setBport b := by
    intro t
    simp only [startSymbol, startIdent, startGrant, startDownstream, startPartOriginated, cancelIdent]
    intro h
    (repeat' split at h) <;> simp_all <;> (subst h; exact ⟨_, _, rfl⟩)
  simp only [bLook]
  split
  · cases hw : (((startSymbol s).or (startIdent s)).or (startGrant s)).or (startDownstream s) with
    | none => simp
    | some t => obtain ⟨p, b, rfl⟩ := h t hw; simp
  · simp

/-- All a look after another block's step can do: it is the transmitter's look, or nothing. -/
theorem bLookAfter_cases (s t : State) : bLookAfter s t = bLook t ∨ bLookAfter s t = t := by
  simp only [bLookAfter]; split <;> simp

/-- A step that leaves the B-port transmitter alone and completes no deferred grant gives no look. -/
theorem bLookAfter_of_same {s t : State} (hb : t.bport = s.bport)
    (hr : t.rail.grantPending = s.rail.grantPending) : bLookAfter s t = t := by
  simp [bLookAfter, bGiven, hb, hr]

@[simp] theorem bLookAfter_self (s : State) : bLookAfter s s = s := bLookAfter_of_same rfl rfl

/-- The S-port transmitter's look leaves QD alone. -/
@[simp] theorem sLook_qd (s : State) : (sLook s).pool.qd = s.pool.qd := by
  simp only [sLook]
  split
  · cases hw : s.pool.firstWaiting with
    | none => simp
    | some q =>
      have hq : q ≠ .qd := by
        intro h
        have hm : q ∈ [QueueId.q0, .q1, .q2, .q3] := List.mem_of_find?_eq_some hw
        simp [h] at hm
      cases ht : s.pool.takeHead q with
      | none => simp [ht]
      | some r =>
        have hr : r.2.qd = s.pool.qd := by
          simp only [Pool.takeHead] at ht
          split at ht
          · simp at ht
          · obtain rfl := (Option.some.inj ht).symm
            cases q <;> simp_all [Pool.setQueue]
        simp [ht, hr]
  · rfl

/-- After a step that leaves the B-port transmitter alone and completes no deferred grant, the S-port
transmitter alone looks. -/
theorem lookAfter_of_same {s t : State} (hb : t.bport = s.bport)
    (hr : t.rail.grantPending = s.rail.grantPending) : lookAfter s t = sLook t :=
  bLookAfter_of_same (by simp [hb]) (by simp [hr])

/-- A look that follows a look starts nothing more (R20). -/
@[simp] theorem bLook_bLook (s : State) : bLook (bLook s) = bLook s := by
  have busy : ∀ t, (((startSymbol s).or (startIdent s)).or (startGrant s)).or (startDownstream s) = some t →
      t.bport.sending ≠ .idle := by
    intro t
    simp only [startSymbol, startIdent, startGrant, startDownstream, startPartOriginated, cancelIdent]
    intro h
    (repeat' split at h) <;> simp_all <;> (subst h; simp)
  cases hs : s.bport.sending with
  | idle =>
    cases hw : (((startSymbol s).or (startIdent s)).or (startGrant s)).or (startDownstream s) with
    | none => simp [bLook, hs, hw]
    | some t => simp only [bLook, hs, hw, Option.getD_some]; split <;> simp_all
  | _ => simp [bLook, hs]

@[simp] theorem bLookAfter_frame (s t : State) :
    (bLookAfter s t).time = t.time ∧ (bLookAfter s t).lines = t.lines ∧ (bLookAfter s t).lport = t.lport
      ∧ (bLookAfter s t).pport = t.pport ∧ (bLookAfter s t).sport = t.sport
      ∧ (bLookAfter s t).classifier = t.classifier ∧ (bLookAfter s t).posture = t.posture
      ∧ (bLookAfter s t).gate = t.gate ∧ (bLookAfter s t).link = t.link ∧ (bLookAfter s t).rail = t.rail
      ∧ (bLookAfter s t).charge = t.charge ∧ (bLookAfter s t).power = t.power
      ∧ (bLookAfter s t).mgmt = t.mgmt ∧ (bLookAfter s t).deliveries = t.deliveries
      ∧ (bLookAfter s t).pending = t.pending := by
  rcases bLookAfter_cases s t with h | h <;> simp [h]

@[simp] theorem lookAfter_frame (s t : State) :
    (lookAfter s t).time = t.time ∧ (lookAfter s t).lines = t.lines ∧ (lookAfter s t).lport = t.lport
      ∧ (lookAfter s t).pport = t.pport ∧ (lookAfter s t).classifier = t.classifier
      ∧ (lookAfter s t).posture = t.posture ∧ (lookAfter s t).gate = t.gate ∧ (lookAfter s t).link = t.link
      ∧ (lookAfter s t).rail = t.rail ∧ (lookAfter s t).charge = t.charge ∧ (lookAfter s t).power = t.power
      ∧ (lookAfter s t).mgmt = t.mgmt ∧ (lookAfter s t).pending = t.pending := by
  simp [lookAfter]

end Sys2Proof.Machine
end

