-- ==== Sys2Proof/Laws/Blocks.lean ====
section
/-! SUPPORT. What the operations of each block leave alone. -/

namespace Sys2Proof.Machine

/-! ### Posture Engine -/

@[simp] theorem reportPosture_frame (old : PostureEngine) (s : State) :
    (reportPosture old s).time = s.time ∧ (reportPosture old s).lines = s.lines
      ∧ (reportPosture old s).bport = s.bport ∧ (reportPosture old s).lport = s.lport
      ∧ (reportPosture old s).pport = s.pport ∧ (reportPosture old s).sport = s.sport
      ∧ (reportPosture old s).classifier = s.classifier ∧ (reportPosture old s).posture = s.posture
      ∧ (reportPosture old s).gate = s.gate ∧ (reportPosture old s).link = s.link
      ∧ (reportPosture old s).rail = s.rail ∧ (reportPosture old s).charge = s.charge
      ∧ (reportPosture old s).power = s.power ∧ (reportPosture old s).pending = s.pending
      ∧ (reportPosture old s).pool = s.pool ∧ (reportPosture old s).mgmt = s.mgmt := by
  simp only [reportPosture]; (repeat' split) <;> simp

@[simp] theorem takeLidSample_frame (p : List Byte) (s : State) :
    (takeLidSample p s).time = s.time ∧ (takeLidSample p s).lines = s.lines
      ∧ (takeLidSample p s).bport = s.bport ∧ (takeLidSample p s).lport = s.lport
      ∧ (takeLidSample p s).pport = s.pport ∧ (takeLidSample p s).sport = s.sport
      ∧ (takeLidSample p s).classifier = s.classifier ∧ (takeLidSample p s).gate = s.gate
      ∧ (takeLidSample p s).link = s.link ∧ (takeLidSample p s).rail = s.rail
      ∧ (takeLidSample p s).charge = s.charge ∧ (takeLidSample p s).power = s.power
      ∧ (takeLidSample p s).pending = s.pending ∧ (takeLidSample p s).pool = s.pool
      ∧ (takeLidSample p s).mgmt = s.mgmt := by
  simp [takeLidSample]

@[simp] theorem takeBaseSample_frame (p : List Byte) (s : State) :
    (takeBaseSample p s).time = s.time ∧ (takeBaseSample p s).lines = s.lines
      ∧ (takeBaseSample p s).bport = s.bport ∧ (takeBaseSample p s).lport = s.lport
      ∧ (takeBaseSample p s).pport = s.pport ∧ (takeBaseSample p s).sport = s.sport
      ∧ (takeBaseSample p s).classifier = s.classifier ∧ (takeBaseSample p s).pool = s.pool
      ∧ (takeBaseSample p s).gate = s.gate ∧ (takeBaseSample p s).link = s.link
      ∧ (takeBaseSample p s).rail = s.rail ∧ (takeBaseSample p s).charge = s.charge
      ∧ (takeBaseSample p s).power = s.power ∧ (takeBaseSample p s).mgmt = s.mgmt
      ∧ (takeBaseSample p s).deliveries = s.deliveries ∧ (takeBaseSample p s).pending = s.pending := by
  simp [takeBaseSample]

/-! ### Input Gate -/

@[simp] theorem setKey_frame (k : KeyFilter) (s : State) :
    (setKey k s).time = s.time ∧ (setKey k s).lines = s.lines ∧ (setKey k s).bport = s.bport
      ∧ (setKey k s).lport = s.lport ∧ (setKey k s).pport = s.pport ∧ (setKey k s).sport = s.sport
      ∧ (setKey k s).classifier = s.classifier ∧ (setKey k s).pool = s.pool
      ∧ (setKey k s).posture = s.posture ∧ (setKey k s).link = s.link ∧ (setKey k s).rail = s.rail
      ∧ (setKey k s).charge = s.charge ∧ (setKey k s).power = s.power ∧ (setKey k s).mgmt = s.mgmt
      ∧ (setKey k s).deliveries = s.deliveries ∧ (setKey k s).pending = s.pending
      ∧ (setKey k s).gate = { s.gate with key := k } := by
  simp [setKey]

@[simp] theorem setPad_frame (k : PadFilter) (s : State) :
    (setPad k s).time = s.time ∧ (setPad k s).lines = s.lines ∧ (setPad k s).bport = s.bport
      ∧ (setPad k s).lport = s.lport ∧ (setPad k s).pport = s.pport ∧ (setPad k s).sport = s.sport
      ∧ (setPad k s).classifier = s.classifier ∧ (setPad k s).pool = s.pool
      ∧ (setPad k s).posture = s.posture ∧ (setPad k s).link = s.link ∧ (setPad k s).rail = s.rail
      ∧ (setPad k s).charge = s.charge ∧ (setPad k s).power = s.power ∧ (setPad k s).mgmt = s.mgmt
      ∧ (setPad k s).deliveries = s.deliveries ∧ (setPad k s).pending = s.pending
      ∧ (setPad k s).gate = { s.gate with pad := k } := by
  simp [setPad]

@[simp] theorem placeSynthetic_frame (q : HostQueue) (f : List Byte) (s : State) :
    ((placeSynthetic q f s).2).time = s.time ∧ ((placeSynthetic q f s).2).lines = s.lines
      ∧ ((placeSynthetic q f s).2).bport = s.bport ∧ ((placeSynthetic q f s).2).lport = s.lport
      ∧ ((placeSynthetic q f s).2).pport = s.pport ∧ ((placeSynthetic q f s).2).sport = s.sport
      ∧ ((placeSynthetic q f s).2).classifier = s.classifier
      ∧ ((placeSynthetic q f s).2).posture = s.posture ∧ ((placeSynthetic q f s).2).gate = s.gate
      ∧ ((placeSynthetic q f s).2).link = s.link ∧ ((placeSynthetic q f s).2).rail = s.rail
      ∧ ((placeSynthetic q f s).2).charge = s.charge ∧ ((placeSynthetic q f s).2).power = s.power
      ∧ ((placeSynthetic q f s).2).mgmt = s.mgmt ∧ ((placeSynthetic q f s).2).deliveries = s.deliveries
      ∧ ((placeSynthetic q f s).2).pending = s.pending := by
  simp only [placeSynthetic]; (repeat' split) <;> simp

@[simp] theorem makeRelease_frame (c : Chan) (q : HostQueue) (s : State) :
    (makeRelease c q s).time = s.time ∧ (makeRelease c q s).lines = s.lines
      ∧ (makeRelease c q s).bport = s.bport ∧ (makeRelease c q s).lport = s.lport
      ∧ (makeRelease c q s).pport = s.pport ∧ (makeRelease c q s).sport = s.sport
      ∧ (makeRelease c q s).classifier = s.classifier ∧ (makeRelease c q s).posture = s.posture
      ∧ (makeRelease c q s).link = s.link ∧ (makeRelease c q s).rail = s.rail
      ∧ (makeRelease c q s).charge = s.charge ∧ (makeRelease c q s).power = s.power
      ∧ (makeRelease c q s).mgmt = s.mgmt ∧ (makeRelease c q s).deliveries = s.deliveries
      ∧ (makeRelease c q s).pending = s.pending := by
  simp only [makeRelease]
  have hp := placeSynthetic_frame q (releaseFrame c) s
  generalize placeSynthetic q (releaseFrame c) s = r at hp ⊢
  obtain ⟨_ | _, u⟩ := r <;> simp_all

@[simp] theorem releaseIfForwarded_frame (s : State) :
    (releaseIfForwarded s).time = s.time ∧ (releaseIfForwarded s).lines = s.lines
      ∧ (releaseIfForwarded s).bport = s.bport ∧ (releaseIfForwarded s).lport = s.lport
      ∧ (releaseIfForwarded s).pport = s.pport ∧ (releaseIfForwarded s).sport = s.sport
      ∧ (releaseIfForwarded s).classifier = s.classifier ∧ (releaseIfForwarded s).posture = s.posture
      ∧ (releaseIfForwarded s).link = s.link ∧ (releaseIfForwarded s).rail = s.rail
      ∧ (releaseIfForwarded s).charge = s.charge ∧ (releaseIfForwarded s).power = s.power
      ∧ (releaseIfForwarded s).mgmt = s.mgmt ∧ (releaseIfForwarded s).deliveries = s.deliveries
      ∧ (releaseIfForwarded s).pending = s.pending := by
  simp only [releaseIfForwarded]; (repeat' split) <;> simp

@[simp] theorem keyClose_frame (s : State) :
    (keyClose s).time = s.time ∧ (keyClose s).lines = s.lines ∧ (keyClose s).bport = s.bport
      ∧ (keyClose s).lport = s.lport ∧ (keyClose s).pport = s.pport ∧ (keyClose s).sport = s.sport
      ∧ (keyClose s).classifier = s.classifier ∧ (keyClose s).posture = s.posture
      ∧ (keyClose s).link = s.link ∧ (keyClose s).rail = s.rail ∧ (keyClose s).charge = s.charge
      ∧ (keyClose s).power = s.power ∧ (keyClose s).mgmt = s.mgmt ∧ (keyClose s).deliveries = s.deliveries
      ∧ (keyClose s).pending = s.pending := by
  simp [keyClose]

@[simp] theorem keyOpen_frame (s : State) :
    (keyOpen s).time = s.time ∧ (keyOpen s).lines = s.lines ∧ (keyOpen s).bport = s.bport
      ∧ (keyOpen s).lport = s.lport ∧ (keyOpen s).pport = s.pport ∧ (keyOpen s).sport = s.sport
      ∧ (keyOpen s).classifier = s.classifier ∧ (keyOpen s).pool = s.pool ∧ (keyOpen s).posture = s.posture
      ∧ (keyOpen s).link = s.link ∧ (keyOpen s).rail = s.rail ∧ (keyOpen s).charge = s.charge
      ∧ (keyOpen s).power = s.power ∧ (keyOpen s).mgmt = s.mgmt ∧ (keyOpen s).deliveries = s.deliveries
      ∧ (keyOpen s).pending = s.pending := by
  simp [keyOpen]

@[simp] theorem keyToGate_frame (v : Bool) (s : State) :
    (keyToGate v s).time = s.time ∧ (keyToGate v s).lines = s.lines ∧ (keyToGate v s).bport = s.bport
      ∧ (keyToGate v s).lport = s.lport ∧ (keyToGate v s).pport = s.pport ∧ (keyToGate v s).sport = s.sport
      ∧ (keyToGate v s).classifier = s.classifier ∧ (keyToGate v s).posture = s.posture
      ∧ (keyToGate v s).link = s.link ∧ (keyToGate v s).rail = s.rail ∧ (keyToGate v s).charge = s.charge
      ∧ (keyToGate v s).power = s.power ∧ (keyToGate v s).mgmt = s.mgmt
      ∧ (keyToGate v s).deliveries = s.deliveries ∧ (keyToGate v s).pending = s.pending := by
  simp only [keyToGate]; (repeat' split) <;> simp

@[simp] theorem keyForward_frame (f : Frame) (q : HostQueue) (s : State) :
    ((keyForward f q s).2).time = s.time ∧ ((keyForward f q s).2).lines = s.lines
      ∧ ((keyForward f q s).2).bport = s.bport ∧ ((keyForward f q s).2).lport = s.lport
      ∧ ((keyForward f q s).2).pport = s.pport ∧ ((keyForward f q s).2).sport = s.sport
      ∧ ((keyForward f q s).2).classifier = s.classifier ∧ ((keyForward f q s).2).posture = s.posture
      ∧ ((keyForward f q s).2).link = s.link ∧ ((keyForward f q s).2).rail = s.rail
      ∧ ((keyForward f q s).2).charge = s.charge ∧ ((keyForward f q s).2).power = s.power
      ∧ ((keyForward f q s).2).mgmt = s.mgmt ∧ ((keyForward f q s).2).pending = s.pending := by
  simp only [keyForward]
  split
  · simp
  · have hp := placeReceived_frame q.id (buildFrame f.kind f.channel f.dest f.toggle s.gate.key.visible) s
    generalize placeReceived q.id _ s = r at hp ⊢
    obtain ⟨_ | _, u⟩ := r <;> simp_all

theorem keyBind_frame (c : Chan) (g : GateClass) (q : HostQueue) (s t : State) (h : keyBind c g q s = some t) :
    ∃ p k, t = (s.setPool p).setGate k := by
  have hk : ∀ v (u : State), ∃ p k, keyToGate v u = (u.setPool p).setGate k := by
    intro v u
    refine ⟨(keyToGate v u).pool, (keyToGate v u).gate, ?_⟩
    apply State.ext_fields <;> simp
  simp only [keyBind] at h
  (repeat' split at h) <;> simp at h <;> subst h
  · exact ⟨s.pool, _, rfl⟩
  · exact ⟨s.pool, _, rfl⟩
  · obtain ⟨p, k, e⟩ := hk (gateOf s.gate.gates g) (setKey { s.gate.key with queue := q, cls := g } s)
    exact ⟨p, k, by rw [e]; rfl⟩

@[simp] theorem keyFilterFrame_frame (f : Frame) (d : GatedDecision) (s : State) :
    ((keyFilterFrame f d s).2).time = s.time ∧ ((keyFilterFrame f d s).2).lines = s.lines
      ∧ ((keyFilterFrame f d s).2).bport = s.bport ∧ ((keyFilterFrame f d s).2).lport = s.lport
      ∧ ((keyFilterFrame f d s).2).pport = s.pport ∧ ((keyFilterFrame f d s).2).sport = s.sport
      ∧ ((keyFilterFrame f d s).2).classifier = s.classifier
      ∧ ((keyFilterFrame f d s).2).posture = s.posture ∧ ((keyFilterFrame f d s).2).link = s.link
      ∧ ((keyFilterFrame f d s).2).rail = s.rail ∧ ((keyFilterFrame f d s).2).charge = s.charge
      ∧ ((keyFilterFrame f d s).2).power = s.power ∧ ((keyFilterFrame f d s).2).mgmt = s.mgmt
      ∧ ((keyFilterFrame f d s).2).pending = s.pending := by
  simp only [keyFilterFrame]
  cases h : keyBind f.channel d.gate d.queue s with
  | none => simp
  | some t =>
    obtain ⟨p, k, rfl⟩ := keyBind_frame _ _ _ _ _ h
    simp only
    split <;> simp

@[simp] theorem retryRelease_frame (s : State) :
    (retryRelease s).time = s.time ∧ (retryRelease s).lines = s.lines ∧ (retryRelease s).bport = s.bport
      ∧ (retryRelease s).lport = s.lport ∧ (retryRelease s).pport = s.pport
      ∧ (retryRelease s).sport = s.sport ∧ (retryRelease s).classifier = s.classifier
      ∧ (retryRelease s).posture = s.posture ∧ (retryRelease s).link = s.link
      ∧ (retryRelease s).rail = s.rail ∧ (retryRelease s).charge = s.charge
      ∧ (retryRelease s).power = s.power ∧ (retryRelease s).mgmt = s.mgmt
      ∧ (retryRelease s).deliveries = s.deliveries ∧ (retryRelease s).pending = s.pending := by
  simp only [retryRelease]
  split
  · simp
  · rename_i w _
    have hp := placeSynthetic_frame w.queue (releaseFrame w.channel) s
    generalize placeSynthetic w.queue _ s = r at hp ⊢
    obtain ⟨_ | _, u⟩ := r <;> simp_all

@[simp] theorem keyTeardown_frame (s : State) :
    (keyTeardown s).time = s.time ∧ (keyTeardown s).lines = s.lines ∧ (keyTeardown s).bport = s.bport
      ∧ (keyTeardown s).lport = s.lport ∧ (keyTeardown s).pport = s.pport ∧ (keyTeardown s).sport = s.sport
      ∧ (keyTeardown s).classifier = s.classifier ∧ (keyTeardown s).posture = s.posture
      ∧ (keyTeardown s).link = s.link ∧ (keyTeardown s).rail = s.rail ∧ (keyTeardown s).charge = s.charge
      ∧ (keyTeardown s).power = s.power ∧ (keyTeardown s).mgmt = s.mgmt
      ∧ (keyTeardown s).deliveries = s.deliveries ∧ (keyTeardown s).pending = s.pending := by
  simp [keyTeardown]

@[simp] theorem liftIfContacts_frame (s : State) :
    (liftIfContacts s).time = s.time ∧ (liftIfContacts s).lines = s.lines
      ∧ (liftIfContacts s).bport = s.bport ∧ (liftIfContacts s).lport = s.lport
      ∧ (liftIfContacts s).pport = s.pport ∧ (liftIfContacts s).sport = s.sport
      ∧ (liftIfContacts s).classifier = s.classifier ∧ (liftIfContacts s).posture = s.posture
      ∧ (liftIfContacts s).link = s.link ∧ (liftIfContacts s).rail = s.rail
      ∧ (liftIfContacts s).charge = s.charge ∧ (liftIfContacts s).power = s.power
      ∧ (liftIfContacts s).mgmt = s.mgmt ∧ (liftIfContacts s).deliveries = s.deliveries
      ∧ (liftIfContacts s).pending = s.pending := by
  simp only [liftIfContacts]
  split
  · have hp := placeSynthetic_frame s.gate.pad.queue (liftFrame s.gate.pad.channel) s
    generalize placeSynthetic _ _ s = r at hp ⊢
    obtain ⟨_ | _, u⟩ := r <;> simp_all
  · simp

@[simp] theorem padClose_frame (s : State) :
    (padClose s).time = s.time ∧ (padClose s).lines = s.lines ∧ (padClose s).bport = s.bport
      ∧ (padClose s).lport = s.lport ∧ (padClose s).pport = s.pport ∧ (padClose s).sport = s.sport
      ∧ (padClose s).classifier = s.classifier ∧ (padClose s).posture = s.posture
      ∧ (padClose s).link = s.link ∧ (padClose s).rail = s.rail ∧ (padClose s).charge = s.charge
      ∧ (padClose s).power = s.power ∧ (padClose s).mgmt = s.mgmt ∧ (padClose s).deliveries = s.deliveries
      ∧ (padClose s).pending = s.pending := by
  simp [padClose]

@[simp] theorem padOpen_frame (s : State) :
    (padOpen s).time = s.time ∧ (padOpen s).lines = s.lines ∧ (padOpen s).bport = s.bport
      ∧ (padOpen s).lport = s.lport ∧ (padOpen s).pport = s.pport ∧ (padOpen s).sport = s.sport
      ∧ (padOpen s).classifier = s.classifier ∧ (padOpen s).pool = s.pool ∧ (padOpen s).posture = s.posture
      ∧ (padOpen s).link = s.link ∧ (padOpen s).rail = s.rail ∧ (padOpen s).charge = s.charge
      ∧ (padOpen s).power = s.power ∧ (padOpen s).mgmt = s.mgmt ∧ (padOpen s).deliveries = s.deliveries
      ∧ (padOpen s).pending = s.pending := by
  simp [padOpen]

@[simp] theorem padToGate_frame (v : Bool) (s : State) :
    (padToGate v s).time = s.time ∧ (padToGate v s).lines = s.lines ∧ (padToGate v s).bport = s.bport
      ∧ (padToGate v s).lport = s.lport ∧ (padToGate v s).pport = s.pport ∧ (padToGate v s).sport = s.sport
      ∧ (padToGate v s).classifier = s.classifier ∧ (padToGate v s).posture = s.posture
      ∧ (padToGate v s).link = s.link ∧ (padToGate v s).rail = s.rail ∧ (padToGate v s).charge = s.charge
      ∧ (padToGate v s).power = s.power ∧ (padToGate v s).mgmt = s.mgmt
      ∧ (padToGate v s).deliveries = s.deliveries ∧ (padToGate v s).pending = s.pending := by
  simp only [padToGate]; (repeat' split) <;> simp

@[simp] theorem padFollow_frame (c : Chan) (g : GateClass) (q : HostQueue) (s : State) :
    (padFollow c g q s).time = s.time ∧ (padFollow c g q s).lines = s.lines
      ∧ (padFollow c g q s).bport = s.bport ∧ (padFollow c g q s).lport = s.lport
      ∧ (padFollow c g q s).pport = s.pport ∧ (padFollow c g q s).sport = s.sport
      ∧ (padFollow c g q s).classifier = s.classifier ∧ (padFollow c g q s).posture = s.posture
      ∧ (padFollow c g q s).link = s.link ∧ (padFollow c g q s).rail = s.rail
      ∧ (padFollow c g q s).charge = s.charge ∧ (padFollow c g q s).power = s.power
      ∧ (padFollow c g q s).mgmt = s.mgmt ∧ (padFollow c g q s).deliveries = s.deliveries
      ∧ (padFollow c g q s).pending = s.pending := by
  simp only [padFollow]; (repeat' split) <;> simp

@[simp] theorem padForward_frame (f : Frame) (q : HostQueue) (s : State) :
    ((padForward f q s).2).time = s.time ∧ ((padForward f q s).2).lines = s.lines
      ∧ ((padForward f q s).2).bport = s.bport ∧ ((padForward f q s).2).lport = s.lport
      ∧ ((padForward f q s).2).pport = s.pport ∧ ((padForward f q s).2).sport = s.sport
      ∧ ((padForward f q s).2).classifier = s.classifier ∧ ((padForward f q s).2).posture = s.posture
      ∧ ((padForward f q s).2).link = s.link ∧ ((padForward f q s).2).rail = s.rail
      ∧ ((padForward f q s).2).charge = s.charge ∧ ((padForward f q s).2).power = s.power
      ∧ ((padForward f q s).2).mgmt = s.mgmt ∧ ((padForward f q s).2).pending = s.pending := by
  simp only [padForward]
  have hp := placeReceived_frame q.id f.raw s
  generalize placeReceived q.id f.raw s = r at hp ⊢
  obtain ⟨_ | _, u⟩ := r <;> simp_all

@[simp] theorem padFilterFrame_frame (f : Frame) (d : GatedDecision) (s : State) :
    ((padFilterFrame f d s).2).time = s.time ∧ ((padFilterFrame f d s).2).lines = s.lines
      ∧ ((padFilterFrame f d s).2).bport = s.bport ∧ ((padFilterFrame f d s).2).lport = s.lport
      ∧ ((padFilterFrame f d s).2).pport = s.pport ∧ ((padFilterFrame f d s).2).sport = s.sport
      ∧ ((padFilterFrame f d s).2).classifier = s.classifier
      ∧ ((padFilterFrame f d s).2).posture = s.posture ∧ ((padFilterFrame f d s).2).link = s.link
      ∧ ((padFilterFrame f d s).2).rail = s.rail ∧ ((padFilterFrame f d s).2).charge = s.charge
      ∧ ((padFilterFrame f d s).2).power = s.power ∧ ((padFilterFrame f d s).2).mgmt = s.mgmt
      ∧ ((padFilterFrame f d s).2).pending = s.pending := by
  simp only [padFilterFrame]; (repeat' split) <;> simp

@[simp] theorem retryLift_frame (s : State) :
    (retryLift s).time = s.time ∧ (retryLift s).lines = s.lines ∧ (retryLift s).bport = s.bport
      ∧ (retryLift s).lport = s.lport ∧ (retryLift s).pport = s.pport ∧ (retryLift s).sport = s.sport
      ∧ (retryLift s).classifier = s.classifier ∧ (retryLift s).posture = s.posture
      ∧ (retryLift s).link = s.link ∧ (retryLift s).rail = s.rail ∧ (retryLift s).charge = s.charge
      ∧ (retryLift s).power = s.power ∧ (retryLift s).mgmt = s.mgmt
      ∧ (retryLift s).deliveries = s.deliveries ∧ (retryLift s).pending = s.pending := by
  simp only [retryLift]
  split
  · simp
  · rename_i w _
    have hp := placeSynthetic_frame w.queue (liftFrame w.channel) s
    generalize placeSynthetic w.queue _ s = r at hp ⊢
    obtain ⟨_ | _, u⟩ := r <;> simp_all

@[simp] theorem padTeardown_frame (s : State) :
    (padTeardown s).time = s.time ∧ (padTeardown s).lines = s.lines ∧ (padTeardown s).bport = s.bport
      ∧ (padTeardown s).lport = s.lport ∧ (padTeardown s).pport = s.pport ∧ (padTeardown s).sport = s.sport
      ∧ (padTeardown s).classifier = s.classifier ∧ (padTeardown s).posture = s.posture
      ∧ (padTeardown s).link = s.link ∧ (padTeardown s).rail = s.rail ∧ (padTeardown s).charge = s.charge
      ∧ (padTeardown s).power = s.power ∧ (padTeardown s).mgmt = s.mgmt
      ∧ (padTeardown s).deliveries = s.deliveries ∧ (padTeardown s).pending = s.pending := by
  simp [padTeardown]

@[simp] theorem updateGates_frame (m : BitVec 8) (b : Bool) (s : State) :
    (updateGates m b s).time = s.time ∧ (updateGates m b s).lines = s.lines
      ∧ (updateGates m b s).bport = s.bport ∧ (updateGates m b s).lport = s.lport
      ∧ (updateGates m b s).pport = s.pport ∧ (updateGates m b s).sport = s.sport
      ∧ (updateGates m b s).classifier = s.classifier ∧ (updateGates m b s).posture = s.posture
      ∧ (updateGates m b s).link = s.link ∧ (updateGates m b s).rail = s.rail
      ∧ (updateGates m b s).charge = s.charge ∧ (updateGates m b s).power = s.power
      ∧ (updateGates m b s).mgmt = s.mgmt ∧ (updateGates m b s).deliveries = s.deliveries
      ∧ (updateGates m b s).pending = s.pending := by
  simp only [updateGates, inOrder]; (repeat' split) <;> simp

@[simp] theorem gateTeardown_frame (b : Bool) (s : State) :
    (gateTeardown b s).time = s.time ∧ (gateTeardown b s).lines = s.lines
      ∧ (gateTeardown b s).bport = s.bport ∧ (gateTeardown b s).lport = s.lport
      ∧ (gateTeardown b s).pport = s.pport ∧ (gateTeardown b s).sport = s.sport
      ∧ (gateTeardown b s).classifier = s.classifier ∧ (gateTeardown b s).posture = s.posture
      ∧ (gateTeardown b s).link = s.link ∧ (gateTeardown b s).rail = s.rail
      ∧ (gateTeardown b s).charge = s.charge ∧ (gateTeardown b s).power = s.power
      ∧ (gateTeardown b s).mgmt = s.mgmt ∧ (gateTeardown b s).deliveries = s.deliveries
      ∧ (gateTeardown b s).pending = s.pending := by
  simp only [gateTeardown, inOrder]; (repeat' split) <;> simp

/-! ### Rail Allocator -/

@[simp] theorem recomputeCap_frame (s : State) :
    (recomputeCap s).time = s.time ∧ (recomputeCap s).lines = s.lines ∧ (recomputeCap s).bport = s.bport
      ∧ (recomputeCap s).lport = s.lport ∧ (recomputeCap s).pport = s.pport
      ∧ (recomputeCap s).sport = s.sport ∧ (recomputeCap s).classifier = s.classifier
      ∧ (recomputeCap s).pool = s.pool ∧ (recomputeCap s).posture = s.posture
      ∧ (recomputeCap s).gate = s.gate ∧ (recomputeCap s).link = s.link ∧ (recomputeCap s).charge = s.charge
      ∧ (recomputeCap s).power = s.power ∧ (recomputeCap s).mgmt = s.mgmt
      ∧ (recomputeCap s).pending = s.pending := by
  simp only [recomputeCap]; (repeat' split) <;> simp

@[simp] theorem completeGrant_frame (s : State) :
    (completeGrant s).time = s.time ∧ (completeGrant s).lines = s.lines ∧ (completeGrant s).lport = s.lport
      ∧ (completeGrant s).pport = s.pport ∧ (completeGrant s).sport = s.sport
      ∧ (completeGrant s).classifier = s.classifier ∧ (completeGrant s).pool = s.pool
      ∧ (completeGrant s).posture = s.posture ∧ (completeGrant s).gate = s.gate
      ∧ (completeGrant s).link = s.link ∧ (completeGrant s).charge = s.charge
      ∧ (completeGrant s).power = s.power ∧ (completeGrant s).mgmt = s.mgmt
      ∧ (completeGrant s).deliveries = s.deliveries ∧ (completeGrant s).pending = s.pending := by
  simp only [completeGrant]; (repeat' split) <;> simp

@[simp] theorem completeBudget_frame (s : State) :
    (completeBudget s).time = s.time ∧ (completeBudget s).lines = s.lines
      ∧ (completeBudget s).bport = s.bport ∧ (completeBudget s).lport = s.lport
      ∧ (completeBudget s).pport = s.pport ∧ (completeBudget s).sport = s.sport
      ∧ (completeBudget s).classifier = s.classifier ∧ (completeBudget s).pool = s.pool
      ∧ (completeBudget s).posture = s.posture ∧ (completeBudget s).gate = s.gate
      ∧ (completeBudget s).link = s.link ∧ (completeBudget s).charge = s.charge
      ∧ (completeBudget s).power = s.power ∧ (completeBudget s).mgmt = s.mgmt
      ∧ (completeBudget s).deliveries = s.deliveries ∧ (completeBudget s).pending = s.pending := by
  simp only [completeBudget]; (repeat' split) <;> simp

@[simp] theorem completionTests_frame (s : State) :
    (completionTests s).time = s.time ∧ (completionTests s).lines = s.lines
      ∧ (completionTests s).lport = s.lport ∧ (completionTests s).pport = s.pport
      ∧ (completionTests s).sport = s.sport ∧ (completionTests s).classifier = s.classifier
      ∧ (completionTests s).pool = s.pool ∧ (completionTests s).posture = s.posture
      ∧ (completionTests s).gate = s.gate ∧ (completionTests s).link = s.link
      ∧ (completionTests s).charge = s.charge ∧ (completionTests s).power = s.power
      ∧ (completionTests s).mgmt = s.mgmt ∧ (completionTests s).pending = s.pending := by
  simp only [completionTests]; (repeat' split) <;> simp

@[simp] theorem levelRequest_frame (l : Level) (s : State) :
    ((levelRequest l s).2).time = s.time ∧ ((levelRequest l s).2).lines = s.lines
      ∧ ((levelRequest l s).2).lport = s.lport ∧ ((levelRequest l s).2).pport = s.pport
      ∧ ((levelRequest l s).2).sport = s.sport ∧ ((levelRequest l s).2).classifier = s.classifier
      ∧ ((levelRequest l s).2).pool = s.pool ∧ ((levelRequest l s).2).posture = s.posture
      ∧ ((levelRequest l s).2).gate = s.gate ∧ ((levelRequest l s).2).link = s.link
      ∧ ((levelRequest l s).2).charge = s.charge ∧ ((levelRequest l s).2).power = s.power
      ∧ ((levelRequest l s).2).mgmt = s.mgmt ∧ ((levelRequest l s).2).pending = s.pending := by
  simp [levelRequest]

@[simp] theorem swapReport_frame (s : State) :
    (swapReport s).time = s.time ∧ (swapReport s).lines = s.lines ∧ (swapReport s).lport = s.lport
      ∧ (swapReport s).pport = s.pport ∧ (swapReport s).sport = s.sport
      ∧ (swapReport s).classifier = s.classifier ∧ (swapReport s).pool = s.pool
      ∧ (swapReport s).posture = s.posture ∧ (swapReport s).gate = s.gate ∧ (swapReport s).link = s.link
      ∧ (swapReport s).charge = s.charge ∧ (swapReport s).power = s.power ∧ (swapReport s).mgmt = s.mgmt
      ∧ (swapReport s).pending = s.pending := by
  simp [swapReport]

@[simp] theorem stopReport_frame (s : State) :
    (stopReport s).time = s.time ∧ (stopReport s).lines = s.lines ∧ (stopReport s).lport = s.lport
      ∧ (stopReport s).pport = s.pport ∧ (stopReport s).sport = s.sport
      ∧ (stopReport s).classifier = s.classifier ∧ (stopReport s).pool = s.pool
      ∧ (stopReport s).posture = s.posture ∧ (stopReport s).gate = s.gate ∧ (stopReport s).link = s.link
      ∧ (stopReport s).charge = s.charge ∧ (stopReport s).power = s.power ∧ (stopReport s).mgmt = s.mgmt
      ∧ (stopReport s).pending = s.pending := by
  simp [stopReport]

@[simp] theorem putGrant_frame (g : Nat) (s : State) :
    (putGrant g s).time = s.time ∧ (putGrant g s).lines = s.lines ∧ (putGrant g s).lport = s.lport
      ∧ (putGrant g s).pport = s.pport ∧ (putGrant g s).sport = s.sport
      ∧ (putGrant g s).classifier = s.classifier ∧ (putGrant g s).pool = s.pool
      ∧ (putGrant g s).posture = s.posture ∧ (putGrant g s).gate = s.gate ∧ (putGrant g s).link = s.link
      ∧ (putGrant g s).charge = s.charge ∧ (putGrant g s).power = s.power ∧ (putGrant g s).mgmt = s.mgmt
      ∧ (putGrant g s).deliveries = s.deliveries ∧ (putGrant g s).pending = s.pending := by
  simp only [putGrant]; (repeat' split) <;> simp

@[simp] theorem noteLimited_frame (g : Nat) (s : State) :
    (noteLimited g s).time = s.time ∧ (noteLimited g s).lines = s.lines ∧ (noteLimited g s).bport = s.bport
      ∧ (noteLimited g s).lport = s.lport ∧ (noteLimited g s).pport = s.pport
      ∧ (noteLimited g s).sport = s.sport ∧ (noteLimited g s).classifier = s.classifier
      ∧ (noteLimited g s).pool = s.pool ∧ (noteLimited g s).posture = s.posture
      ∧ (noteLimited g s).gate = s.gate ∧ (noteLimited g s).link = s.link
      ∧ (noteLimited g s).charge = s.charge ∧ (noteLimited g s).power = s.power
      ∧ (noteLimited g s).mgmt = s.mgmt ∧ (noteLimited g s).pending = s.pending := by
  simp only [noteLimited]; (repeat' split) <;> simp

@[simp] theorem admitLoad_frame (s : State) :
    (admitLoad s).time = s.time ∧ (admitLoad s).lines = s.lines ∧ (admitLoad s).lport = s.lport
      ∧ (admitLoad s).pport = s.pport ∧ (admitLoad s).sport = s.sport
      ∧ (admitLoad s).classifier = s.classifier ∧ (admitLoad s).pool = s.pool
      ∧ (admitLoad s).posture = s.posture ∧ (admitLoad s).gate = s.gate ∧ (admitLoad s).link = s.link
      ∧ (admitLoad s).charge = s.charge ∧ (admitLoad s).power = s.power ∧ (admitLoad s).mgmt = s.mgmt
      ∧ (admitLoad s).pending = s.pending := by
  simp [admitLoad]

@[simp] theorem releaseLoad_frame (s : State) :
    (releaseLoad s).time = s.time ∧ (releaseLoad s).lines = s.lines ∧ (releaseLoad s).bport = s.bport
      ∧ (releaseLoad s).lport = s.lport ∧ (releaseLoad s).pport = s.pport ∧ (releaseLoad s).sport = s.sport
      ∧ (releaseLoad s).classifier = s.classifier ∧ (releaseLoad s).pool = s.pool
      ∧ (releaseLoad s).posture = s.posture ∧ (releaseLoad s).gate = s.gate ∧ (releaseLoad s).link = s.link
      ∧ (releaseLoad s).charge = s.charge ∧ (releaseLoad s).power = s.power ∧ (releaseLoad s).mgmt = s.mgmt
      ∧ (releaseLoad s).pending = s.pending := by
  simp [releaseLoad]

@[simp] theorem newBudget_frame (v : Nat) (s : State) :
    ((newBudget v s).2).time = s.time ∧ ((newBudget v s).2).lines = s.lines
      ∧ ((newBudget v s).2).bport = s.bport ∧ ((newBudget v s).2).lport = s.lport
      ∧ ((newBudget v s).2).pport = s.pport ∧ ((newBudget v s).2).sport = s.sport
      ∧ ((newBudget v s).2).classifier = s.classifier ∧ ((newBudget v s).2).pool = s.pool
      ∧ ((newBudget v s).2).posture = s.posture ∧ ((newBudget v s).2).gate = s.gate
      ∧ ((newBudget v s).2).link = s.link ∧ ((newBudget v s).2).charge = s.charge
      ∧ ((newBudget v s).2).power = s.power ∧ ((newBudget v s).2).mgmt = s.mgmt
      ∧ ((newBudget v s).2).pending = s.pending := by
  simp only [newBudget]; (repeat' split) <;> simp

/-! ### Charge Controller -/

@[simp] theorem setCoil_frame (k : Coil) (s : State) :
    (setCoil k s).time = s.time ∧ (setCoil k s).lines = s.lines ∧ (setCoil k s).bport = s.bport
      ∧ (setCoil k s).lport = s.lport ∧ (setCoil k s).sport = s.sport
      ∧ (setCoil k s).classifier = s.classifier ∧ (setCoil k s).pool = s.pool
      ∧ (setCoil k s).posture = s.posture ∧ (setCoil k s).gate = s.gate ∧ (setCoil k s).link = s.link
      ∧ (setCoil k s).rail = s.rail ∧ (setCoil k s).charge = s.charge ∧ (setCoil k s).power = s.power
      ∧ (setCoil k s).mgmt = s.mgmt ∧ (setCoil k s).deliveries = s.deliveries
      ∧ (setCoil k s).pending = s.pending ∧ (setCoil k s).pport = { s.pport with coil := k } := by
  simp [setCoil]

@[simp] theorem startCoil_frame (l : Level) (s : State) :
    ((startCoil l s).2).time = s.time ∧ ((startCoil l s).2).lines = s.lines
      ∧ ((startCoil l s).2).lport = s.lport ∧ ((startCoil l s).2).sport = s.sport
      ∧ ((startCoil l s).2).classifier = s.classifier ∧ ((startCoil l s).2).pool = s.pool
      ∧ ((startCoil l s).2).posture = s.posture ∧ ((startCoil l s).2).gate = s.gate
      ∧ ((startCoil l s).2).link = s.link ∧ ((startCoil l s).2).charge = s.charge
      ∧ ((startCoil l s).2).power = s.power ∧ ((startCoil l s).2).mgmt = s.mgmt
      ∧ ((startCoil l s).2).pending = s.pending := by
  simp only [startCoil]; (repeat' split) <;> simp

@[simp] theorem stopCoil_frame (s : State) :
    (stopCoil s).time = s.time ∧ (stopCoil s).lines = s.lines ∧ (stopCoil s).lport = s.lport
      ∧ (stopCoil s).sport = s.sport ∧ (stopCoil s).classifier = s.classifier ∧ (stopCoil s).pool = s.pool
      ∧ (stopCoil s).posture = s.posture ∧ (stopCoil s).gate = s.gate ∧ (stopCoil s).link = s.link
      ∧ (stopCoil s).charge = s.charge ∧ (stopCoil s).power = s.power ∧ (stopCoil s).mgmt = s.mgmt
      ∧ (stopCoil s).pending = s.pending := by
  simp only [stopCoil]; (repeat' split) <;> simp

@[simp] theorem endPeriod_frame (s : State) :
    (endPeriod s).time = s.time ∧ (endPeriod s).lines = s.lines ∧ (endPeriod s).lport = s.lport
      ∧ (endPeriod s).sport = s.sport ∧ (endPeriod s).classifier = s.classifier
      ∧ (endPeriod s).pool = s.pool ∧ (endPeriod s).posture = s.posture ∧ (endPeriod s).gate = s.gate
      ∧ (endPeriod s).link = s.link ∧ (endPeriod s).charge = s.charge ∧ (endPeriod s).power = s.power
      ∧ (endPeriod s).mgmt = s.mgmt ∧ (endPeriod s).pending = s.pending := by
  simp only [endPeriod]; (repeat' split) <;> simp

@[simp] theorem enterSession_frame (x : Session) (t : ChargeTimers) (s : State) :
    (enterSession x t s).time = s.time ∧ (enterSession x t s).lines = s.lines
      ∧ (enterSession x t s).bport = s.bport ∧ (enterSession x t s).lport = s.lport
      ∧ (enterSession x t s).pport = s.pport ∧ (enterSession x t s).sport = s.sport
      ∧ (enterSession x t s).classifier = s.classifier ∧ (enterSession x t s).pool = s.pool
      ∧ (enterSession x t s).posture = s.posture ∧ (enterSession x t s).gate = s.gate
      ∧ (enterSession x t s).link = s.link ∧ (enterSession x t s).rail = s.rail
      ∧ (enterSession x t s).power = s.power ∧ (enterSession x t s).mgmt = s.mgmt
      ∧ (enterSession x t s).deliveries = s.deliveries ∧ (enterSession x t s).pending = s.pending := by
  simp [enterSession]

@[simp] theorem countCharge_frame (f : ChargeCounters → ChargeCounters) (s : State) :
    (countCharge f s).time = s.time ∧ (countCharge f s).lines = s.lines ∧ (countCharge f s).bport = s.bport
      ∧ (countCharge f s).lport = s.lport ∧ (countCharge f s).pport = s.pport
      ∧ (countCharge f s).sport = s.sport ∧ (countCharge f s).classifier = s.classifier
      ∧ (countCharge f s).pool = s.pool ∧ (countCharge f s).posture = s.posture
      ∧ (countCharge f s).gate = s.gate ∧ (countCharge f s).link = s.link ∧ (countCharge f s).rail = s.rail
      ∧ (countCharge f s).power = s.power ∧ (countCharge f s).mgmt = s.mgmt
      ∧ (countCharge f s).deliveries = s.deliveries ∧ (countCharge f s).pending = s.pending := by
  simp [countCharge]

@[simp] theorem countStarved_frame (s : State) :
    (countStarved s).time = s.time ∧ (countStarved s).lines = s.lines ∧ (countStarved s).bport = s.bport
      ∧ (countStarved s).lport = s.lport ∧ (countStarved s).pport = s.pport
      ∧ (countStarved s).sport = s.sport ∧ (countStarved s).classifier = s.classifier
      ∧ (countStarved s).pool = s.pool ∧ (countStarved s).posture = s.posture
      ∧ (countStarved s).gate = s.gate ∧ (countStarved s).link = s.link ∧ (countStarved s).rail = s.rail
      ∧ (countStarved s).power = s.power ∧ (countStarved s).mgmt = s.mgmt
      ∧ (countStarved s).deliveries = s.deliveries ∧ (countStarved s).pending = s.pending := by
  simp [countStarved]

@[simp] theorem enterScan_frame (s : State) :
    (enterScan s).time = s.time ∧ (enterScan s).lines = s.lines ∧ (enterScan s).bport = s.bport
      ∧ (enterScan s).lport = s.lport ∧ (enterScan s).pport = s.pport ∧ (enterScan s).sport = s.sport
      ∧ (enterScan s).classifier = s.classifier ∧ (enterScan s).pool = s.pool
      ∧ (enterScan s).posture = s.posture ∧ (enterScan s).gate = s.gate ∧ (enterScan s).link = s.link
      ∧ (enterScan s).rail = s.rail ∧ (enterScan s).power = s.power ∧ (enterScan s).mgmt = s.mgmt
      ∧ (enterScan s).deliveries = s.deliveries ∧ (enterScan s).pending = s.pending := by
  simp [enterScan]

@[simp] theorem enterHold_frame (s : State) :
    (enterHold s).time = s.time ∧ (enterHold s).lines = s.lines ∧ (enterHold s).lport = s.lport
      ∧ (enterHold s).sport = s.sport ∧ (enterHold s).classifier = s.classifier
      ∧ (enterHold s).pool = s.pool ∧ (enterHold s).posture = s.posture ∧ (enterHold s).gate = s.gate
      ∧ (enterHold s).link = s.link ∧ (enterHold s).power = s.power ∧ (enterHold s).mgmt = s.mgmt
      ∧ (enterHold s).pending = s.pending := by
  simp [enterHold]

@[simp] theorem enterProbe_frame (s : State) :
    (enterProbe s).time = s.time ∧ (enterProbe s).lines = s.lines ∧ (enterProbe s).bport = s.bport
      ∧ (enterProbe s).lport = s.lport ∧ (enterProbe s).pport = s.pport ∧ (enterProbe s).sport = s.sport
      ∧ (enterProbe s).classifier = s.classifier ∧ (enterProbe s).pool = s.pool
      ∧ (enterProbe s).posture = s.posture ∧ (enterProbe s).gate = s.gate ∧ (enterProbe s).link = s.link
      ∧ (enterProbe s).rail = s.rail ∧ (enterProbe s).power = s.power ∧ (enterProbe s).mgmt = s.mgmt
      ∧ (enterProbe s).deliveries = s.deliveries ∧ (enterProbe s).pending = s.pending := by
  simp [enterProbe]

@[simp] theorem restartTopUp_frame (s : State) :
    (restartTopUp s).time = s.time ∧ (restartTopUp s).lines = s.lines ∧ (restartTopUp s).bport = s.bport
      ∧ (restartTopUp s).lport = s.lport ∧ (restartTopUp s).pport = s.pport
      ∧ (restartTopUp s).sport = s.sport ∧ (restartTopUp s).classifier = s.classifier
      ∧ (restartTopUp s).pool = s.pool ∧ (restartTopUp s).posture = s.posture
      ∧ (restartTopUp s).gate = s.gate ∧ (restartTopUp s).link = s.link ∧ (restartTopUp s).rail = s.rail
      ∧ (restartTopUp s).power = s.power ∧ (restartTopUp s).mgmt = s.mgmt
      ∧ (restartTopUp s).deliveries = s.deliveries ∧ (restartTopUp s).pending = s.pending := by
  simp [restartTopUp]

/-- All a probe's start can do, where what follows it writes the charge record alone. -/
theorem startProbe_shape (g f : State → State) (s : State) (hg : ∀ u, ∃ c, g u = u.setCharge c)
    (hf : ∀ u, ∃ c, f u = u.setCharge c) :
    ∃ c k r b d, startProbe g f s = ((((s.setCharge c).setPport k).setRail r).setBport b).setDeliveries d := by
  have h : ∃ v, startProbe g f s = ((startCoil 1 s).2).setCharge v := by
    simp only [startProbe]
    generalize startCoil 1 s = r
    obtain ⟨_ | _, u⟩ := r
    · obtain ⟨c, hc⟩ := hf u
      simp only [hc]
      exact ⟨_, rfl⟩
    · obtain ⟨c, hc⟩ := hg (enterProbe u)
      simp only [hc]
      exact ⟨_, rfl⟩
  obtain ⟨v, h⟩ := h
  refine ⟨v, (startCoil 1 s).2.pport, (startCoil 1 s).2.rail, (startCoil 1 s).2.bport,
    (startCoil 1 s).2.deliveries, ?_⟩
  rw [h]
  apply State.ext_fields <;> simp

@[simp] theorem removePen_frame (s : State) :
    (removePen s).time = s.time ∧ (removePen s).lines = s.lines ∧ (removePen s).bport = s.bport
      ∧ (removePen s).lport = s.lport ∧ (removePen s).pport = s.pport ∧ (removePen s).sport = s.sport
      ∧ (removePen s).classifier = s.classifier ∧ (removePen s).pool = s.pool
      ∧ (removePen s).posture = s.posture ∧ (removePen s).gate = s.gate ∧ (removePen s).link = s.link
      ∧ (removePen s).rail = s.rail ∧ (removePen s).power = s.power ∧ (removePen s).mgmt = s.mgmt
      ∧ (removePen s).pending = s.pending := by
  simp [removePen]

@[simp] theorem findPen_frame (s : State) :
    (findPen s).time = s.time ∧ (findPen s).lines = s.lines ∧ (findPen s).bport = s.bport
      ∧ (findPen s).lport = s.lport ∧ (findPen s).pport = s.pport ∧ (findPen s).sport = s.sport
      ∧ (findPen s).classifier = s.classifier ∧ (findPen s).pool = s.pool ∧ (findPen s).posture = s.posture
      ∧ (findPen s).gate = s.gate ∧ (findPen s).link = s.link ∧ (findPen s).rail = s.rail
      ∧ (findPen s).power = s.power ∧ (findPen s).mgmt = s.mgmt ∧ (findPen s).pending = s.pending := by
  simp only [findPen]; (repeat' split) <;> simp

@[simp] theorem changeLevel_frame (l : Level) (s : State) :
    (changeLevel l s).time = s.time ∧ (changeLevel l s).lines = s.lines ∧ (changeLevel l s).lport = s.lport
      ∧ (changeLevel l s).sport = s.sport ∧ (changeLevel l s).classifier = s.classifier
      ∧ (changeLevel l s).pool = s.pool ∧ (changeLevel l s).posture = s.posture
      ∧ (changeLevel l s).gate = s.gate ∧ (changeLevel l s).link = s.link
      ∧ (changeLevel l s).power = s.power ∧ (changeLevel l s).mgmt = s.mgmt
      ∧ (changeLevel l s).pending = s.pending := by
  simp only [changeLevel]; (repeat' split) <;> simp

@[simp] theorem driveAt_frame (l : Level) (s : State) :
    (driveAt l s).time = s.time ∧ (driveAt l s).lines = s.lines ∧ (driveAt l s).lport = s.lport
      ∧ (driveAt l s).sport = s.sport ∧ (driveAt l s).classifier = s.classifier
      ∧ (driveAt l s).pool = s.pool ∧ (driveAt l s).posture = s.posture ∧ (driveAt l s).gate = s.gate
      ∧ (driveAt l s).link = s.link ∧ (driveAt l s).power = s.power ∧ (driveAt l s).mgmt = s.mgmt
      ∧ (driveAt l s).pending = s.pending := by
  simp only [driveAt]
  split
  · split <;> simp
  · have hp := startCoil_frame l s
    generalize startCoil l s = r at hp ⊢
    obtain ⟨_ | _, u⟩ := r <;> simp_all

@[simp] theorem enterCharging_frame (s : State) :
    (enterCharging s).time = s.time ∧ (enterCharging s).lines = s.lines ∧ (enterCharging s).lport = s.lport
      ∧ (enterCharging s).sport = s.sport ∧ (enterCharging s).classifier = s.classifier
      ∧ (enterCharging s).pool = s.pool ∧ (enterCharging s).posture = s.posture
      ∧ (enterCharging s).gate = s.gate ∧ (enterCharging s).link = s.link
      ∧ (enterCharging s).power = s.power ∧ (enterCharging s).mgmt = s.mgmt
      ∧ (enterCharging s).pending = s.pending := by
  simp [enterCharging]

@[simp] theorem stayCharging_frame (s : State) :
    (stayCharging s).time = s.time ∧ (stayCharging s).lines = s.lines ∧ (stayCharging s).lport = s.lport
      ∧ (stayCharging s).sport = s.sport ∧ (stayCharging s).classifier = s.classifier
      ∧ (stayCharging s).pool = s.pool ∧ (stayCharging s).posture = s.posture
      ∧ (stayCharging s).gate = s.gate ∧ (stayCharging s).link = s.link ∧ (stayCharging s).power = s.power
      ∧ (stayCharging s).mgmt = s.mgmt ∧ (stayCharging s).pending = s.pending := by
  simp [stayCharging]

@[simp] theorem enterTopped_frame (s : State) :
    (enterTopped s).time = s.time ∧ (enterTopped s).lines = s.lines ∧ (enterTopped s).lport = s.lport
      ∧ (enterTopped s).sport = s.sport ∧ (enterTopped s).classifier = s.classifier
      ∧ (enterTopped s).pool = s.pool ∧ (enterTopped s).posture = s.posture ∧ (enterTopped s).gate = s.gate
      ∧ (enterTopped s).link = s.link ∧ (enterTopped s).power = s.power ∧ (enterTopped s).mgmt = s.mgmt
      ∧ (enterTopped s).pending = s.pending := by
  simp [enterTopped]

@[simp] theorem enterFault_frame (s : State) :
    (enterFault s).time = s.time ∧ (enterFault s).lines = s.lines ∧ (enterFault s).lport = s.lport
      ∧ (enterFault s).sport = s.sport ∧ (enterFault s).classifier = s.classifier
      ∧ (enterFault s).pool = s.pool ∧ (enterFault s).posture = s.posture ∧ (enterFault s).gate = s.gate
      ∧ (enterFault s).link = s.link ∧ (enterFault s).power = s.power ∧ (enterFault s).mgmt = s.mgmt
      ∧ (enterFault s).pending = s.pending := by
  simp only [enterFault]; (repeat' split) <;> simp

@[simp] theorem probeFrame_frame (s : State) :
    (probeFrame s).time = s.time ∧ (probeFrame s).lines = s.lines ∧ (probeFrame s).lport = s.lport
      ∧ (probeFrame s).sport = s.sport ∧ (probeFrame s).classifier = s.classifier
      ∧ (probeFrame s).pool = s.pool ∧ (probeFrame s).posture = s.posture ∧ (probeFrame s).gate = s.gate
      ∧ (probeFrame s).link = s.link ∧ (probeFrame s).power = s.power ∧ (probeFrame s).mgmt = s.mgmt
      ∧ (probeFrame s).pending = s.pending := by
  simp only [probeFrame]; (repeat' split) <;> simp

@[simp] theorem chargingFrame_frame (s : State) :
    (chargingFrame s).time = s.time ∧ (chargingFrame s).lines = s.lines ∧ (chargingFrame s).lport = s.lport
      ∧ (chargingFrame s).sport = s.sport ∧ (chargingFrame s).classifier = s.classifier
      ∧ (chargingFrame s).pool = s.pool ∧ (chargingFrame s).posture = s.posture
      ∧ (chargingFrame s).gate = s.gate ∧ (chargingFrame s).link = s.link
      ∧ (chargingFrame s).power = s.power ∧ (chargingFrame s).mgmt = s.mgmt
      ∧ (chargingFrame s).pending = s.pending := by
  simp only [chargingFrame]; (repeat' split) <;> simp

@[simp] theorem toppedFrame_frame (s : State) :
    (toppedFrame s).time = s.time ∧ (toppedFrame s).lines = s.lines ∧ (toppedFrame s).lport = s.lport
      ∧ (toppedFrame s).sport = s.sport ∧ (toppedFrame s).classifier = s.classifier
      ∧ (toppedFrame s).pool = s.pool ∧ (toppedFrame s).posture = s.posture ∧ (toppedFrame s).gate = s.gate
      ∧ (toppedFrame s).link = s.link ∧ (toppedFrame s).power = s.power ∧ (toppedFrame s).mgmt = s.mgmt
      ∧ (toppedFrame s).pending = s.pending := by
  simp only [toppedFrame]; (repeat' split) <;> simp

@[simp] theorem recheckHold_frame (s : State) :
    (recheckHold s).time = s.time ∧ (recheckHold s).lines = s.lines ∧ (recheckHold s).lport = s.lport
      ∧ (recheckHold s).sport = s.sport ∧ (recheckHold s).classifier = s.classifier
      ∧ (recheckHold s).pool = s.pool ∧ (recheckHold s).posture = s.posture ∧ (recheckHold s).gate = s.gate
      ∧ (recheckHold s).link = s.link ∧ (recheckHold s).power = s.power ∧ (recheckHold s).mgmt = s.mgmt
      ∧ (recheckHold s).pending = s.pending := by
  simp only [recheckHold]
  obtain ⟨c, k, r, b, d, h⟩ := startProbe_shape countPing id s (fun u => ⟨_, rfl⟩) (fun u => ⟨u.charge, rfl⟩)
  split <;> simp [h]

@[simp] theorem takePenFrame_frame (p : List Byte) (s : State) :
    (takePenFrame p s).time = s.time ∧ (takePenFrame p s).lines = s.lines
      ∧ (takePenFrame p s).lport = s.lport ∧ (takePenFrame p s).sport = s.sport
      ∧ (takePenFrame p s).classifier = s.classifier ∧ (takePenFrame p s).pool = s.pool
      ∧ (takePenFrame p s).posture = s.posture ∧ (takePenFrame p s).gate = s.gate
      ∧ (takePenFrame p s).link = s.link ∧ (takePenFrame p s).power = s.power
      ∧ (takePenFrame p s).mgmt = s.mgmt ∧ (takePenFrame p s).pending = s.pending := by
  simp only [takePenFrame]; (repeat' split) <;> simp

@[simp] theorem takeCapChange_frame (s : State) :
    (takeCapChange s).time = s.time ∧ (takeCapChange s).lines = s.lines ∧ (takeCapChange s).lport = s.lport
      ∧ (takeCapChange s).sport = s.sport ∧ (takeCapChange s).classifier = s.classifier
      ∧ (takeCapChange s).pool = s.pool ∧ (takeCapChange s).posture = s.posture
      ∧ (takeCapChange s).gate = s.gate ∧ (takeCapChange s).link = s.link
      ∧ (takeCapChange s).power = s.power ∧ (takeCapChange s).mgmt = s.mgmt
      ∧ (takeCapChange s).pending = s.pending := by
  simp only [takeCapChange]; (repeat' split) <;> simp

@[simp] theorem pingExpired_frame (s : State) :
    (pingExpired s).time = s.time ∧ (pingExpired s).lines = s.lines ∧ (pingExpired s).lport = s.lport
      ∧ (pingExpired s).sport = s.sport ∧ (pingExpired s).classifier = s.classifier
      ∧ (pingExpired s).pool = s.pool ∧ (pingExpired s).posture = s.posture ∧ (pingExpired s).gate = s.gate
      ∧ (pingExpired s).link = s.link ∧ (pingExpired s).power = s.power ∧ (pingExpired s).mgmt = s.mgmt
      ∧ (pingExpired s).pending = s.pending := by
  simp only [pingExpired]
  obtain ⟨c, k, r, b, d, h⟩ := startProbe_shape countPing enterScan s (fun u => ⟨_, rfl⟩)
    (fun u => ⟨_, rfl⟩)
  split <;> simp [h]

@[simp] theorem probeExpired_frame (s : State) :
    (probeExpired s).time = s.time ∧ (probeExpired s).lines = s.lines ∧ (probeExpired s).lport = s.lport
      ∧ (probeExpired s).sport = s.sport ∧ (probeExpired s).classifier = s.classifier
      ∧ (probeExpired s).pool = s.pool ∧ (probeExpired s).posture = s.posture
      ∧ (probeExpired s).gate = s.gate ∧ (probeExpired s).link = s.link ∧ (probeExpired s).power = s.power
      ∧ (probeExpired s).mgmt = s.mgmt ∧ (probeExpired s).pending = s.pending := by
  simp only [probeExpired]; (repeat' split) <;> simp

@[simp] theorem silenceExpired_frame (s : State) :
    (silenceExpired s).time = s.time ∧ (silenceExpired s).lines = s.lines
      ∧ (silenceExpired s).lport = s.lport ∧ (silenceExpired s).sport = s.sport
      ∧ (silenceExpired s).classifier = s.classifier ∧ (silenceExpired s).pool = s.pool
      ∧ (silenceExpired s).posture = s.posture ∧ (silenceExpired s).gate = s.gate
      ∧ (silenceExpired s).link = s.link ∧ (silenceExpired s).power = s.power
      ∧ (silenceExpired s).mgmt = s.mgmt ∧ (silenceExpired s).pending = s.pending := by
  simp [silenceExpired]

@[simp] theorem topUpExpired_frame (s : State) :
    (topUpExpired s).time = s.time ∧ (topUpExpired s).lines = s.lines ∧ (topUpExpired s).lport = s.lport
      ∧ (topUpExpired s).sport = s.sport ∧ (topUpExpired s).classifier = s.classifier
      ∧ (topUpExpired s).pool = s.pool ∧ (topUpExpired s).posture = s.posture
      ∧ (topUpExpired s).gate = s.gate ∧ (topUpExpired s).link = s.link ∧ (topUpExpired s).power = s.power
      ∧ (topUpExpired s).mgmt = s.mgmt ∧ (topUpExpired s).pending = s.pending := by
  simp only [topUpExpired]
  obtain ⟨c, k, r, b, d, h⟩ := startProbe_shape id restartTopUp s (fun u => ⟨u.charge, rfl⟩)
    (fun u => ⟨_, rfl⟩)
  split <;> simp [h]

@[simp] theorem enableCharger_frame (s : State) :
    (enableCharger s).time = s.time ∧ (enableCharger s).lines = s.lines ∧ (enableCharger s).bport = s.bport
      ∧ (enableCharger s).lport = s.lport ∧ (enableCharger s).pport = s.pport
      ∧ (enableCharger s).sport = s.sport ∧ (enableCharger s).classifier = s.classifier
      ∧ (enableCharger s).pool = s.pool ∧ (enableCharger s).posture = s.posture
      ∧ (enableCharger s).gate = s.gate ∧ (enableCharger s).link = s.link ∧ (enableCharger s).rail = s.rail
      ∧ (enableCharger s).power = s.power ∧ (enableCharger s).mgmt = s.mgmt
      ∧ (enableCharger s).deliveries = s.deliveries ∧ (enableCharger s).pending = s.pending := by
  simp [enableCharger]

@[simp] theorem disableCharger_frame (s : State) :
    (disableCharger s).time = s.time ∧ (disableCharger s).lines = s.lines
      ∧ (disableCharger s).lport = s.lport ∧ (disableCharger s).sport = s.sport
      ∧ (disableCharger s).classifier = s.classifier ∧ (disableCharger s).pool = s.pool
      ∧ (disableCharger s).posture = s.posture ∧ (disableCharger s).gate = s.gate
      ∧ (disableCharger s).link = s.link ∧ (disableCharger s).power = s.power
      ∧ (disableCharger s).mgmt = s.mgmt ∧ (disableCharger s).pending = s.pending := by
  simp [disableCharger]

/-! ### Link Monitor -/

@[simp] theorem moveLink_frame (x : LinkState) (t : LinkTimers) (s : State) :
    (moveLink x t s).time = s.time ∧ (moveLink x t s).lines = s.lines ∧ (moveLink x t s).lport = s.lport
      ∧ (moveLink x t s).pport = s.pport ∧ (moveLink x t s).sport = s.sport
      ∧ (moveLink x t s).classifier = s.classifier ∧ (moveLink x t s).pool = s.pool
      ∧ (moveLink x t s).posture = s.posture ∧ (moveLink x t s).gate = s.gate
      ∧ (moveLink x t s).rail = s.rail ∧ (moveLink x t s).charge = s.charge
      ∧ (moveLink x t s).power = s.power ∧ (moveLink x t s).mgmt = s.mgmt
      ∧ (moveLink x t s).deliveries = s.deliveries ∧ (moveLink x t s).pending = s.pending := by
  simp only [moveLink]; (repeat' split) <;> simp

@[simp] theorem countLink_frame (f : LinkCounters → LinkCounters) (s : State) :
    (countLink f s).time = s.time ∧ (countLink f s).lines = s.lines ∧ (countLink f s).bport = s.bport
      ∧ (countLink f s).lport = s.lport ∧ (countLink f s).pport = s.pport ∧ (countLink f s).sport = s.sport
      ∧ (countLink f s).classifier = s.classifier ∧ (countLink f s).pool = s.pool
      ∧ (countLink f s).posture = s.posture ∧ (countLink f s).gate = s.gate ∧ (countLink f s).rail = s.rail
      ∧ (countLink f s).charge = s.charge ∧ (countLink f s).power = s.power ∧ (countLink f s).mgmt = s.mgmt
      ∧ (countLink f s).deliveries = s.deliveries ∧ (countLink f s).pending = s.pending := by
  simp [countLink]

@[simp] theorem enterContact_frame (s : State) :
    (enterContact s).time = s.time ∧ (enterContact s).lines = s.lines ∧ (enterContact s).lport = s.lport
      ∧ (enterContact s).pport = s.pport ∧ (enterContact s).sport = s.sport
      ∧ (enterContact s).classifier = s.classifier ∧ (enterContact s).pool = s.pool
      ∧ (enterContact s).posture = s.posture ∧ (enterContact s).gate = s.gate
      ∧ (enterContact s).rail = s.rail ∧ (enterContact s).charge = s.charge
      ∧ (enterContact s).power = s.power ∧ (enterContact s).mgmt = s.mgmt
      ∧ (enterContact s).deliveries = s.deliveries ∧ (enterContact s).pending = s.pending := by
  simp [enterContact]

@[simp] theorem enterRejected_frame (r : RejectReason) (s : State) :
    (enterRejected r s).time = s.time ∧ (enterRejected r s).lines = s.lines
      ∧ (enterRejected r s).lport = s.lport ∧ (enterRejected r s).pport = s.pport
      ∧ (enterRejected r s).sport = s.sport ∧ (enterRejected r s).classifier = s.classifier
      ∧ (enterRejected r s).pool = s.pool ∧ (enterRejected r s).posture = s.posture
      ∧ (enterRejected r s).gate = s.gate ∧ (enterRejected r s).rail = s.rail
      ∧ (enterRejected r s).charge = s.charge ∧ (enterRejected r s).power = s.power
      ∧ (enterRejected r s).mgmt = s.mgmt ∧ (enterRejected r s).pending = s.pending := by
  simp [enterRejected]

@[simp] theorem askIdentity_frame (n : Nat) (s : State) :
    (askIdentity n s).time = s.time ∧ (askIdentity n s).lines = s.lines ∧ (askIdentity n s).lport = s.lport
      ∧ (askIdentity n s).pport = s.pport ∧ (askIdentity n s).sport = s.sport
      ∧ (askIdentity n s).classifier = s.classifier ∧ (askIdentity n s).pool = s.pool
      ∧ (askIdentity n s).posture = s.posture ∧ (askIdentity n s).gate = s.gate
      ∧ (askIdentity n s).rail = s.rail ∧ (askIdentity n s).charge = s.charge
      ∧ (askIdentity n s).power = s.power ∧ (askIdentity n s).mgmt = s.mgmt
      ∧ (askIdentity n s).deliveries = s.deliveries ∧ (askIdentity n s).pending = s.pending := by
  simp [askIdentity]

@[simp] theorem admit_frame (i : Identity) (n : Nat) (s : State) :
    (admitBase i n s).time = s.time ∧ (admitBase i n s).lines = s.lines ∧ (admitBase i n s).lport = s.lport
      ∧ (admitBase i n s).pport = s.pport ∧ (admitBase i n s).sport = s.sport
      ∧ (admitBase i n s).classifier = s.classifier ∧ (admitBase i n s).pool = s.pool
      ∧ (admitBase i n s).posture = s.posture ∧ (admitBase i n s).gate = s.gate ∧ (admitBase i n s).rail = s.rail
      ∧ (admitBase i n s).charge = s.charge ∧ (admitBase i n s).power = s.power ∧ (admitBase i n s).mgmt = s.mgmt
      ∧ (admitBase i n s).pending = s.pending := by
  simp [admitBase]

@[simp] theorem checkAdmission_frame (i : Identity) (s : State) :
    (checkAdmission i s).time = s.time ∧ (checkAdmission i s).lines = s.lines
      ∧ (checkAdmission i s).lport = s.lport ∧ (checkAdmission i s).pport = s.pport
      ∧ (checkAdmission i s).sport = s.sport ∧ (checkAdmission i s).classifier = s.classifier
      ∧ (checkAdmission i s).pool = s.pool ∧ (checkAdmission i s).posture = s.posture
      ∧ (checkAdmission i s).gate = s.gate ∧ (checkAdmission i s).rail = s.rail
      ∧ (checkAdmission i s).charge = s.charge ∧ (checkAdmission i s).power = s.power
      ∧ (checkAdmission i s).mgmt = s.mgmt ∧ (checkAdmission i s).pending = s.pending := by
  simp only [checkAdmission]; (repeat' split) <;> simp

@[simp] theorem teardown_frame (c : TeardownCause) (s : State) :
    (teardown c s).time = s.time ∧ (teardown c s).lines = s.lines ∧ (teardown c s).bport = s.bport
      ∧ (teardown c s).lport = s.lport ∧ (teardown c s).pport = s.pport ∧ (teardown c s).sport = s.sport
      ∧ (teardown c s).classifier = s.classifier ∧ (teardown c s).pool = s.pool
      ∧ (teardown c s).posture = s.posture ∧ (teardown c s).gate = s.gate ∧ (teardown c s).rail = s.rail
      ∧ (teardown c s).charge = s.charge ∧ (teardown c s).power = s.power ∧ (teardown c s).mgmt = s.mgmt
      ∧ (teardown c s).pending = s.pending := by
  simp [teardown]

@[simp] theorem presenceUp_frame (s : State) :
    (presenceUp s).time = s.time ∧ (presenceUp s).lines = s.lines ∧ (presenceUp s).lport = s.lport
      ∧ (presenceUp s).pport = s.pport ∧ (presenceUp s).sport = s.sport
      ∧ (presenceUp s).classifier = s.classifier ∧ (presenceUp s).pool = s.pool
      ∧ (presenceUp s).posture = s.posture ∧ (presenceUp s).gate = s.gate ∧ (presenceUp s).rail = s.rail
      ∧ (presenceUp s).charge = s.charge ∧ (presenceUp s).power = s.power ∧ (presenceUp s).mgmt = s.mgmt
      ∧ (presenceUp s).deliveries = s.deliveries ∧ (presenceUp s).pending = s.pending := by
  simp only [presenceUp]; (repeat' split) <;> simp

@[simp] theorem presenceDown_frame (s : State) :
    (presenceDown s).time = s.time ∧ (presenceDown s).lines = s.lines ∧ (presenceDown s).lport = s.lport
      ∧ (presenceDown s).pport = s.pport ∧ (presenceDown s).sport = s.sport
      ∧ (presenceDown s).classifier = s.classifier ∧ (presenceDown s).pool = s.pool
      ∧ (presenceDown s).posture = s.posture ∧ (presenceDown s).gate = s.gate
      ∧ (presenceDown s).rail = s.rail ∧ (presenceDown s).charge = s.charge
      ∧ (presenceDown s).power = s.power ∧ (presenceDown s).mgmt = s.mgmt
      ∧ (presenceDown s).pending = s.pending := by
  simp only [presenceDown]; (repeat' split) <;> simp

@[simp] theorem debounceExpired_frame (s : State) :
    (debounceExpired s).time = s.time ∧ (debounceExpired s).lines = s.lines
      ∧ (debounceExpired s).lport = s.lport ∧ (debounceExpired s).pport = s.pport
      ∧ (debounceExpired s).sport = s.sport ∧ (debounceExpired s).classifier = s.classifier
      ∧ (debounceExpired s).pool = s.pool ∧ (debounceExpired s).posture = s.posture
      ∧ (debounceExpired s).gate = s.gate ∧ (debounceExpired s).rail = s.rail
      ∧ (debounceExpired s).charge = s.charge ∧ (debounceExpired s).power = s.power
      ∧ (debounceExpired s).mgmt = s.mgmt ∧ (debounceExpired s).deliveries = s.deliveries
      ∧ (debounceExpired s).pending = s.pending := by
  simp [debounceExpired]

@[simp] theorem identExpired_frame (s : State) :
    (identExpired s).time = s.time ∧ (identExpired s).lines = s.lines ∧ (identExpired s).lport = s.lport
      ∧ (identExpired s).pport = s.pport ∧ (identExpired s).sport = s.sport
      ∧ (identExpired s).classifier = s.classifier ∧ (identExpired s).pool = s.pool
      ∧ (identExpired s).posture = s.posture ∧ (identExpired s).gate = s.gate
      ∧ (identExpired s).rail = s.rail ∧ (identExpired s).charge = s.charge
      ∧ (identExpired s).power = s.power ∧ (identExpired s).mgmt = s.mgmt
      ∧ (identExpired s).pending = s.pending := by
  simp only [identExpired]; (repeat' split) <;> simp

@[simp] theorem takeIdentity_frame (i : Identity) (s : State) :
    (takeIdentity i s).time = s.time ∧ (takeIdentity i s).lines = s.lines
      ∧ (takeIdentity i s).lport = s.lport ∧ (takeIdentity i s).pport = s.pport
      ∧ (takeIdentity i s).sport = s.sport ∧ (takeIdentity i s).classifier = s.classifier
      ∧ (takeIdentity i s).pool = s.pool ∧ (takeIdentity i s).posture = s.posture
      ∧ (takeIdentity i s).gate = s.gate ∧ (takeIdentity i s).rail = s.rail
      ∧ (takeIdentity i s).charge = s.charge ∧ (takeIdentity i s).power = s.power
      ∧ (takeIdentity i s).mgmt = s.mgmt ∧ (takeIdentity i s).pending = s.pending := by
  simp only [takeIdentity]; (repeat' split) <;> simp

@[simp] theorem takeMalformed_frame (s : State) :
    (takeMalformed s).time = s.time ∧ (takeMalformed s).lines = s.lines ∧ (takeMalformed s).lport = s.lport
      ∧ (takeMalformed s).pport = s.pport ∧ (takeMalformed s).sport = s.sport
      ∧ (takeMalformed s).classifier = s.classifier ∧ (takeMalformed s).pool = s.pool
      ∧ (takeMalformed s).posture = s.posture ∧ (takeMalformed s).gate = s.gate
      ∧ (takeMalformed s).rail = s.rail ∧ (takeMalformed s).charge = s.charge
      ∧ (takeMalformed s).power = s.power ∧ (takeMalformed s).mgmt = s.mgmt
      ∧ (takeMalformed s).pending = s.pending := by
  simp only [takeMalformed]; (repeat' split) <;> simp

@[simp] theorem takeIdent_frame (p : List Byte) (s : State) :
    (takeIdent p s).time = s.time ∧ (takeIdent p s).lines = s.lines ∧ (takeIdent p s).lport = s.lport
      ∧ (takeIdent p s).pport = s.pport ∧ (takeIdent p s).sport = s.sport
      ∧ (takeIdent p s).classifier = s.classifier ∧ (takeIdent p s).pool = s.pool
      ∧ (takeIdent p s).posture = s.posture ∧ (takeIdent p s).gate = s.gate ∧ (takeIdent p s).rail = s.rail
      ∧ (takeIdent p s).charge = s.charge ∧ (takeIdent p s).power = s.power ∧ (takeIdent p s).mgmt = s.mgmt
      ∧ (takeIdent p s).pending = s.pending := by
  simp only [takeIdent]; (repeat' split) <;> simp

@[simp] theorem liveFrame_frame (s : State) :
    (liveFrame s).time = s.time ∧ (liveFrame s).lines = s.lines ∧ (liveFrame s).lport = s.lport
      ∧ (liveFrame s).pport = s.pport ∧ (liveFrame s).sport = s.sport
      ∧ (liveFrame s).classifier = s.classifier ∧ (liveFrame s).pool = s.pool
      ∧ (liveFrame s).posture = s.posture ∧ (liveFrame s).gate = s.gate ∧ (liveFrame s).rail = s.rail
      ∧ (liveFrame s).charge = s.charge ∧ (liveFrame s).power = s.power ∧ (liveFrame s).mgmt = s.mgmt
      ∧ (liveFrame s).deliveries = s.deliveries ∧ (liveFrame s).pending = s.pending := by
  simp only [liveFrame]; (repeat' split) <;> simp

@[simp] theorem aliveExpired_frame (s : State) :
    (aliveExpired s).time = s.time ∧ (aliveExpired s).lines = s.lines ∧ (aliveExpired s).lport = s.lport
      ∧ (aliveExpired s).pport = s.pport ∧ (aliveExpired s).sport = s.sport
      ∧ (aliveExpired s).classifier = s.classifier ∧ (aliveExpired s).pool = s.pool
      ∧ (aliveExpired s).posture = s.posture ∧ (aliveExpired s).gate = s.gate
      ∧ (aliveExpired s).rail = s.rail ∧ (aliveExpired s).charge = s.charge
      ∧ (aliveExpired s).power = s.power ∧ (aliveExpired s).mgmt = s.mgmt
      ∧ (aliveExpired s).pending = s.pending := by
  simp only [aliveExpired]; (repeat' split) <;> simp

/-! ### Power Policy Unit -/

@[simp] theorem countPower_frame (f : PowerCounters → PowerCounters) (s : State) :
    (countPower f s).time = s.time ∧ (countPower f s).lines = s.lines ∧ (countPower f s).bport = s.bport
      ∧ (countPower f s).lport = s.lport ∧ (countPower f s).pport = s.pport
      ∧ (countPower f s).sport = s.sport ∧ (countPower f s).classifier = s.classifier
      ∧ (countPower f s).pool = s.pool ∧ (countPower f s).posture = s.posture
      ∧ (countPower f s).gate = s.gate ∧ (countPower f s).link = s.link ∧ (countPower f s).rail = s.rail
      ∧ (countPower f s).charge = s.charge ∧ (countPower f s).mgmt = s.mgmt
      ∧ (countPower f s).deliveries = s.deliveries ∧ (countPower f s).pending = s.pending := by
  simp [countPower]

@[simp] theorem enterAwake_frame (r : PolicyRow) (s : State) :
    (enterAwake r s).time = s.time ∧ (enterAwake r s).lines = s.lines ∧ (enterAwake r s).bport = s.bport
      ∧ (enterAwake r s).lport = s.lport ∧ (enterAwake r s).pport = s.pport
      ∧ (enterAwake r s).sport = s.sport ∧ (enterAwake r s).classifier = s.classifier
      ∧ (enterAwake r s).pool = s.pool ∧ (enterAwake r s).posture = s.posture
      ∧ (enterAwake r s).gate = s.gate ∧ (enterAwake r s).link = s.link ∧ (enterAwake r s).rail = s.rail
      ∧ (enterAwake r s).charge = s.charge ∧ (enterAwake r s).mgmt = s.mgmt
      ∧ (enterAwake r s).deliveries = s.deliveries ∧ (enterAwake r s).pending = s.pending := by
  simp [enterAwake]

@[simp] theorem withdraw_frame (r : PolicyRow) (s : State) :
    (withdraw r s).time = s.time ∧ (withdraw r s).lines = s.lines ∧ (withdraw r s).bport = s.bport
      ∧ (withdraw r s).lport = s.lport ∧ (withdraw r s).pport = s.pport ∧ (withdraw r s).sport = s.sport
      ∧ (withdraw r s).classifier = s.classifier ∧ (withdraw r s).pool = s.pool
      ∧ (withdraw r s).posture = s.posture ∧ (withdraw r s).gate = s.gate ∧ (withdraw r s).link = s.link
      ∧ (withdraw r s).rail = s.rail ∧ (withdraw r s).charge = s.charge ∧ (withdraw r s).mgmt = s.mgmt
      ∧ (withdraw r s).pending = s.pending := by
  simp [withdraw]

@[simp] theorem enterAsleep_frame (s : State) :
    (enterAsleep s).time = s.time ∧ (enterAsleep s).lines = s.lines ∧ (enterAsleep s).bport = s.bport
      ∧ (enterAsleep s).lport = s.lport ∧ (enterAsleep s).pport = s.pport ∧ (enterAsleep s).sport = s.sport
      ∧ (enterAsleep s).classifier = s.classifier ∧ (enterAsleep s).pool = s.pool
      ∧ (enterAsleep s).posture = s.posture ∧ (enterAsleep s).gate = s.gate ∧ (enterAsleep s).link = s.link
      ∧ (enterAsleep s).rail = s.rail ∧ (enterAsleep s).charge = s.charge ∧ (enterAsleep s).mgmt = s.mgmt
      ∧ (enterAsleep s).deliveries = s.deliveries ∧ (enterAsleep s).pending = s.pending := by
  simp [enterAsleep]

@[simp] theorem wakeUp_frame (m : BitVec 8) (s : State) :
    (wakeUp m s).time = s.time ∧ (wakeUp m s).lines = s.lines ∧ (wakeUp m s).bport = s.bport
      ∧ (wakeUp m s).lport = s.lport ∧ (wakeUp m s).pport = s.pport ∧ (wakeUp m s).sport = s.sport
      ∧ (wakeUp m s).classifier = s.classifier ∧ (wakeUp m s).pool = s.pool
      ∧ (wakeUp m s).posture = s.posture ∧ (wakeUp m s).gate = s.gate ∧ (wakeUp m s).link = s.link
      ∧ (wakeUp m s).rail = s.rail ∧ (wakeUp m s).charge = s.charge ∧ (wakeUp m s).mgmt = s.mgmt
      ∧ (wakeUp m s).pending = s.pending := by
  simp [wakeUp]

@[simp] theorem raiseSources_frame (m : BitVec 8) (s : State) :
    (raiseSources m s).time = s.time ∧ (raiseSources m s).lines = s.lines
      ∧ (raiseSources m s).bport = s.bport ∧ (raiseSources m s).lport = s.lport
      ∧ (raiseSources m s).pport = s.pport ∧ (raiseSources m s).sport = s.sport
      ∧ (raiseSources m s).classifier = s.classifier ∧ (raiseSources m s).pool = s.pool
      ∧ (raiseSources m s).posture = s.posture ∧ (raiseSources m s).gate = s.gate
      ∧ (raiseSources m s).link = s.link ∧ (raiseSources m s).rail = s.rail
      ∧ (raiseSources m s).charge = s.charge ∧ (raiseSources m s).mgmt = s.mgmt
      ∧ (raiseSources m s).pending = s.pending := by
  simp only [raiseSources]; (repeat' split) <;> simp

@[simp] theorem edgeOccurs_frame (e : EdgeSource) (s : State) :
    (edgeOccurs e s).time = s.time ∧ (edgeOccurs e s).lines = s.lines ∧ (edgeOccurs e s).bport = s.bport
      ∧ (edgeOccurs e s).lport = s.lport ∧ (edgeOccurs e s).pport = s.pport
      ∧ (edgeOccurs e s).sport = s.sport ∧ (edgeOccurs e s).classifier = s.classifier
      ∧ (edgeOccurs e s).pool = s.pool ∧ (edgeOccurs e s).posture = s.posture
      ∧ (edgeOccurs e s).gate = s.gate ∧ (edgeOccurs e s).link = s.link ∧ (edgeOccurs e s).rail = s.rail
      ∧ (edgeOccurs e s).charge = s.charge ∧ (edgeOccurs e s).mgmt = s.mgmt
      ∧ (edgeOccurs e s).pending = s.pending := by
  simp [edgeOccurs]

@[simp] theorem postureWake_frame (n : Posture) (s : State) :
    (postureWake n s).time = s.time ∧ (postureWake n s).lines = s.lines ∧ (postureWake n s).bport = s.bport
      ∧ (postureWake n s).lport = s.lport ∧ (postureWake n s).pport = s.pport
      ∧ (postureWake n s).sport = s.sport ∧ (postureWake n s).classifier = s.classifier
      ∧ (postureWake n s).pool = s.pool ∧ (postureWake n s).posture = s.posture
      ∧ (postureWake n s).gate = s.gate ∧ (postureWake n s).link = s.link ∧ (postureWake n s).rail = s.rail
      ∧ (postureWake n s).charge = s.charge ∧ (postureWake n s).mgmt = s.mgmt
      ∧ (postureWake n s).pending = s.pending := by
  simp [postureWake]

@[simp] theorem noteActivity_frame (s : State) :
    (noteActivity s).time = s.time ∧ (noteActivity s).lines = s.lines ∧ (noteActivity s).bport = s.bport
      ∧ (noteActivity s).lport = s.lport ∧ (noteActivity s).pport = s.pport
      ∧ (noteActivity s).sport = s.sport ∧ (noteActivity s).classifier = s.classifier
      ∧ (noteActivity s).pool = s.pool ∧ (noteActivity s).posture = s.posture
      ∧ (noteActivity s).gate = s.gate ∧ (noteActivity s).link = s.link ∧ (noteActivity s).rail = s.rail
      ∧ (noteActivity s).charge = s.charge ∧ (noteActivity s).mgmt = s.mgmt
      ∧ (noteActivity s).deliveries = s.deliveries ∧ (noteActivity s).pending = s.pending := by
  simp [noteActivity]

@[simp] theorem activity_frame (s : State) :
    (activity s).time = s.time ∧ (activity s).lines = s.lines ∧ (activity s).bport = s.bport
      ∧ (activity s).lport = s.lport ∧ (activity s).pport = s.pport ∧ (activity s).sport = s.sport
      ∧ (activity s).classifier = s.classifier ∧ (activity s).pool = s.pool
      ∧ (activity s).posture = s.posture ∧ (activity s).gate = s.gate ∧ (activity s).link = s.link
      ∧ (activity s).rail = s.rail ∧ (activity s).charge = s.charge ∧ (activity s).mgmt = s.mgmt
      ∧ (activity s).pending = s.pending := by
  simp only [activity]; (repeat' split) <;> simp

@[simp] theorem powerPostureChanged_frame (n : Posture) (r : PolicyRow) (s : State) :
    (powerPostureChanged n r s).time = s.time ∧ (powerPostureChanged n r s).lines = s.lines
      ∧ (powerPostureChanged n r s).bport = s.bport ∧ (powerPostureChanged n r s).lport = s.lport
      ∧ (powerPostureChanged n r s).pport = s.pport ∧ (powerPostureChanged n r s).sport = s.sport
      ∧ (powerPostureChanged n r s).classifier = s.classifier ∧ (powerPostureChanged n r s).pool = s.pool
      ∧ (powerPostureChanged n r s).posture = s.posture ∧ (powerPostureChanged n r s).gate = s.gate
      ∧ (powerPostureChanged n r s).link = s.link ∧ (powerPostureChanged n r s).rail = s.rail
      ∧ (powerPostureChanged n r s).charge = s.charge ∧ (powerPostureChanged n r s).mgmt = s.mgmt
      ∧ (powerPostureChanged n r s).pending = s.pending := by
  simp only [powerPostureChanged]; (repeat' split) <;> simp

@[simp] theorem endReason_frame (r : PolicyRow) (s : State) :
    (endReason r s).time = s.time ∧ (endReason r s).lines = s.lines ∧ (endReason r s).bport = s.bport
      ∧ (endReason r s).lport = s.lport ∧ (endReason r s).pport = s.pport ∧ (endReason r s).sport = s.sport
      ∧ (endReason r s).classifier = s.classifier ∧ (endReason r s).pool = s.pool
      ∧ (endReason r s).posture = s.posture ∧ (endReason r s).gate = s.gate ∧ (endReason r s).link = s.link
      ∧ (endReason r s).rail = s.rail ∧ (endReason r s).charge = s.charge ∧ (endReason r s).mgmt = s.mgmt
      ∧ (endReason r s).pending = s.pending := by
  simp only [endReason]; (repeat' split) <;> simp

@[simp] theorem policyClosed_frame (r : PolicyRow) (s : State) :
    (policyClosed r s).time = s.time ∧ (policyClosed r s).lines = s.lines
      ∧ (policyClosed r s).bport = s.bport ∧ (policyClosed r s).lport = s.lport
      ∧ (policyClosed r s).pport = s.pport ∧ (policyClosed r s).sport = s.sport
      ∧ (policyClosed r s).classifier = s.classifier ∧ (policyClosed r s).pool = s.pool
      ∧ (policyClosed r s).posture = s.posture ∧ (policyClosed r s).gate = s.gate
      ∧ (policyClosed r s).link = s.link ∧ (policyClosed r s).rail = s.rail
      ∧ (policyClosed r s).charge = s.charge ∧ (policyClosed r s).mgmt = s.mgmt
      ∧ (policyClosed r s).pending = s.pending := by
  simp only [policyClosed]; (repeat' split) <;> simp

@[simp] theorem powerPolicyChanged_frame (r : PolicyRow) (s : State) :
    (powerPolicyChanged r s).time = s.time ∧ (powerPolicyChanged r s).lines = s.lines
      ∧ (powerPolicyChanged r s).bport = s.bport ∧ (powerPolicyChanged r s).lport = s.lport
      ∧ (powerPolicyChanged r s).pport = s.pport ∧ (powerPolicyChanged r s).sport = s.sport
      ∧ (powerPolicyChanged r s).classifier = s.classifier ∧ (powerPolicyChanged r s).pool = s.pool
      ∧ (powerPolicyChanged r s).posture = s.posture ∧ (powerPolicyChanged r s).gate = s.gate
      ∧ (powerPolicyChanged r s).link = s.link ∧ (powerPolicyChanged r s).rail = s.rail
      ∧ (powerPolicyChanged r s).charge = s.charge ∧ (powerPolicyChanged r s).mgmt = s.mgmt
      ∧ (powerPolicyChanged r s).pending = s.pending := by
  simp only [powerPolicyChanged]; (repeat' split) <;> simp

@[simp] theorem idleExpired_frame (s : State) :
    (idleExpired s).time = s.time ∧ (idleExpired s).lines = s.lines ∧ (idleExpired s).bport = s.bport
      ∧ (idleExpired s).lport = s.lport ∧ (idleExpired s).pport = s.pport ∧ (idleExpired s).sport = s.sport
      ∧ (idleExpired s).classifier = s.classifier ∧ (idleExpired s).pool = s.pool
      ∧ (idleExpired s).posture = s.posture ∧ (idleExpired s).gate = s.gate ∧ (idleExpired s).link = s.link
      ∧ (idleExpired s).rail = s.rail ∧ (idleExpired s).charge = s.charge ∧ (idleExpired s).mgmt = s.mgmt
      ∧ (idleExpired s).deliveries = s.deliveries ∧ (idleExpired s).pending = s.pending := by
  simp [idleExpired]

@[simp] theorem sleepDelayExpired_frame (s : State) :
    (sleepDelayExpired s).time = s.time ∧ (sleepDelayExpired s).lines = s.lines
      ∧ (sleepDelayExpired s).bport = s.bport ∧ (sleepDelayExpired s).lport = s.lport
      ∧ (sleepDelayExpired s).pport = s.pport ∧ (sleepDelayExpired s).sport = s.sport
      ∧ (sleepDelayExpired s).classifier = s.classifier ∧ (sleepDelayExpired s).pool = s.pool
      ∧ (sleepDelayExpired s).posture = s.posture ∧ (sleepDelayExpired s).gate = s.gate
      ∧ (sleepDelayExpired s).link = s.link ∧ (sleepDelayExpired s).rail = s.rail
      ∧ (sleepDelayExpired s).charge = s.charge ∧ (sleepDelayExpired s).mgmt = s.mgmt
      ∧ (sleepDelayExpired s).pending = s.pending := by
  simp [sleepDelayExpired]

@[simp] theorem setHost_frame (h : HostPower) (s : State) :
    (setHost h s).time = s.time ∧ (setHost h s).lines = s.lines ∧ (setHost h s).bport = s.bport
      ∧ (setHost h s).lport = s.lport ∧ (setHost h s).pport = s.pport ∧ (setHost h s).sport = s.sport
      ∧ (setHost h s).classifier = s.classifier ∧ (setHost h s).pool = s.pool
      ∧ (setHost h s).posture = s.posture ∧ (setHost h s).gate = s.gate ∧ (setHost h s).link = s.link
      ∧ (setHost h s).rail = s.rail ∧ (setHost h s).charge = s.charge ∧ (setHost h s).mgmt = s.mgmt
      ∧ (setHost h s).pending = s.pending := by
  simp only [setHost]; (repeat' split) <;> simp

@[simp] theorem hostReport_frame (h : HostPower) (s : State) :
    (hostReport h s).time = s.time ∧ (hostReport h s).lines = s.lines ∧ (hostReport h s).bport = s.bport
      ∧ (hostReport h s).lport = s.lport ∧ (hostReport h s).pport = s.pport
      ∧ (hostReport h s).sport = s.sport ∧ (hostReport h s).classifier = s.classifier
      ∧ (hostReport h s).pool = s.pool ∧ (hostReport h s).posture = s.posture
      ∧ (hostReport h s).gate = s.gate ∧ (hostReport h s).link = s.link ∧ (hostReport h s).rail = s.rail
      ∧ (hostReport h s).charge = s.charge ∧ (hostReport h s).mgmt = s.mgmt
      ∧ (hostReport h s).pending = s.pending := by
  cases h <;> simp only [hostReport] <;> (repeat' split) <;> simp

@[simp] theorem writeEnables_frame (m : BitVec 8) (s : State) :
    (writeEnables m s).time = s.time ∧ (writeEnables m s).lines = s.lines
      ∧ (writeEnables m s).bport = s.bport ∧ (writeEnables m s).lport = s.lport
      ∧ (writeEnables m s).pport = s.pport ∧ (writeEnables m s).sport = s.sport
      ∧ (writeEnables m s).classifier = s.classifier ∧ (writeEnables m s).pool = s.pool
      ∧ (writeEnables m s).posture = s.posture ∧ (writeEnables m s).gate = s.gate
      ∧ (writeEnables m s).link = s.link ∧ (writeEnables m s).rail = s.rail
      ∧ (writeEnables m s).charge = s.charge ∧ (writeEnables m s).mgmt = s.mgmt
      ∧ (writeEnables m s).deliveries = s.deliveries ∧ (writeEnables m s).pending = s.pending := by
  simp [writeEnables]

/-! ### Classification and the ports -/

@[simp] theorem countShape_frame (p : UpPort) (s : State) :
    (countShape p s).time = s.time ∧ (countShape p s).lines = s.lines ∧ (countShape p s).sport = s.sport
      ∧ (countShape p s).classifier = s.classifier ∧ (countShape p s).pool = s.pool
      ∧ (countShape p s).posture = s.posture ∧ (countShape p s).gate = s.gate
      ∧ (countShape p s).link = s.link ∧ (countShape p s).rail = s.rail ∧ (countShape p s).charge = s.charge
      ∧ (countShape p s).power = s.power ∧ (countShape p s).mgmt = s.mgmt
      ∧ (countShape p s).deliveries = s.deliveries ∧ (countShape p s).pending = s.pending := by
  cases p <;> simp [countShape]

@[simp] theorem Consumer.take_frame (c : Consumer) (p : List Byte) (s : State) :
    (c.take p s).time = s.time ∧ (c.take p s).lines = s.lines ∧ (c.take p s).lport = s.lport
      ∧ (c.take p s).sport = s.sport ∧ (c.take p s).classifier = s.classifier ∧ (c.take p s).gate = s.gate
      ∧ (c.take p s).link = s.link ∧ (c.take p s).power = s.power ∧ (c.take p s).pending = s.pending := by
  cases c <;> simp [Consumer.take]

@[simp] theorem consume_frame (c : Consumer) (p : UpPort) (d : List Byte) (s : State) :
    (consume c p d s).time = s.time ∧ (consume c p d s).lines = s.lines ∧ (consume c p d s).sport = s.sport
      ∧ (consume c p d s).classifier = s.classifier ∧ (consume c p d s).gate = s.gate
      ∧ (consume c p d s).link = s.link ∧ (consume c p d s).power = s.power
      ∧ (consume c p d s).pending = s.pending := by
  simp only [consume]; (repeat' split) <;> simp

@[simp] theorem countUnconsumed_frame (s : State) :
    (countUnconsumed s).time = s.time ∧ (countUnconsumed s).lines = s.lines
      ∧ (countUnconsumed s).bport = s.bport ∧ (countUnconsumed s).lport = s.lport
      ∧ (countUnconsumed s).pport = s.pport ∧ (countUnconsumed s).sport = s.sport
      ∧ (countUnconsumed s).pool = s.pool ∧ (countUnconsumed s).posture = s.posture
      ∧ (countUnconsumed s).gate = s.gate ∧ (countUnconsumed s).link = s.link
      ∧ (countUnconsumed s).rail = s.rail ∧ (countUnconsumed s).charge = s.charge
      ∧ (countUnconsumed s).power = s.power ∧ (countUnconsumed s).mgmt = s.mgmt
      ∧ (countUnconsumed s).deliveries = s.deliveries ∧ (countUnconsumed s).pending = s.pending := by
  simp [countUnconsumed]

@[simp] theorem countGated_frame (s : State) :
    (countGated s).time = s.time ∧ (countGated s).lines = s.lines ∧ (countGated s).bport = s.bport
      ∧ (countGated s).lport = s.lport ∧ (countGated s).pport = s.pport ∧ (countGated s).sport = s.sport
      ∧ (countGated s).pool = s.pool ∧ (countGated s).posture = s.posture ∧ (countGated s).gate = s.gate
      ∧ (countGated s).link = s.link ∧ (countGated s).rail = s.rail ∧ (countGated s).charge = s.charge
      ∧ (countGated s).power = s.power ∧ (countGated s).mgmt = s.mgmt
      ∧ (countGated s).deliveries = s.deliveries ∧ (countGated s).pending = s.pending := by
  simp [countGated]

@[simp] theorem forward_frame (q : Option HostQueue) (f : Frame) (s : State) :
    ((forward q f s).2).time = s.time ∧ ((forward q f s).2).lines = s.lines
      ∧ ((forward q f s).2).bport = s.bport ∧ ((forward q f s).2).lport = s.lport
      ∧ ((forward q f s).2).pport = s.pport ∧ ((forward q f s).2).sport = s.sport
      ∧ ((forward q f s).2).classifier = s.classifier ∧ ((forward q f s).2).posture = s.posture
      ∧ ((forward q f s).2).gate = s.gate ∧ ((forward q f s).2).link = s.link
      ∧ ((forward q f s).2).rail = s.rail ∧ ((forward q f s).2).charge = s.charge
      ∧ ((forward q f s).2).power = s.power ∧ ((forward q f s).2).mgmt = s.mgmt
      ∧ ((forward q f s).2).pending = s.pending := by
  simp only [forward]; (repeat' split) <;> simp

@[simp] theorem forwardDecided_frame (d : Decision) (f : Frame) (s : State) :
    ((forwardDecided d f s).2).time = s.time ∧ ((forwardDecided d f s).2).lines = s.lines
      ∧ ((forwardDecided d f s).2).bport = s.bport ∧ ((forwardDecided d f s).2).lport = s.lport
      ∧ ((forwardDecided d f s).2).pport = s.pport ∧ ((forwardDecided d f s).2).sport = s.sport
      ∧ ((forwardDecided d f s).2).posture = s.posture ∧ ((forwardDecided d f s).2).link = s.link
      ∧ ((forwardDecided d f s).2).rail = s.rail ∧ ((forwardDecided d f s).2).charge = s.charge
      ∧ ((forwardDecided d f s).2).power = s.power ∧ ((forwardDecided d f s).2).mgmt = s.mgmt
      ∧ ((forwardDecided d f s).2).pending = s.pending := by
  simp only [forwardDecided]; (repeat' split) <;> simp

@[simp] theorem act_frame (d : Decision) (p : UpPort) (f : Frame) (s : State) :
    ((act d p f s).2).time = s.time ∧ ((act d p f s).2).lines = s.lines ∧ ((act d p f s).2).sport = s.sport
      ∧ ((act d p f s).2).link = s.link ∧ ((act d p f s).2).power = s.power
      ∧ ((act d p f s).2).pending = s.pending := by
  simp only [act]; (repeat' split) <;> simp

@[simp] theorem classify_frame (p : UpPort) (f : Frame) (s : State) :
    ((classify p f s).2).time = s.time ∧ ((classify p f s).2).lines = s.lines
      ∧ ((classify p f s).2).sport = s.sport ∧ ((classify p f s).2).link = s.link
      ∧ ((classify p f s).2).power = s.power ∧ ((classify p f s).2).pending = s.pending := by
  simp [classify]

@[simp] theorem countB_frame (f : BCounters → BCounters) (s : State) :
    (countB f s).time = s.time ∧ (countB f s).lines = s.lines ∧ (countB f s).lport = s.lport
      ∧ (countB f s).pport = s.pport ∧ (countB f s).sport = s.sport ∧ (countB f s).classifier = s.classifier
      ∧ (countB f s).pool = s.pool ∧ (countB f s).posture = s.posture ∧ (countB f s).gate = s.gate
      ∧ (countB f s).link = s.link ∧ (countB f s).rail = s.rail ∧ (countB f s).charge = s.charge
      ∧ (countB f s).power = s.power ∧ (countB f s).mgmt = s.mgmt ∧ (countB f s).deliveries = s.deliveries
      ∧ (countB f s).pending = s.pending := by
  simp [countB]

@[simp] theorem countL_frame (f : LCounters → LCounters) (s : State) :
    (countL f s).time = s.time ∧ (countL f s).lines = s.lines ∧ (countL f s).bport = s.bport
      ∧ (countL f s).pport = s.pport ∧ (countL f s).sport = s.sport ∧ (countL f s).classifier = s.classifier
      ∧ (countL f s).pool = s.pool ∧ (countL f s).posture = s.posture ∧ (countL f s).gate = s.gate
      ∧ (countL f s).link = s.link ∧ (countL f s).rail = s.rail ∧ (countL f s).charge = s.charge
      ∧ (countL f s).power = s.power ∧ (countL f s).mgmt = s.mgmt ∧ (countL f s).deliveries = s.deliveries
      ∧ (countL f s).pending = s.pending := by
  simp [countL]

@[simp] theorem countP_frame (f : PCounters → PCounters) (s : State) :
    (countP f s).time = s.time ∧ (countP f s).lines = s.lines ∧ (countP f s).bport = s.bport
      ∧ (countP f s).lport = s.lport ∧ (countP f s).sport = s.sport ∧ (countP f s).classifier = s.classifier
      ∧ (countP f s).pool = s.pool ∧ (countP f s).posture = s.posture ∧ (countP f s).gate = s.gate
      ∧ (countP f s).link = s.link ∧ (countP f s).rail = s.rail ∧ (countP f s).charge = s.charge
      ∧ (countP f s).power = s.power ∧ (countP f s).mgmt = s.mgmt ∧ (countP f s).deliveries = s.deliveries
      ∧ (countP f s).pending = s.pending := by
  simp [countP]

@[simp] theorem countS_frame (f : SCounters → SCounters) (s : State) :
    (countS f s).time = s.time ∧ (countS f s).lines = s.lines ∧ (countS f s).bport = s.bport
      ∧ (countS f s).lport = s.lport ∧ (countS f s).pport = s.pport ∧ (countS f s).classifier = s.classifier
      ∧ (countS f s).pool = s.pool ∧ (countS f s).posture = s.posture ∧ (countS f s).gate = s.gate
      ∧ (countS f s).link = s.link ∧ (countS f s).rail = s.rail ∧ (countS f s).charge = s.charge
      ∧ (countS f s).power = s.power ∧ (countS f s).mgmt = s.mgmt ∧ (countS f s).deliveries = s.deliveries
      ∧ (countS f s).pending = s.pending := by
  simp [countS]

@[simp] theorem answer_frame (d : Descriptor) (y : SymbolType) (c : Chan) (s : State) :
    (answer d y c s).time = s.time ∧ (answer d y c s).lines = s.lines ∧ (answer d y c s).lport = s.lport
      ∧ (answer d y c s).pport = s.pport ∧ (answer d y c s).sport = s.sport
      ∧ (answer d y c s).classifier = s.classifier ∧ (answer d y c s).pool = s.pool
      ∧ (answer d y c s).posture = s.posture ∧ (answer d y c s).gate = s.gate
      ∧ (answer d y c s).link = s.link ∧ (answer d y c s).rail = s.rail ∧ (answer d y c s).charge = s.charge
      ∧ (answer d y c s).power = s.power ∧ (answer d y c s).mgmt = s.mgmt
      ∧ (answer d y c s).deliveries = s.deliveries ∧ (answer d y c s).pending = s.pending := by
  simp only [answer]; (repeat' split) <;> simp

@[simp] theorem invertToggle_frame (c : Chan) (s : State) :
    (invertToggle c s).time = s.time ∧ (invertToggle c s).lines = s.lines
      ∧ (invertToggle c s).lport = s.lport ∧ (invertToggle c s).pport = s.pport
      ∧ (invertToggle c s).sport = s.sport ∧ (invertToggle c s).classifier = s.classifier
      ∧ (invertToggle c s).pool = s.pool ∧ (invertToggle c s).posture = s.posture
      ∧ (invertToggle c s).gate = s.gate ∧ (invertToggle c s).link = s.link
      ∧ (invertToggle c s).rail = s.rail ∧ (invertToggle c s).charge = s.charge
      ∧ (invertToggle c s).power = s.power ∧ (invertToggle c s).mgmt = s.mgmt
      ∧ (invertToggle c s).deliveries = s.deliveries ∧ (invertToggle c s).pending = s.pending := by
  simp [invertToggle]

@[simp] theorem settle_frame (d : Descriptor) (c : Chan) (a : Bool) (s : State) :
    (settle d c a s).time = s.time ∧ (settle d c a s).lines = s.lines ∧ (settle d c a s).lport = s.lport
      ∧ (settle d c a s).pport = s.pport ∧ (settle d c a s).sport = s.sport
      ∧ (settle d c a s).classifier = s.classifier ∧ (settle d c a s).pool = s.pool
      ∧ (settle d c a s).posture = s.posture ∧ (settle d c a s).gate = s.gate
      ∧ (settle d c a s).link = s.link ∧ (settle d c a s).rail = s.rail ∧ (settle d c a s).charge = s.charge
      ∧ (settle d c a s).power = s.power ∧ (settle d c a s).mgmt = s.mgmt
      ∧ (settle d c a s).deliveries = s.deliveries ∧ (settle d c a s).pending = s.pending := by
  simp only [settle]; (repeat' split) <;> simp

@[simp] theorem checkDeclared_frame (d : Descriptor) (f : Frame) (s : State) :
    (checkDeclared d f s).time = s.time ∧ (checkDeclared d f s).lines = s.lines
      ∧ (checkDeclared d f s).sport = s.sport ∧ (checkDeclared d f s).link = s.link
      ∧ (checkDeclared d f s).power = s.power ∧ (checkDeclared d f s).pending = s.pending := by
  simp only [checkDeclared]; (repeat' split) <;> simp

@[simp] theorem checkAttached_frame (f : Frame) (s : State) :
    (checkAttached f s).time = s.time ∧ (checkAttached f s).lines = s.lines
      ∧ (checkAttached f s).sport = s.sport ∧ (checkAttached f s).link = s.link
      ∧ (checkAttached f s).power = s.power ∧ (checkAttached f s).pending = s.pending := by
  simp only [checkAttached]; (repeat' split) <;> simp

@[simp] theorem takeBaseFrame_frame (f : Frame) (s : State) :
    (takeBaseFrame f s).time = s.time ∧ (takeBaseFrame f s).lines = s.lines
      ∧ (takeBaseFrame f s).sport = s.sport ∧ (takeBaseFrame f s).power = s.power
      ∧ (takeBaseFrame f s).pending = s.pending := by
  simp only [takeBaseFrame]; (repeat' split) <;> simp

@[simp] theorem receiveB_frame (u : List Byte) (s : State) :
    (receiveB u s).time = s.time ∧ (receiveB u s).lines = s.lines ∧ (receiveB u s).sport = s.sport
      ∧ (receiveB u s).power = s.power ∧ (receiveB u s).pending = s.pending := by
  simp only [receiveB]; (repeat' split) <;> simp

@[simp] theorem gapTest_frame (p : List Byte) (s : State) :
    (gapTest p s).time = s.time ∧ (gapTest p s).lines = s.lines ∧ (gapTest p s).bport = s.bport
      ∧ (gapTest p s).pport = s.pport ∧ (gapTest p s).sport = s.sport
      ∧ (gapTest p s).classifier = s.classifier ∧ (gapTest p s).pool = s.pool
      ∧ (gapTest p s).posture = s.posture ∧ (gapTest p s).gate = s.gate ∧ (gapTest p s).link = s.link
      ∧ (gapTest p s).rail = s.rail ∧ (gapTest p s).charge = s.charge ∧ (gapTest p s).power = s.power
      ∧ (gapTest p s).mgmt = s.mgmt ∧ (gapTest p s).deliveries = s.deliveries
      ∧ (gapTest p s).pending = s.pending := by
  simp only [gapTest]; (repeat' split) <;> simp

@[simp] theorem receiveL_frame (u : List Byte) (s : State) :
    (receiveL u s).time = s.time ∧ (receiveL u s).lines = s.lines ∧ (receiveL u s).sport = s.sport
      ∧ (receiveL u s).link = s.link ∧ (receiveL u s).power = s.power ∧ (receiveL u s).pending = s.pending := by
  simp only [receiveL]; (repeat' split) <;> simp

@[simp] theorem receiveP_frame (u : List Byte) (s : State) :
    (receiveP u s).time = s.time ∧ (receiveP u s).lines = s.lines ∧ (receiveP u s).sport = s.sport
      ∧ (receiveP u s).link = s.link ∧ (receiveP u s).power = s.power ∧ (receiveP u s).pending = s.pending := by
  simp only [receiveP]; (repeat' split) <;> simp

@[simp] theorem endWait_frame (s : State) :
    (endWait s).time = s.time ∧ (endWait s).lines = s.lines ∧ (endWait s).lport = s.lport
      ∧ (endWait s).pport = s.pport ∧ (endWait s).sport = s.sport ∧ (endWait s).classifier = s.classifier
      ∧ (endWait s).pool = s.pool ∧ (endWait s).posture = s.posture ∧ (endWait s).gate = s.gate
      ∧ (endWait s).link = s.link ∧ (endWait s).rail = s.rail ∧ (endWait s).charge = s.charge
      ∧ (endWait s).power = s.power ∧ (endWait s).mgmt = s.mgmt ∧ (endWait s).deliveries = s.deliveries
      ∧ (endWait s).pending = s.pending := by
  simp [endWait]

@[simp] theorem acknowledge_frame (i : BufIdx) (s : State) :
    (acknowledge i s).time = s.time ∧ (acknowledge i s).lines = s.lines ∧ (acknowledge i s).lport = s.lport
      ∧ (acknowledge i s).pport = s.pport ∧ (acknowledge i s).sport = s.sport
      ∧ (acknowledge i s).classifier = s.classifier ∧ (acknowledge i s).posture = s.posture
      ∧ (acknowledge i s).gate = s.gate ∧ (acknowledge i s).link = s.link ∧ (acknowledge i s).rail = s.rail
      ∧ (acknowledge i s).charge = s.charge ∧ (acknowledge i s).power = s.power
      ∧ (acknowledge i s).mgmt = s.mgmt ∧ (acknowledge i s).pending = s.pending := by
  simp [acknowledge]

@[simp] theorem dropAwaited_frame (i : BufIdx) (s : State) :
    (dropAwaited i s).time = s.time ∧ (dropAwaited i s).lines = s.lines ∧ (dropAwaited i s).lport = s.lport
      ∧ (dropAwaited i s).pport = s.pport ∧ (dropAwaited i s).sport = s.sport
      ∧ (dropAwaited i s).classifier = s.classifier ∧ (dropAwaited i s).posture = s.posture
      ∧ (dropAwaited i s).gate = s.gate ∧ (dropAwaited i s).link = s.link ∧ (dropAwaited i s).rail = s.rail
      ∧ (dropAwaited i s).charge = s.charge ∧ (dropAwaited i s).power = s.power
      ∧ (dropAwaited i s).mgmt = s.mgmt ∧ (dropAwaited i s).pending = s.pending := by
  simp [dropAwaited]

@[simp] theorem countStray_frame (s : State) :
    (countStray s).time = s.time ∧ (countStray s).lines = s.lines ∧ (countStray s).lport = s.lport
      ∧ (countStray s).pport = s.pport ∧ (countStray s).sport = s.sport
      ∧ (countStray s).classifier = s.classifier ∧ (countStray s).pool = s.pool
      ∧ (countStray s).posture = s.posture ∧ (countStray s).gate = s.gate ∧ (countStray s).link = s.link
      ∧ (countStray s).rail = s.rail ∧ (countStray s).charge = s.charge ∧ (countStray s).power = s.power
      ∧ (countStray s).mgmt = s.mgmt ∧ (countStray s).deliveries = s.deliveries
      ∧ (countStray s).pending = s.pending := by
  simp [countStray]

@[simp] theorem takeSymbol_frame (b : Byte) (s : State) :
    (takeSymbol b s).time = s.time ∧ (takeSymbol b s).lines = s.lines ∧ (takeSymbol b s).lport = s.lport
      ∧ (takeSymbol b s).pport = s.pport ∧ (takeSymbol b s).sport = s.sport
      ∧ (takeSymbol b s).classifier = s.classifier ∧ (takeSymbol b s).posture = s.posture
      ∧ (takeSymbol b s).gate = s.gate ∧ (takeSymbol b s).link = s.link ∧ (takeSymbol b s).rail = s.rail
      ∧ (takeSymbol b s).charge = s.charge ∧ (takeSymbol b s).power = s.power
      ∧ (takeSymbol b s).mgmt = s.mgmt ∧ (takeSymbol b s).pending = s.pending := by
  simp only [takeSymbol]; (repeat' split) <;> simp

@[simp] theorem symbolSent_frame (s : State) :
    (symbolSent s).time = s.time ∧ (symbolSent s).lines = s.lines ∧ (symbolSent s).lport = s.lport
      ∧ (symbolSent s).pport = s.pport ∧ (symbolSent s).sport = s.sport
      ∧ (symbolSent s).classifier = s.classifier ∧ (symbolSent s).posture = s.posture
      ∧ (symbolSent s).gate = s.gate ∧ (symbolSent s).link = s.link ∧ (symbolSent s).rail = s.rail
      ∧ (symbolSent s).charge = s.charge ∧ (symbolSent s).power = s.power ∧ (symbolSent s).mgmt = s.mgmt
      ∧ (symbolSent s).deliveries = s.deliveries ∧ (symbolSent s).pending = s.pending := by
  simp only [symbolSent]; (repeat' split) <;> simp

@[simp] theorem partFrameSent_frame (s : State) :
    (partFrameSent s).time = s.time ∧ (partFrameSent s).lines = s.lines ∧ (partFrameSent s).lport = s.lport
      ∧ (partFrameSent s).pport = s.pport ∧ (partFrameSent s).sport = s.sport
      ∧ (partFrameSent s).classifier = s.classifier ∧ (partFrameSent s).posture = s.posture
      ∧ (partFrameSent s).gate = s.gate ∧ (partFrameSent s).link = s.link ∧ (partFrameSent s).rail = s.rail
      ∧ (partFrameSent s).charge = s.charge ∧ (partFrameSent s).power = s.power
      ∧ (partFrameSent s).mgmt = s.mgmt ∧ (partFrameSent s).pending = s.pending := by
  simp only [partFrameSent]; (repeat' split) <;> simp

@[simp] theorem downFrameSent_frame (s : State) :
    (downFrameSent s).time = s.time ∧ (downFrameSent s).lines = s.lines ∧ (downFrameSent s).lport = s.lport
      ∧ (downFrameSent s).pport = s.pport ∧ (downFrameSent s).sport = s.sport
      ∧ (downFrameSent s).classifier = s.classifier ∧ (downFrameSent s).posture = s.posture
      ∧ (downFrameSent s).gate = s.gate ∧ (downFrameSent s).link = s.link ∧ (downFrameSent s).rail = s.rail
      ∧ (downFrameSent s).charge = s.charge ∧ (downFrameSent s).power = s.power
      ∧ (downFrameSent s).mgmt = s.mgmt ∧ (downFrameSent s).deliveries = s.deliveries
      ∧ (downFrameSent s).pending = s.pending := by
  simp only [downFrameSent]; (repeat' split) <;> simp

@[simp] theorem abandon_frame (i : BufIdx) (s : State) :
    (abandon i s).time = s.time ∧ (abandon i s).lines = s.lines ∧ (abandon i s).lport = s.lport
      ∧ (abandon i s).pport = s.pport ∧ (abandon i s).sport = s.sport
      ∧ (abandon i s).classifier = s.classifier ∧ (abandon i s).posture = s.posture
      ∧ (abandon i s).gate = s.gate ∧ (abandon i s).link = s.link ∧ (abandon i s).rail = s.rail
      ∧ (abandon i s).charge = s.charge ∧ (abandon i s).power = s.power ∧ (abandon i s).mgmt = s.mgmt
      ∧ (abandon i s).pending = s.pending := by
  simp [abandon]

@[simp] theorem cutShort_frame (b : BSending) (s : State) :
    (cutShort b s).time = s.time ∧ (cutShort b s).lines = s.lines ∧ (cutShort b s).lport = s.lport
      ∧ (cutShort b s).pport = s.pport ∧ (cutShort b s).sport = s.sport
      ∧ (cutShort b s).classifier = s.classifier ∧ (cutShort b s).posture = s.posture
      ∧ (cutShort b s).gate = s.gate ∧ (cutShort b s).link = s.link ∧ (cutShort b s).rail = s.rail
      ∧ (cutShort b s).charge = s.charge ∧ (cutShort b s).power = s.power ∧ (cutShort b s).mgmt = s.mgmt
      ∧ (cutShort b s).pending = s.pending := by
  cases b <;> simp [cutShort]

@[simp] theorem flushQueue_frame (q : QueueId) (s : State) :
    (flushQueue q s).time = s.time ∧ (flushQueue q s).lines = s.lines ∧ (flushQueue q s).bport = s.bport
      ∧ (flushQueue q s).lport = s.lport ∧ (flushQueue q s).pport = s.pport
      ∧ (flushQueue q s).sport = s.sport ∧ (flushQueue q s).classifier = s.classifier
      ∧ (flushQueue q s).posture = s.posture ∧ (flushQueue q s).gate = s.gate
      ∧ (flushQueue q s).link = s.link ∧ (flushQueue q s).rail = s.rail ∧ (flushQueue q s).charge = s.charge
      ∧ (flushQueue q s).power = s.power ∧ (flushQueue q s).mgmt = s.mgmt
      ∧ (flushQueue q s).pending = s.pending := by
  simp only [flushQueue]; (repeat' split) <;> simp

@[simp] theorem stopTransmitter_frame (s : State) :
    (stopTransmitter s).time = s.time ∧ (stopTransmitter s).lines = s.lines
      ∧ (stopTransmitter s).lport = s.lport ∧ (stopTransmitter s).pport = s.pport
      ∧ (stopTransmitter s).sport = s.sport ∧ (stopTransmitter s).classifier = s.classifier
      ∧ (stopTransmitter s).posture = s.posture ∧ (stopTransmitter s).gate = s.gate
      ∧ (stopTransmitter s).link = s.link ∧ (stopTransmitter s).rail = s.rail
      ∧ (stopTransmitter s).charge = s.charge ∧ (stopTransmitter s).power = s.power
      ∧ (stopTransmitter s).mgmt = s.mgmt ∧ (stopTransmitter s).pending = s.pending := by
  simp only [stopTransmitter]; (repeat' split) <;> simp

end Sys2Proof.Machine
end

