-- ==== Sys2Proof/Laws/Commands.lean ====
section
/-! SUPPORT. What the answering of a command and the taking of a delivery can do, and what each management
command leaves alone. -/

namespace Sys2Proof.Machine

/-! ### Deliveries -/

/-- A delivery is taken, or nothing changes. -/
theorem taking_cases {α : Type} (r : Block × Block) (sel : Delivery → Option α) (f : α → State → State) (s : State) :
    taking r sel f s = s
      ∨ ∃ a ds, takeNext r sel s.deliveries = some (a, ds) ∧ taking r sel f s = f a (s.setDeliveries ds) := by
  simp only [taking]
  cases h : takeNext r sel s.deliveries with
  | none => exact .inl rfl
  | some w => exact .inr ⟨w.1, w.2, by simp, rfl⟩

/-- Taking one particular delivery acts on the state without it, or nothing changes. -/
theorem takingOne_cases (d : Delivery) (f : State → State) (s : State) :
    takingOne d f s = s ∨ ∃ ds, takingOne d f s = f (s.setDeliveries ds) := by
  rcases taking_cases d.route (fun e => if e = d then some () else none) (fun _ => f) s with h | ⟨_, ds, _, h⟩
  · exact .inl h
  · exact .inr ⟨ds, h⟩

/-- The oldest delivery of its route is the one taken. -/
theorem takeNext_front {α : Type} (sel : Delivery → Option α) (d : Delivery) (a : α) (before after : List Delivery)
    (hd : sel d = some a) (hb : ∀ e ∈ before, e.route ≠ d.route) :
    takeNext d.route sel (before ++ d :: after) = some (a, before ++ after) := by
  induction before with
  | nil => simp [takeNext, hd]
  | cons e es ih =>
    have h1 : e.route ≠ d.route := hb e (by simp)
    have h2 := ih (fun x hx => hb x (by simp [hx]))
    simp [takeNext, h1, h2]

/-- Nothing is taken where nothing was delivered on the route. -/
theorem takeNext_none {α : Type} (r : Block × Block) (sel : Delivery → Option α) (ds : List Delivery)
    (h : ∀ d ∈ ds, d.route ≠ r) : takeNext r sel ds = none := by
  induction ds with
  | nil => rfl
  | cons d ds ih => simp [takeNext, h d (by simp), ih (fun x hx => h x (by simp [hx]))]

/-! ### Answers -/

/-- A command finds room and is completed in the buffer taken, or is refused as an overrun. -/
theorem respond_cases (code : Byte) (unit : List Byte) (run : State → Answer) (s : State) :
    (s.pool.hasRoom = true ∧ ∃ i p, s.pool.join .q0 [] = some (i, p)
        ∧ respond code unit run s = complete code i (run (s.setPool p)))
      ∨ respond code unit run s = overrun unit s := by
  simp only [respond]
  split
  · rename_i hr
    cases hj : s.pool.join .q0 [] with
    | none => exact .inr rfl
    | some w => exact .inl ⟨hr, w.1, w.2, rfl, rfl⟩
  · exact .inr rfl

@[simp] theorem countMgmt_frame (f : MgmtCounters → MgmtCounters) (s : State) :
    (countMgmt f s).time = s.time ∧ (countMgmt f s).lines = s.lines ∧ (countMgmt f s).bport = s.bport
      ∧ (countMgmt f s).lport = s.lport ∧ (countMgmt f s).pport = s.pport ∧ (countMgmt f s).sport = s.sport
      ∧ (countMgmt f s).classifier = s.classifier ∧ (countMgmt f s).pool = s.pool
      ∧ (countMgmt f s).posture = s.posture ∧ (countMgmt f s).gate = s.gate ∧ (countMgmt f s).link = s.link
      ∧ (countMgmt f s).rail = s.rail ∧ (countMgmt f s).charge = s.charge ∧ (countMgmt f s).power = s.power
      ∧ (countMgmt f s).deliveries = s.deliveries ∧ (countMgmt f s).pending = s.pending := by
  simp [countMgmt]

theorem complete_shape (code : Byte) (i : BufIdx) (a : Answer) :
    ∃ p m, complete code i a = (a.state.setPool p).setMgmt m ∧ m.flags = a.state.mgmt.flags
      ∧ m.enables = a.state.mgmt.enables ∧ m.attn = a.state.mgmt.attn
      ∧ m.owedNotices = a.state.mgmt.owedNotices ∧ m.owedState = a.state.mgmt.owedState
      ∧ m.lastReset = a.state.mgmt.lastReset :=
  ⟨_, _, rfl, rfl, rfl, rfl, rfl, rfl, rfl⟩

@[simp] theorem overrun_frame (u : List Byte) (s : State) :
    (overrun u s).time = s.time ∧ (overrun u s).lines = s.lines ∧ (overrun u s).bport = s.bport
      ∧ (overrun u s).lport = s.lport ∧ (overrun u s).pport = s.pport ∧ (overrun u s).sport = s.sport
      ∧ (overrun u s).posture = s.posture ∧ (overrun u s).gate = s.gate ∧ (overrun u s).link = s.link
      ∧ (overrun u s).rail = s.rail ∧ (overrun u s).charge = s.charge ∧ (overrun u s).power = s.power
      ∧ (overrun u s).mgmt = s.mgmt ∧ (overrun u s).pending = s.pending := by
  simp [overrun]

@[simp] theorem takeEvent_frame (c : EventCause) (s : State) :
    (takeEvent c s).time = s.time ∧ (takeEvent c s).lines = s.lines ∧ (takeEvent c s).bport = s.bport
      ∧ (takeEvent c s).lport = s.lport ∧ (takeEvent c s).pport = s.pport ∧ (takeEvent c s).sport = s.sport
      ∧ (takeEvent c s).classifier = s.classifier ∧ (takeEvent c s).posture = s.posture
      ∧ (takeEvent c s).gate = s.gate ∧ (takeEvent c s).link = s.link ∧ (takeEvent c s).rail = s.rail
      ∧ (takeEvent c s).charge = s.charge ∧ (takeEvent c s).power = s.power
      ∧ (takeEvent c s).deliveries = s.deliveries ∧ (takeEvent c s).pending = s.pending := by
  simp only [takeEvent]; (repeat' split) <;> simp

@[simp] theorem takeManagementEvent_frame (e : ManagementEvent) (s : State) :
    (takeManagementEvent e s).time = s.time ∧ (takeManagementEvent e s).lines = s.lines
      ∧ (takeManagementEvent e s).bport = s.bport ∧ (takeManagementEvent e s).lport = s.lport
      ∧ (takeManagementEvent e s).pport = s.pport ∧ (takeManagementEvent e s).sport = s.sport
      ∧ (takeManagementEvent e s).classifier = s.classifier
      ∧ (takeManagementEvent e s).posture = s.posture ∧ (takeManagementEvent e s).gate = s.gate
      ∧ (takeManagementEvent e s).link = s.link ∧ (takeManagementEvent e s).rail = s.rail
      ∧ (takeManagementEvent e s).charge = s.charge ∧ (takeManagementEvent e s).power = s.power
      ∧ (takeManagementEvent e s).deliveries = s.deliveries
      ∧ (takeManagementEvent e s).pending = s.pending := by
  cases e <;> simp [takeManagementEvent]

/-! ### Commands -/

@[simp] theorem okay_state (d : List Byte) (s : State) : (okay d s).state = s := rfl
@[simp] theorem refuse_state (st : Status) (s : State) : (refuse st s).state = s := rfl

@[simp] theorem setRoute_frame (i : Fin 24) (r : Route) (s : State) :
    (setRoute i r s).time = s.time ∧ (setRoute i r s).lines = s.lines ∧ (setRoute i r s).bport = s.bport
      ∧ (setRoute i r s).lport = s.lport ∧ (setRoute i r s).pport = s.pport
      ∧ (setRoute i r s).sport = s.sport ∧ (setRoute i r s).pool = s.pool
      ∧ (setRoute i r s).posture = s.posture ∧ (setRoute i r s).gate = s.gate
      ∧ (setRoute i r s).link = s.link ∧ (setRoute i r s).rail = s.rail ∧ (setRoute i r s).charge = s.charge
      ∧ (setRoute i r s).power = s.power ∧ (setRoute i r s).mgmt = s.mgmt
      ∧ (setRoute i r s).deliveries = s.deliveries ∧ (setRoute i r s).pending = s.pending := by
  simp [setRoute]

@[simp] theorem setPostureEntry_frame (i : Fin 8) (e : PostureEntry) (s : State) :
    (setPostureEntry i e s).time = s.time ∧ (setPostureEntry i e s).lines = s.lines
      ∧ (setPostureEntry i e s).bport = s.bport ∧ (setPostureEntry i e s).lport = s.lport
      ∧ (setPostureEntry i e s).pport = s.pport ∧ (setPostureEntry i e s).sport = s.sport
      ∧ (setPostureEntry i e s).classifier = s.classifier ∧ (setPostureEntry i e s).pool = s.pool
      ∧ (setPostureEntry i e s).gate = s.gate ∧ (setPostureEntry i e s).link = s.link
      ∧ (setPostureEntry i e s).rail = s.rail ∧ (setPostureEntry i e s).charge = s.charge
      ∧ (setPostureEntry i e s).power = s.power ∧ (setPostureEntry i e s).mgmt = s.mgmt
      ∧ (setPostureEntry i e s).deliveries = s.deliveries ∧ (setPostureEntry i e s).pending = s.pending := by
  simp [setPostureEntry]

@[simp] theorem currentRowWritten_frame (p : PostureEngine) (s : State) :
    (currentRowWritten p s).time = s.time ∧ (currentRowWritten p s).lines = s.lines
      ∧ (currentRowWritten p s).bport = s.bport ∧ (currentRowWritten p s).lport = s.lport
      ∧ (currentRowWritten p s).pport = s.pport ∧ (currentRowWritten p s).sport = s.sport
      ∧ (currentRowWritten p s).classifier = s.classifier ∧ (currentRowWritten p s).gate = s.gate
      ∧ (currentRowWritten p s).link = s.link ∧ (currentRowWritten p s).rail = s.rail
      ∧ (currentRowWritten p s).charge = s.charge ∧ (currentRowWritten p s).power = s.power
      ∧ (currentRowWritten p s).pending = s.pending ∧ (currentRowWritten p s).pool = s.pool
      ∧ (currentRowWritten p s).mgmt = s.mgmt := by
  simp [currentRowWritten]

@[simp] theorem setBaseClass_frame (i : Fin 4) (e : BaseClass) (s : State) :
    (setBaseClass i e s).time = s.time ∧ (setBaseClass i e s).lines = s.lines
      ∧ (setBaseClass i e s).bport = s.bport ∧ (setBaseClass i e s).lport = s.lport
      ∧ (setBaseClass i e s).pport = s.pport ∧ (setBaseClass i e s).sport = s.sport
      ∧ (setBaseClass i e s).classifier = s.classifier ∧ (setBaseClass i e s).pool = s.pool
      ∧ (setBaseClass i e s).posture = s.posture ∧ (setBaseClass i e s).gate = s.gate
      ∧ (setBaseClass i e s).rail = s.rail ∧ (setBaseClass i e s).charge = s.charge
      ∧ (setBaseClass i e s).power = s.power ∧ (setBaseClass i e s).mgmt = s.mgmt
      ∧ (setBaseClass i e s).deliveries = s.deliveries ∧ (setBaseClass i e s).pending = s.pending := by
  simp [setBaseClass]

@[simp] theorem setHalt_frame (c : Chan) (v : Bool) (s : State) :
    (setHalt c v s).time = s.time ∧ (setHalt c v s).lines = s.lines ∧ (setHalt c v s).lport = s.lport
      ∧ (setHalt c v s).pport = s.pport ∧ (setHalt c v s).sport = s.sport
      ∧ (setHalt c v s).classifier = s.classifier ∧ (setHalt c v s).pool = s.pool
      ∧ (setHalt c v s).posture = s.posture ∧ (setHalt c v s).gate = s.gate ∧ (setHalt c v s).link = s.link
      ∧ (setHalt c v s).rail = s.rail ∧ (setHalt c v s).charge = s.charge ∧ (setHalt c v s).power = s.power
      ∧ (setHalt c v s).mgmt = s.mgmt ∧ (setHalt c v s).deliveries = s.deliveries
      ∧ (setHalt c v s).pending = s.pending := by
  simp [setHalt]

@[simp] theorem announce_frame (m : BitVec 16) (cs : List EventCause) (s : State) :
    (announce m cs s).time = s.time ∧ (announce m cs s).lines = s.lines ∧ (announce m cs s).bport = s.bport
      ∧ (announce m cs s).lport = s.lport ∧ (announce m cs s).pport = s.pport
      ∧ (announce m cs s).sport = s.sport ∧ (announce m cs s).classifier = s.classifier
      ∧ (announce m cs s).posture = s.posture ∧ (announce m cs s).gate = s.gate
      ∧ (announce m cs s).link = s.link ∧ (announce m cs s).rail = s.rail
      ∧ (announce m cs s).charge = s.charge ∧ (announce m cs s).power = s.power
      ∧ (announce m cs s).deliveries = s.deliveries ∧ (announce m cs s).pending = s.pending
      ∧ (announce m cs s).mgmt.flags = s.mgmt.flags ∧ (announce m cs s).mgmt.enables = s.mgmt.enables
      ∧ (announce m cs s).mgmt.attn = s.mgmt.attn ∧ (announce m cs s).mgmt.lastReset = s.mgmt.lastReset := by
  induction cs generalizing s with
  | nil => simp [announce]
  | cons c cs ih => simp only [announce]; split <;> simp [ih]

@[simp] theorem setEnables_frame (m : BitVec 16) (s : State) :
    (setEnables m s).time = s.time ∧ (setEnables m s).lines = s.lines ∧ (setEnables m s).bport = s.bport
      ∧ (setEnables m s).lport = s.lport ∧ (setEnables m s).pport = s.pport
      ∧ (setEnables m s).sport = s.sport ∧ (setEnables m s).classifier = s.classifier
      ∧ (setEnables m s).posture = s.posture ∧ (setEnables m s).gate = s.gate
      ∧ (setEnables m s).link = s.link ∧ (setEnables m s).rail = s.rail ∧ (setEnables m s).charge = s.charge
      ∧ (setEnables m s).power = s.power ∧ (setEnables m s).deliveries = s.deliveries
      ∧ (setEnables m s).pending = s.pending := by
  simp [setEnables]

@[simp] theorem clearGroup_frame (g : Fin 11) (s : State) :
    (clearGroup g s).time = s.time ∧ (clearGroup g s).lines = s.lines ∧ (clearGroup g s).pool = s.pool
      ∧ (clearGroup g s).posture = s.posture ∧ (clearGroup g s).deliveries = s.deliveries
      ∧ (clearGroup g s).pending = s.pending := by
  simp only [clearGroup]; split <;> simp

@[simp] theorem chargeOn_frame (s : State) :
    ((chargeOn s).state).time = s.time ∧ ((chargeOn s).state).lines = s.lines
      ∧ ((chargeOn s).state).bport = s.bport ∧ ((chargeOn s).state).lport = s.lport
      ∧ ((chargeOn s).state).pport = s.pport ∧ ((chargeOn s).state).sport = s.sport
      ∧ ((chargeOn s).state).classifier = s.classifier ∧ ((chargeOn s).state).pool = s.pool
      ∧ ((chargeOn s).state).posture = s.posture ∧ ((chargeOn s).state).gate = s.gate
      ∧ ((chargeOn s).state).link = s.link ∧ ((chargeOn s).state).rail = s.rail
      ∧ ((chargeOn s).state).power = s.power ∧ ((chargeOn s).state).mgmt = s.mgmt
      ∧ ((chargeOn s).state).deliveries = s.deliveries ∧ ((chargeOn s).state).pending = s.pending := by
  simp only [chargeOn]; (repeat' split) <;> simp

@[simp] theorem chargeOff_frame (s : State) :
    ((chargeOff s).state).time = s.time ∧ ((chargeOff s).state).lines = s.lines
      ∧ ((chargeOff s).state).lport = s.lport ∧ ((chargeOff s).state).sport = s.sport
      ∧ ((chargeOff s).state).classifier = s.classifier ∧ ((chargeOff s).state).pool = s.pool
      ∧ ((chargeOff s).state).posture = s.posture ∧ ((chargeOff s).state).gate = s.gate
      ∧ ((chargeOff s).state).link = s.link ∧ ((chargeOff s).state).power = s.power
      ∧ ((chargeOff s).state).mgmt = s.mgmt ∧ ((chargeOff s).state).pending = s.pending := by
  simp only [chargeOff]; (repeat' split) <;> simp

@[simp] theorem cmdGetInfo_frame (a : List Byte) (s : State) :
    ((cmdGetInfo a s).state).time = s.time ∧ ((cmdGetInfo a s).state).lines = s.lines
      ∧ ((cmdGetInfo a s).state).bport = s.bport ∧ ((cmdGetInfo a s).state).lport = s.lport
      ∧ ((cmdGetInfo a s).state).pport = s.pport ∧ ((cmdGetInfo a s).state).sport = s.sport
      ∧ ((cmdGetInfo a s).state).classifier = s.classifier ∧ ((cmdGetInfo a s).state).pool = s.pool
      ∧ ((cmdGetInfo a s).state).posture = s.posture ∧ ((cmdGetInfo a s).state).gate = s.gate
      ∧ ((cmdGetInfo a s).state).link = s.link ∧ ((cmdGetInfo a s).state).rail = s.rail
      ∧ ((cmdGetInfo a s).state).charge = s.charge ∧ ((cmdGetInfo a s).state).power = s.power
      ∧ ((cmdGetInfo a s).state).mgmt = s.mgmt ∧ ((cmdGetInfo a s).state).deliveries = s.deliveries
      ∧ ((cmdGetInfo a s).state).pending = s.pending := by
  simp only [cmdGetInfo]; (repeat' split) <;> simp

@[simp] theorem cmdWriteRoute_frame (a : List Byte) (s : State) :
    ((cmdWriteRoute a s).state).time = s.time ∧ ((cmdWriteRoute a s).state).lines = s.lines
      ∧ ((cmdWriteRoute a s).state).bport = s.bport ∧ ((cmdWriteRoute a s).state).lport = s.lport
      ∧ ((cmdWriteRoute a s).state).pport = s.pport ∧ ((cmdWriteRoute a s).state).sport = s.sport
      ∧ ((cmdWriteRoute a s).state).pool = s.pool ∧ ((cmdWriteRoute a s).state).posture = s.posture
      ∧ ((cmdWriteRoute a s).state).gate = s.gate ∧ ((cmdWriteRoute a s).state).link = s.link
      ∧ ((cmdWriteRoute a s).state).rail = s.rail ∧ ((cmdWriteRoute a s).state).charge = s.charge
      ∧ ((cmdWriteRoute a s).state).power = s.power ∧ ((cmdWriteRoute a s).state).mgmt = s.mgmt
      ∧ ((cmdWriteRoute a s).state).deliveries = s.deliveries
      ∧ ((cmdWriteRoute a s).state).pending = s.pending := by
  simp only [cmdWriteRoute]; (repeat' split) <;> simp

@[simp] theorem cmdInvalidateRoute_frame (a : List Byte) (s : State) :
    ((cmdInvalidateRoute a s).state).time = s.time ∧ ((cmdInvalidateRoute a s).state).lines = s.lines
      ∧ ((cmdInvalidateRoute a s).state).bport = s.bport ∧ ((cmdInvalidateRoute a s).state).lport = s.lport
      ∧ ((cmdInvalidateRoute a s).state).pport = s.pport ∧ ((cmdInvalidateRoute a s).state).sport = s.sport
      ∧ ((cmdInvalidateRoute a s).state).pool = s.pool
      ∧ ((cmdInvalidateRoute a s).state).posture = s.posture
      ∧ ((cmdInvalidateRoute a s).state).gate = s.gate ∧ ((cmdInvalidateRoute a s).state).link = s.link
      ∧ ((cmdInvalidateRoute a s).state).rail = s.rail ∧ ((cmdInvalidateRoute a s).state).charge = s.charge
      ∧ ((cmdInvalidateRoute a s).state).power = s.power ∧ ((cmdInvalidateRoute a s).state).mgmt = s.mgmt
      ∧ ((cmdInvalidateRoute a s).state).deliveries = s.deliveries
      ∧ ((cmdInvalidateRoute a s).state).pending = s.pending := by
  simp only [cmdInvalidateRoute]; (repeat' split) <;> simp

@[simp] theorem cmdReadRoute_frame (a : List Byte) (s : State) :
    ((cmdReadRoute a s).state).time = s.time ∧ ((cmdReadRoute a s).state).lines = s.lines
      ∧ ((cmdReadRoute a s).state).bport = s.bport ∧ ((cmdReadRoute a s).state).lport = s.lport
      ∧ ((cmdReadRoute a s).state).pport = s.pport ∧ ((cmdReadRoute a s).state).sport = s.sport
      ∧ ((cmdReadRoute a s).state).pool = s.pool ∧ ((cmdReadRoute a s).state).posture = s.posture
      ∧ ((cmdReadRoute a s).state).gate = s.gate ∧ ((cmdReadRoute a s).state).link = s.link
      ∧ ((cmdReadRoute a s).state).rail = s.rail ∧ ((cmdReadRoute a s).state).charge = s.charge
      ∧ ((cmdReadRoute a s).state).power = s.power ∧ ((cmdReadRoute a s).state).mgmt = s.mgmt
      ∧ ((cmdReadRoute a s).state).deliveries = s.deliveries
      ∧ ((cmdReadRoute a s).state).pending = s.pending := by
  simp only [cmdReadRoute]; (repeat' split) <;> simp

@[simp] theorem cmdSetDefaultRoute_frame (a : List Byte) (s : State) :
    ((cmdSetDefaultRoute a s).state).time = s.time ∧ ((cmdSetDefaultRoute a s).state).lines = s.lines
      ∧ ((cmdSetDefaultRoute a s).state).bport = s.bport ∧ ((cmdSetDefaultRoute a s).state).lport = s.lport
      ∧ ((cmdSetDefaultRoute a s).state).pport = s.pport ∧ ((cmdSetDefaultRoute a s).state).sport = s.sport
      ∧ ((cmdSetDefaultRoute a s).state).pool = s.pool
      ∧ ((cmdSetDefaultRoute a s).state).posture = s.posture
      ∧ ((cmdSetDefaultRoute a s).state).gate = s.gate ∧ ((cmdSetDefaultRoute a s).state).link = s.link
      ∧ ((cmdSetDefaultRoute a s).state).rail = s.rail ∧ ((cmdSetDefaultRoute a s).state).charge = s.charge
      ∧ ((cmdSetDefaultRoute a s).state).power = s.power ∧ ((cmdSetDefaultRoute a s).state).mgmt = s.mgmt
      ∧ ((cmdSetDefaultRoute a s).state).deliveries = s.deliveries
      ∧ ((cmdSetDefaultRoute a s).state).pending = s.pending := by
  simp only [cmdSetDefaultRoute]; (repeat' split) <;> simp

@[simp] theorem cmdWritePosture_frame (a : List Byte) (s : State) :
    ((cmdWritePosture a s).state).time = s.time ∧ ((cmdWritePosture a s).state).lines = s.lines
      ∧ ((cmdWritePosture a s).state).bport = s.bport ∧ ((cmdWritePosture a s).state).lport = s.lport
      ∧ ((cmdWritePosture a s).state).pport = s.pport ∧ ((cmdWritePosture a s).state).sport = s.sport
      ∧ ((cmdWritePosture a s).state).classifier = s.classifier
      ∧ ((cmdWritePosture a s).state).pool = s.pool ∧ ((cmdWritePosture a s).state).gate = s.gate
      ∧ ((cmdWritePosture a s).state).link = s.link ∧ ((cmdWritePosture a s).state).rail = s.rail
      ∧ ((cmdWritePosture a s).state).charge = s.charge ∧ ((cmdWritePosture a s).state).power = s.power
      ∧ ((cmdWritePosture a s).state).mgmt = s.mgmt
      ∧ ((cmdWritePosture a s).state).deliveries = s.deliveries
      ∧ ((cmdWritePosture a s).state).pending = s.pending := by
  simp only [cmdWritePosture]; (repeat' split) <;> simp

@[simp] theorem cmdInvalidatePosture_frame (a : List Byte) (s : State) :
    ((cmdInvalidatePosture a s).state).time = s.time ∧ ((cmdInvalidatePosture a s).state).lines = s.lines
      ∧ ((cmdInvalidatePosture a s).state).bport = s.bport
      ∧ ((cmdInvalidatePosture a s).state).lport = s.lport
      ∧ ((cmdInvalidatePosture a s).state).pport = s.pport
      ∧ ((cmdInvalidatePosture a s).state).sport = s.sport
      ∧ ((cmdInvalidatePosture a s).state).classifier = s.classifier
      ∧ ((cmdInvalidatePosture a s).state).pool = s.pool ∧ ((cmdInvalidatePosture a s).state).gate = s.gate
      ∧ ((cmdInvalidatePosture a s).state).link = s.link ∧ ((cmdInvalidatePosture a s).state).rail = s.rail
      ∧ ((cmdInvalidatePosture a s).state).charge = s.charge
      ∧ ((cmdInvalidatePosture a s).state).power = s.power
      ∧ ((cmdInvalidatePosture a s).state).mgmt = s.mgmt
      ∧ ((cmdInvalidatePosture a s).state).deliveries = s.deliveries
      ∧ ((cmdInvalidatePosture a s).state).pending = s.pending := by
  simp only [cmdInvalidatePosture]; (repeat' split) <;> simp

@[simp] theorem cmdReadPostureEntry_frame (a : List Byte) (s : State) :
    ((cmdReadPostureEntry a s).state).time = s.time ∧ ((cmdReadPostureEntry a s).state).lines = s.lines
      ∧ ((cmdReadPostureEntry a s).state).bport = s.bport
      ∧ ((cmdReadPostureEntry a s).state).lport = s.lport
      ∧ ((cmdReadPostureEntry a s).state).pport = s.pport
      ∧ ((cmdReadPostureEntry a s).state).sport = s.sport
      ∧ ((cmdReadPostureEntry a s).state).classifier = s.classifier
      ∧ ((cmdReadPostureEntry a s).state).pool = s.pool
      ∧ ((cmdReadPostureEntry a s).state).posture = s.posture
      ∧ ((cmdReadPostureEntry a s).state).gate = s.gate ∧ ((cmdReadPostureEntry a s).state).link = s.link
      ∧ ((cmdReadPostureEntry a s).state).rail = s.rail
      ∧ ((cmdReadPostureEntry a s).state).charge = s.charge
      ∧ ((cmdReadPostureEntry a s).state).power = s.power ∧ ((cmdReadPostureEntry a s).state).mgmt = s.mgmt
      ∧ ((cmdReadPostureEntry a s).state).deliveries = s.deliveries
      ∧ ((cmdReadPostureEntry a s).state).pending = s.pending := by
  simp only [cmdReadPostureEntry]; (repeat' split) <;> simp

@[simp] theorem cmdWritePolicy_frame (a : List Byte) (s : State) :
    ((cmdWritePolicy a s).state).time = s.time ∧ ((cmdWritePolicy a s).state).lines = s.lines
      ∧ ((cmdWritePolicy a s).state).bport = s.bport ∧ ((cmdWritePolicy a s).state).lport = s.lport
      ∧ ((cmdWritePolicy a s).state).pport = s.pport ∧ ((cmdWritePolicy a s).state).sport = s.sport
      ∧ ((cmdWritePolicy a s).state).classifier = s.classifier
      ∧ ((cmdWritePolicy a s).state).gate = s.gate ∧ ((cmdWritePolicy a s).state).link = s.link
      ∧ ((cmdWritePolicy a s).state).rail = s.rail ∧ ((cmdWritePolicy a s).state).charge = s.charge
      ∧ ((cmdWritePolicy a s).state).power = s.power ∧ ((cmdWritePolicy a s).state).pending = s.pending
      ∧ ((cmdWritePolicy a s).state).pool = s.pool ∧ ((cmdWritePolicy a s).state).mgmt = s.mgmt := by
  simp only [cmdWritePolicy]; (repeat' split) <;> simp

@[simp] theorem cmdWriteAxisMap_frame (a : List Byte) (s : State) :
    ((cmdWriteAxisMap a s).state).time = s.time ∧ ((cmdWriteAxisMap a s).state).lines = s.lines
      ∧ ((cmdWriteAxisMap a s).state).bport = s.bport ∧ ((cmdWriteAxisMap a s).state).lport = s.lport
      ∧ ((cmdWriteAxisMap a s).state).pport = s.pport ∧ ((cmdWriteAxisMap a s).state).sport = s.sport
      ∧ ((cmdWriteAxisMap a s).state).classifier = s.classifier
      ∧ ((cmdWriteAxisMap a s).state).gate = s.gate ∧ ((cmdWriteAxisMap a s).state).link = s.link
      ∧ ((cmdWriteAxisMap a s).state).rail = s.rail ∧ ((cmdWriteAxisMap a s).state).charge = s.charge
      ∧ ((cmdWriteAxisMap a s).state).power = s.power ∧ ((cmdWriteAxisMap a s).state).pending = s.pending
      ∧ ((cmdWriteAxisMap a s).state).pool = s.pool ∧ ((cmdWriteAxisMap a s).state).mgmt = s.mgmt := by
  simp only [cmdWriteAxisMap]; (repeat' split) <;> simp

@[simp] theorem cmdWriteAngleParams_frame (a : List Byte) (s : State) :
    ((cmdWriteAngleParams a s).state).time = s.time ∧ ((cmdWriteAngleParams a s).state).lines = s.lines
      ∧ ((cmdWriteAngleParams a s).state).bport = s.bport
      ∧ ((cmdWriteAngleParams a s).state).lport = s.lport
      ∧ ((cmdWriteAngleParams a s).state).pport = s.pport
      ∧ ((cmdWriteAngleParams a s).state).sport = s.sport
      ∧ ((cmdWriteAngleParams a s).state).classifier = s.classifier
      ∧ ((cmdWriteAngleParams a s).state).pool = s.pool ∧ ((cmdWriteAngleParams a s).state).gate = s.gate
      ∧ ((cmdWriteAngleParams a s).state).link = s.link ∧ ((cmdWriteAngleParams a s).state).rail = s.rail
      ∧ ((cmdWriteAngleParams a s).state).charge = s.charge
      ∧ ((cmdWriteAngleParams a s).state).power = s.power ∧ ((cmdWriteAngleParams a s).state).mgmt = s.mgmt
      ∧ ((cmdWriteAngleParams a s).state).deliveries = s.deliveries
      ∧ ((cmdWriteAngleParams a s).state).pending = s.pending := by
  simp only [cmdWriteAngleParams]; (repeat' split) <;> simp

@[simp] theorem cmdReadPostureRecord_frame (a : List Byte) (s : State) :
    ((cmdReadPostureRecord a s).state).time = s.time ∧ ((cmdReadPostureRecord a s).state).lines = s.lines
      ∧ ((cmdReadPostureRecord a s).state).bport = s.bport
      ∧ ((cmdReadPostureRecord a s).state).lport = s.lport
      ∧ ((cmdReadPostureRecord a s).state).pport = s.pport
      ∧ ((cmdReadPostureRecord a s).state).sport = s.sport
      ∧ ((cmdReadPostureRecord a s).state).classifier = s.classifier
      ∧ ((cmdReadPostureRecord a s).state).pool = s.pool
      ∧ ((cmdReadPostureRecord a s).state).posture = s.posture
      ∧ ((cmdReadPostureRecord a s).state).gate = s.gate ∧ ((cmdReadPostureRecord a s).state).link = s.link
      ∧ ((cmdReadPostureRecord a s).state).rail = s.rail
      ∧ ((cmdReadPostureRecord a s).state).charge = s.charge
      ∧ ((cmdReadPostureRecord a s).state).power = s.power
      ∧ ((cmdReadPostureRecord a s).state).mgmt = s.mgmt
      ∧ ((cmdReadPostureRecord a s).state).deliveries = s.deliveries
      ∧ ((cmdReadPostureRecord a s).state).pending = s.pending := by
  simp only [cmdReadPostureRecord]; (repeat' split) <;> simp

@[simp] theorem cmdSetRotationLock_frame (a : List Byte) (s : State) :
    ((cmdSetRotationLock a s).state).time = s.time ∧ ((cmdSetRotationLock a s).state).lines = s.lines
      ∧ ((cmdSetRotationLock a s).state).bport = s.bport
      ∧ ((cmdSetRotationLock a s).state).lport = s.lport
      ∧ ((cmdSetRotationLock a s).state).pport = s.pport
      ∧ ((cmdSetRotationLock a s).state).sport = s.sport
      ∧ ((cmdSetRotationLock a s).state).classifier = s.classifier
      ∧ ((cmdSetRotationLock a s).state).gate = s.gate ∧ ((cmdSetRotationLock a s).state).link = s.link
      ∧ ((cmdSetRotationLock a s).state).rail = s.rail
      ∧ ((cmdSetRotationLock a s).state).charge = s.charge
      ∧ ((cmdSetRotationLock a s).state).power = s.power
      ∧ ((cmdSetRotationLock a s).state).pending = s.pending
      ∧ ((cmdSetRotationLock a s).state).pool = s.pool
      ∧ ((cmdSetRotationLock a s).state).mgmt = s.mgmt := by
  simp only [cmdSetRotationLock]; (repeat' split) <;> simp

@[simp] theorem cmdWriteBaseClass_frame (a : List Byte) (s : State) :
    ((cmdWriteBaseClass a s).state).time = s.time ∧ ((cmdWriteBaseClass a s).state).lines = s.lines
      ∧ ((cmdWriteBaseClass a s).state).bport = s.bport ∧ ((cmdWriteBaseClass a s).state).lport = s.lport
      ∧ ((cmdWriteBaseClass a s).state).pport = s.pport ∧ ((cmdWriteBaseClass a s).state).sport = s.sport
      ∧ ((cmdWriteBaseClass a s).state).classifier = s.classifier
      ∧ ((cmdWriteBaseClass a s).state).pool = s.pool ∧ ((cmdWriteBaseClass a s).state).posture = s.posture
      ∧ ((cmdWriteBaseClass a s).state).gate = s.gate ∧ ((cmdWriteBaseClass a s).state).rail = s.rail
      ∧ ((cmdWriteBaseClass a s).state).charge = s.charge ∧ ((cmdWriteBaseClass a s).state).power = s.power
      ∧ ((cmdWriteBaseClass a s).state).mgmt = s.mgmt
      ∧ ((cmdWriteBaseClass a s).state).deliveries = s.deliveries
      ∧ ((cmdWriteBaseClass a s).state).pending = s.pending := by
  simp only [cmdWriteBaseClass]; (repeat' split) <;> simp

@[simp] theorem cmdReadBaseRecord_frame (a : List Byte) (s : State) :
    ((cmdReadBaseRecord a s).state).time = s.time ∧ ((cmdReadBaseRecord a s).state).lines = s.lines
      ∧ ((cmdReadBaseRecord a s).state).bport = s.bport ∧ ((cmdReadBaseRecord a s).state).lport = s.lport
      ∧ ((cmdReadBaseRecord a s).state).pport = s.pport ∧ ((cmdReadBaseRecord a s).state).sport = s.sport
      ∧ ((cmdReadBaseRecord a s).state).classifier = s.classifier
      ∧ ((cmdReadBaseRecord a s).state).pool = s.pool ∧ ((cmdReadBaseRecord a s).state).posture = s.posture
      ∧ ((cmdReadBaseRecord a s).state).gate = s.gate ∧ ((cmdReadBaseRecord a s).state).link = s.link
      ∧ ((cmdReadBaseRecord a s).state).rail = s.rail ∧ ((cmdReadBaseRecord a s).state).charge = s.charge
      ∧ ((cmdReadBaseRecord a s).state).power = s.power ∧ ((cmdReadBaseRecord a s).state).mgmt = s.mgmt
      ∧ ((cmdReadBaseRecord a s).state).deliveries = s.deliveries
      ∧ ((cmdReadBaseRecord a s).state).pending = s.pending := by
  simp only [cmdReadBaseRecord]; (repeat' split) <;> simp

@[simp] theorem cmdSetLinkTiming_frame (a : List Byte) (s : State) :
    ((cmdSetLinkTiming a s).state).time = s.time ∧ ((cmdSetLinkTiming a s).state).lines = s.lines
      ∧ ((cmdSetLinkTiming a s).state).bport = s.bport ∧ ((cmdSetLinkTiming a s).state).lport = s.lport
      ∧ ((cmdSetLinkTiming a s).state).pport = s.pport ∧ ((cmdSetLinkTiming a s).state).sport = s.sport
      ∧ ((cmdSetLinkTiming a s).state).classifier = s.classifier
      ∧ ((cmdSetLinkTiming a s).state).pool = s.pool ∧ ((cmdSetLinkTiming a s).state).posture = s.posture
      ∧ ((cmdSetLinkTiming a s).state).gate = s.gate ∧ ((cmdSetLinkTiming a s).state).rail = s.rail
      ∧ ((cmdSetLinkTiming a s).state).charge = s.charge ∧ ((cmdSetLinkTiming a s).state).power = s.power
      ∧ ((cmdSetLinkTiming a s).state).mgmt = s.mgmt
      ∧ ((cmdSetLinkTiming a s).state).deliveries = s.deliveries
      ∧ ((cmdSetLinkTiming a s).state).pending = s.pending := by
  simp only [cmdSetLinkTiming]; (repeat' split) <;> simp

@[simp] theorem cmdChannelHalt_frame (a : List Byte) (s : State) :
    ((cmdChannelHalt a s).state).time = s.time ∧ ((cmdChannelHalt a s).state).lines = s.lines
      ∧ ((cmdChannelHalt a s).state).lport = s.lport ∧ ((cmdChannelHalt a s).state).pport = s.pport
      ∧ ((cmdChannelHalt a s).state).sport = s.sport
      ∧ ((cmdChannelHalt a s).state).classifier = s.classifier ∧ ((cmdChannelHalt a s).state).pool = s.pool
      ∧ ((cmdChannelHalt a s).state).posture = s.posture ∧ ((cmdChannelHalt a s).state).gate = s.gate
      ∧ ((cmdChannelHalt a s).state).link = s.link ∧ ((cmdChannelHalt a s).state).rail = s.rail
      ∧ ((cmdChannelHalt a s).state).charge = s.charge ∧ ((cmdChannelHalt a s).state).power = s.power
      ∧ ((cmdChannelHalt a s).state).mgmt = s.mgmt ∧ ((cmdChannelHalt a s).state).deliveries = s.deliveries
      ∧ ((cmdChannelHalt a s).state).pending = s.pending := by
  simp only [cmdChannelHalt]; (repeat' split) <;> simp

@[simp] theorem cmdChannelResume_frame (a : List Byte) (s : State) :
    ((cmdChannelResume a s).state).time = s.time ∧ ((cmdChannelResume a s).state).lines = s.lines
      ∧ ((cmdChannelResume a s).state).lport = s.lport ∧ ((cmdChannelResume a s).state).pport = s.pport
      ∧ ((cmdChannelResume a s).state).sport = s.sport
      ∧ ((cmdChannelResume a s).state).classifier = s.classifier
      ∧ ((cmdChannelResume a s).state).pool = s.pool ∧ ((cmdChannelResume a s).state).posture = s.posture
      ∧ ((cmdChannelResume a s).state).gate = s.gate ∧ ((cmdChannelResume a s).state).link = s.link
      ∧ ((cmdChannelResume a s).state).rail = s.rail ∧ ((cmdChannelResume a s).state).charge = s.charge
      ∧ ((cmdChannelResume a s).state).power = s.power ∧ ((cmdChannelResume a s).state).mgmt = s.mgmt
      ∧ ((cmdChannelResume a s).state).deliveries = s.deliveries
      ∧ ((cmdChannelResume a s).state).pending = s.pending := by
  simp only [cmdChannelResume]; (repeat' split) <;> simp

@[simp] theorem cmdSetBudget_frame (a : List Byte) (s : State) :
    ((cmdSetBudget a s).state).time = s.time ∧ ((cmdSetBudget a s).state).lines = s.lines
      ∧ ((cmdSetBudget a s).state).bport = s.bport ∧ ((cmdSetBudget a s).state).lport = s.lport
      ∧ ((cmdSetBudget a s).state).pport = s.pport ∧ ((cmdSetBudget a s).state).sport = s.sport
      ∧ ((cmdSetBudget a s).state).classifier = s.classifier ∧ ((cmdSetBudget a s).state).pool = s.pool
      ∧ ((cmdSetBudget a s).state).posture = s.posture ∧ ((cmdSetBudget a s).state).gate = s.gate
      ∧ ((cmdSetBudget a s).state).link = s.link ∧ ((cmdSetBudget a s).state).charge = s.charge
      ∧ ((cmdSetBudget a s).state).power = s.power ∧ ((cmdSetBudget a s).state).mgmt = s.mgmt
      ∧ ((cmdSetBudget a s).state).pending = s.pending := by
  simp only [cmdSetBudget]; (repeat' split) <;> simp

@[simp] theorem cmdReadBudget_frame (a : List Byte) (s : State) :
    ((cmdReadBudget a s).state).time = s.time ∧ ((cmdReadBudget a s).state).lines = s.lines
      ∧ ((cmdReadBudget a s).state).bport = s.bport ∧ ((cmdReadBudget a s).state).lport = s.lport
      ∧ ((cmdReadBudget a s).state).pport = s.pport ∧ ((cmdReadBudget a s).state).sport = s.sport
      ∧ ((cmdReadBudget a s).state).classifier = s.classifier ∧ ((cmdReadBudget a s).state).pool = s.pool
      ∧ ((cmdReadBudget a s).state).posture = s.posture ∧ ((cmdReadBudget a s).state).gate = s.gate
      ∧ ((cmdReadBudget a s).state).link = s.link ∧ ((cmdReadBudget a s).state).rail = s.rail
      ∧ ((cmdReadBudget a s).state).charge = s.charge ∧ ((cmdReadBudget a s).state).power = s.power
      ∧ ((cmdReadBudget a s).state).mgmt = s.mgmt ∧ ((cmdReadBudget a s).state).deliveries = s.deliveries
      ∧ ((cmdReadBudget a s).state).pending = s.pending := by
  simp only [cmdReadBudget]; (repeat' split) <;> simp

@[simp] theorem cmdWriteDriveLevel_frame (a : List Byte) (s : State) :
    ((cmdWriteDriveLevel a s).state).time = s.time ∧ ((cmdWriteDriveLevel a s).state).lines = s.lines
      ∧ ((cmdWriteDriveLevel a s).state).bport = s.bport ∧ ((cmdWriteDriveLevel a s).state).lport = s.lport
      ∧ ((cmdWriteDriveLevel a s).state).pport = s.pport ∧ ((cmdWriteDriveLevel a s).state).sport = s.sport
      ∧ ((cmdWriteDriveLevel a s).state).classifier = s.classifier
      ∧ ((cmdWriteDriveLevel a s).state).pool = s.pool
      ∧ ((cmdWriteDriveLevel a s).state).posture = s.posture
      ∧ ((cmdWriteDriveLevel a s).state).gate = s.gate ∧ ((cmdWriteDriveLevel a s).state).link = s.link
      ∧ ((cmdWriteDriveLevel a s).state).power = s.power ∧ ((cmdWriteDriveLevel a s).state).mgmt = s.mgmt
      ∧ ((cmdWriteDriveLevel a s).state).pending = s.pending := by
  simp only [cmdWriteDriveLevel]; (repeat' split) <;> simp

@[simp] theorem cmdWriteChargeCell_frame (a : List Byte) (s : State) :
    ((cmdWriteChargeCell a s).state).time = s.time ∧ ((cmdWriteChargeCell a s).state).lines = s.lines
      ∧ ((cmdWriteChargeCell a s).state).lport = s.lport ∧ ((cmdWriteChargeCell a s).state).sport = s.sport
      ∧ ((cmdWriteChargeCell a s).state).classifier = s.classifier
      ∧ ((cmdWriteChargeCell a s).state).pool = s.pool
      ∧ ((cmdWriteChargeCell a s).state).posture = s.posture
      ∧ ((cmdWriteChargeCell a s).state).gate = s.gate ∧ ((cmdWriteChargeCell a s).state).link = s.link
      ∧ ((cmdWriteChargeCell a s).state).power = s.power ∧ ((cmdWriteChargeCell a s).state).mgmt = s.mgmt
      ∧ ((cmdWriteChargeCell a s).state).pending = s.pending := by
  simp only [cmdWriteChargeCell]; (repeat' split) <;> simp

@[simp] theorem cmdSetChargeParams_frame (a : List Byte) (s : State) :
    ((cmdSetChargeParams a s).state).time = s.time ∧ ((cmdSetChargeParams a s).state).lines = s.lines
      ∧ ((cmdSetChargeParams a s).state).lport = s.lport ∧ ((cmdSetChargeParams a s).state).sport = s.sport
      ∧ ((cmdSetChargeParams a s).state).classifier = s.classifier
      ∧ ((cmdSetChargeParams a s).state).pool = s.pool
      ∧ ((cmdSetChargeParams a s).state).posture = s.posture
      ∧ ((cmdSetChargeParams a s).state).gate = s.gate ∧ ((cmdSetChargeParams a s).state).link = s.link
      ∧ ((cmdSetChargeParams a s).state).power = s.power ∧ ((cmdSetChargeParams a s).state).mgmt = s.mgmt
      ∧ ((cmdSetChargeParams a s).state).pending = s.pending := by
  simp only [cmdSetChargeParams]; (repeat' split) <;> simp

@[simp] theorem cmdChargeEnable_frame (a : List Byte) (s : State) :
    ((cmdChargeEnable a s).state).time = s.time ∧ ((cmdChargeEnable a s).state).lines = s.lines
      ∧ ((cmdChargeEnable a s).state).lport = s.lport ∧ ((cmdChargeEnable a s).state).sport = s.sport
      ∧ ((cmdChargeEnable a s).state).classifier = s.classifier
      ∧ ((cmdChargeEnable a s).state).pool = s.pool ∧ ((cmdChargeEnable a s).state).posture = s.posture
      ∧ ((cmdChargeEnable a s).state).gate = s.gate ∧ ((cmdChargeEnable a s).state).link = s.link
      ∧ ((cmdChargeEnable a s).state).power = s.power ∧ ((cmdChargeEnable a s).state).mgmt = s.mgmt
      ∧ ((cmdChargeEnable a s).state).pending = s.pending := by
  simp only [cmdChargeEnable]; (repeat' split) <;> simp

@[simp] theorem cmdReadChargeRecord_frame (a : List Byte) (s : State) :
    ((cmdReadChargeRecord a s).state).time = s.time ∧ ((cmdReadChargeRecord a s).state).lines = s.lines
      ∧ ((cmdReadChargeRecord a s).state).bport = s.bport
      ∧ ((cmdReadChargeRecord a s).state).lport = s.lport
      ∧ ((cmdReadChargeRecord a s).state).pport = s.pport
      ∧ ((cmdReadChargeRecord a s).state).sport = s.sport
      ∧ ((cmdReadChargeRecord a s).state).classifier = s.classifier
      ∧ ((cmdReadChargeRecord a s).state).pool = s.pool
      ∧ ((cmdReadChargeRecord a s).state).posture = s.posture
      ∧ ((cmdReadChargeRecord a s).state).gate = s.gate ∧ ((cmdReadChargeRecord a s).state).link = s.link
      ∧ ((cmdReadChargeRecord a s).state).rail = s.rail
      ∧ ((cmdReadChargeRecord a s).state).charge = s.charge
      ∧ ((cmdReadChargeRecord a s).state).power = s.power ∧ ((cmdReadChargeRecord a s).state).mgmt = s.mgmt
      ∧ ((cmdReadChargeRecord a s).state).deliveries = s.deliveries
      ∧ ((cmdReadChargeRecord a s).state).pending = s.pending := by
  simp only [cmdReadChargeRecord]; (repeat' split) <;> simp

@[simp] theorem cmdSetHostState_frame (a : List Byte) (s : State) :
    ((cmdSetHostState a s).state).time = s.time ∧ ((cmdSetHostState a s).state).lines = s.lines
      ∧ ((cmdSetHostState a s).state).bport = s.bport ∧ ((cmdSetHostState a s).state).lport = s.lport
      ∧ ((cmdSetHostState a s).state).pport = s.pport ∧ ((cmdSetHostState a s).state).sport = s.sport
      ∧ ((cmdSetHostState a s).state).classifier = s.classifier
      ∧ ((cmdSetHostState a s).state).pool = s.pool ∧ ((cmdSetHostState a s).state).posture = s.posture
      ∧ ((cmdSetHostState a s).state).gate = s.gate ∧ ((cmdSetHostState a s).state).link = s.link
      ∧ ((cmdSetHostState a s).state).rail = s.rail ∧ ((cmdSetHostState a s).state).charge = s.charge
      ∧ ((cmdSetHostState a s).state).mgmt = s.mgmt ∧ ((cmdSetHostState a s).state).pending = s.pending := by
  simp only [cmdSetHostState]; (repeat' split) <;> simp

@[simp] theorem cmdWriteWakeTable_frame (a : List Byte) (s : State) :
    ((cmdWriteWakeTable a s).state).time = s.time ∧ ((cmdWriteWakeTable a s).state).lines = s.lines
      ∧ ((cmdWriteWakeTable a s).state).bport = s.bport ∧ ((cmdWriteWakeTable a s).state).lport = s.lport
      ∧ ((cmdWriteWakeTable a s).state).pport = s.pport ∧ ((cmdWriteWakeTable a s).state).sport = s.sport
      ∧ ((cmdWriteWakeTable a s).state).classifier = s.classifier
      ∧ ((cmdWriteWakeTable a s).state).pool = s.pool ∧ ((cmdWriteWakeTable a s).state).posture = s.posture
      ∧ ((cmdWriteWakeTable a s).state).gate = s.gate ∧ ((cmdWriteWakeTable a s).state).link = s.link
      ∧ ((cmdWriteWakeTable a s).state).rail = s.rail ∧ ((cmdWriteWakeTable a s).state).charge = s.charge
      ∧ ((cmdWriteWakeTable a s).state).mgmt = s.mgmt
      ∧ ((cmdWriteWakeTable a s).state).deliveries = s.deliveries
      ∧ ((cmdWriteWakeTable a s).state).pending = s.pending := by
  simp only [cmdWriteWakeTable]; (repeat' split) <;> simp

@[simp] theorem cmdReadSleepRecord_frame (a : List Byte) (s : State) :
    ((cmdReadSleepRecord a s).state).time = s.time ∧ ((cmdReadSleepRecord a s).state).lines = s.lines
      ∧ ((cmdReadSleepRecord a s).state).bport = s.bport ∧ ((cmdReadSleepRecord a s).state).lport = s.lport
      ∧ ((cmdReadSleepRecord a s).state).pport = s.pport ∧ ((cmdReadSleepRecord a s).state).sport = s.sport
      ∧ ((cmdReadSleepRecord a s).state).classifier = s.classifier
      ∧ ((cmdReadSleepRecord a s).state).pool = s.pool
      ∧ ((cmdReadSleepRecord a s).state).posture = s.posture
      ∧ ((cmdReadSleepRecord a s).state).gate = s.gate ∧ ((cmdReadSleepRecord a s).state).link = s.link
      ∧ ((cmdReadSleepRecord a s).state).rail = s.rail ∧ ((cmdReadSleepRecord a s).state).charge = s.charge
      ∧ ((cmdReadSleepRecord a s).state).power = s.power ∧ ((cmdReadSleepRecord a s).state).mgmt = s.mgmt
      ∧ ((cmdReadSleepRecord a s).state).deliveries = s.deliveries
      ∧ ((cmdReadSleepRecord a s).state).pending = s.pending := by
  simp only [cmdReadSleepRecord]; (repeat' split) <;> simp

@[simp] theorem cmdSetQueue_frame (a : List Byte) (s : State) :
    ((cmdSetQueue a s).state).time = s.time ∧ ((cmdSetQueue a s).state).lines = s.lines
      ∧ ((cmdSetQueue a s).state).bport = s.bport ∧ ((cmdSetQueue a s).state).lport = s.lport
      ∧ ((cmdSetQueue a s).state).pport = s.pport ∧ ((cmdSetQueue a s).state).sport = s.sport
      ∧ ((cmdSetQueue a s).state).classifier = s.classifier ∧ ((cmdSetQueue a s).state).posture = s.posture
      ∧ ((cmdSetQueue a s).state).gate = s.gate ∧ ((cmdSetQueue a s).state).link = s.link
      ∧ ((cmdSetQueue a s).state).rail = s.rail ∧ ((cmdSetQueue a s).state).charge = s.charge
      ∧ ((cmdSetQueue a s).state).power = s.power ∧ ((cmdSetQueue a s).state).mgmt = s.mgmt
      ∧ ((cmdSetQueue a s).state).deliveries = s.deliveries ∧ ((cmdSetQueue a s).state).pending = s.pending := by
  simp only [cmdSetQueue]; (repeat' split) <;> simp

@[simp] theorem cmdFlushQueue_frame (a : List Byte) (s : State) :
    ((cmdFlushQueue a s).state).time = s.time ∧ ((cmdFlushQueue a s).state).lines = s.lines
      ∧ ((cmdFlushQueue a s).state).bport = s.bport ∧ ((cmdFlushQueue a s).state).lport = s.lport
      ∧ ((cmdFlushQueue a s).state).pport = s.pport ∧ ((cmdFlushQueue a s).state).sport = s.sport
      ∧ ((cmdFlushQueue a s).state).classifier = s.classifier
      ∧ ((cmdFlushQueue a s).state).posture = s.posture ∧ ((cmdFlushQueue a s).state).gate = s.gate
      ∧ ((cmdFlushQueue a s).state).link = s.link ∧ ((cmdFlushQueue a s).state).rail = s.rail
      ∧ ((cmdFlushQueue a s).state).charge = s.charge ∧ ((cmdFlushQueue a s).state).power = s.power
      ∧ ((cmdFlushQueue a s).state).mgmt = s.mgmt ∧ ((cmdFlushQueue a s).state).pending = s.pending := by
  simp only [cmdFlushQueue]; (repeat' split) <;> simp

@[simp] theorem cmdReadQueues_frame (a : List Byte) (s : State) :
    ((cmdReadQueues a s).state).time = s.time ∧ ((cmdReadQueues a s).state).lines = s.lines
      ∧ ((cmdReadQueues a s).state).bport = s.bport ∧ ((cmdReadQueues a s).state).lport = s.lport
      ∧ ((cmdReadQueues a s).state).pport = s.pport ∧ ((cmdReadQueues a s).state).sport = s.sport
      ∧ ((cmdReadQueues a s).state).classifier = s.classifier
      ∧ ((cmdReadQueues a s).state).posture = s.posture ∧ ((cmdReadQueues a s).state).gate = s.gate
      ∧ ((cmdReadQueues a s).state).link = s.link ∧ ((cmdReadQueues a s).state).rail = s.rail
      ∧ ((cmdReadQueues a s).state).charge = s.charge ∧ ((cmdReadQueues a s).state).power = s.power
      ∧ ((cmdReadQueues a s).state).mgmt = s.mgmt ∧ ((cmdReadQueues a s).state).deliveries = s.deliveries
      ∧ ((cmdReadQueues a s).state).pending = s.pending := by
  simp only [cmdReadQueues]; (repeat' split) <;> simp

@[simp] theorem cmdReadEvents_frame (a : List Byte) (s : State) :
    ((cmdReadEvents a s).state).time = s.time ∧ ((cmdReadEvents a s).state).lines = s.lines
      ∧ ((cmdReadEvents a s).state).bport = s.bport ∧ ((cmdReadEvents a s).state).lport = s.lport
      ∧ ((cmdReadEvents a s).state).pport = s.pport ∧ ((cmdReadEvents a s).state).sport = s.sport
      ∧ ((cmdReadEvents a s).state).classifier = s.classifier ∧ ((cmdReadEvents a s).state).pool = s.pool
      ∧ ((cmdReadEvents a s).state).posture = s.posture ∧ ((cmdReadEvents a s).state).gate = s.gate
      ∧ ((cmdReadEvents a s).state).link = s.link ∧ ((cmdReadEvents a s).state).rail = s.rail
      ∧ ((cmdReadEvents a s).state).charge = s.charge ∧ ((cmdReadEvents a s).state).power = s.power
      ∧ ((cmdReadEvents a s).state).mgmt = s.mgmt ∧ ((cmdReadEvents a s).state).deliveries = s.deliveries
      ∧ ((cmdReadEvents a s).state).pending = s.pending := by
  simp only [cmdReadEvents]; (repeat' split) <;> simp

@[simp] theorem cmdClearEvents_frame (a : List Byte) (s : State) :
    ((cmdClearEvents a s).state).time = s.time ∧ ((cmdClearEvents a s).state).lines = s.lines
      ∧ ((cmdClearEvents a s).state).bport = s.bport ∧ ((cmdClearEvents a s).state).lport = s.lport
      ∧ ((cmdClearEvents a s).state).pport = s.pport ∧ ((cmdClearEvents a s).state).sport = s.sport
      ∧ ((cmdClearEvents a s).state).classifier = s.classifier ∧ ((cmdClearEvents a s).state).pool = s.pool
      ∧ ((cmdClearEvents a s).state).posture = s.posture ∧ ((cmdClearEvents a s).state).gate = s.gate
      ∧ ((cmdClearEvents a s).state).link = s.link ∧ ((cmdClearEvents a s).state).rail = s.rail
      ∧ ((cmdClearEvents a s).state).charge = s.charge ∧ ((cmdClearEvents a s).state).power = s.power
      ∧ ((cmdClearEvents a s).state).deliveries = s.deliveries
      ∧ ((cmdClearEvents a s).state).pending = s.pending := by
  simp only [cmdClearEvents]; (repeat' split) <;> simp

@[simp] theorem cmdSetEventEnable_frame (a : List Byte) (s : State) :
    ((cmdSetEventEnable a s).state).time = s.time ∧ ((cmdSetEventEnable a s).state).lines = s.lines
      ∧ ((cmdSetEventEnable a s).state).bport = s.bport ∧ ((cmdSetEventEnable a s).state).lport = s.lport
      ∧ ((cmdSetEventEnable a s).state).pport = s.pport ∧ ((cmdSetEventEnable a s).state).sport = s.sport
      ∧ ((cmdSetEventEnable a s).state).classifier = s.classifier
      ∧ ((cmdSetEventEnable a s).state).posture = s.posture ∧ ((cmdSetEventEnable a s).state).gate = s.gate
      ∧ ((cmdSetEventEnable a s).state).link = s.link ∧ ((cmdSetEventEnable a s).state).rail = s.rail
      ∧ ((cmdSetEventEnable a s).state).charge = s.charge ∧ ((cmdSetEventEnable a s).state).power = s.power
      ∧ ((cmdSetEventEnable a s).state).deliveries = s.deliveries
      ∧ ((cmdSetEventEnable a s).state).pending = s.pending := by
  simp only [cmdSetEventEnable]; (repeat' split) <;> simp

@[simp] theorem cmdReadLog_frame (a : List Byte) (s : State) :
    ((cmdReadLog a s).state).time = s.time ∧ ((cmdReadLog a s).state).lines = s.lines
      ∧ ((cmdReadLog a s).state).bport = s.bport ∧ ((cmdReadLog a s).state).lport = s.lport
      ∧ ((cmdReadLog a s).state).pport = s.pport ∧ ((cmdReadLog a s).state).sport = s.sport
      ∧ ((cmdReadLog a s).state).classifier = s.classifier ∧ ((cmdReadLog a s).state).pool = s.pool
      ∧ ((cmdReadLog a s).state).posture = s.posture ∧ ((cmdReadLog a s).state).gate = s.gate
      ∧ ((cmdReadLog a s).state).link = s.link ∧ ((cmdReadLog a s).state).rail = s.rail
      ∧ ((cmdReadLog a s).state).charge = s.charge ∧ ((cmdReadLog a s).state).power = s.power
      ∧ ((cmdReadLog a s).state).mgmt = s.mgmt ∧ ((cmdReadLog a s).state).deliveries = s.deliveries
      ∧ ((cmdReadLog a s).state).pending = s.pending := by
  simp only [cmdReadLog]; (repeat' split) <;> simp

@[simp] theorem cmdClearLog_frame (a : List Byte) (s : State) :
    ((cmdClearLog a s).state).time = s.time ∧ ((cmdClearLog a s).state).lines = s.lines
      ∧ ((cmdClearLog a s).state).bport = s.bport ∧ ((cmdClearLog a s).state).lport = s.lport
      ∧ ((cmdClearLog a s).state).pport = s.pport ∧ ((cmdClearLog a s).state).sport = s.sport
      ∧ ((cmdClearLog a s).state).pool = s.pool ∧ ((cmdClearLog a s).state).posture = s.posture
      ∧ ((cmdClearLog a s).state).gate = s.gate ∧ ((cmdClearLog a s).state).link = s.link
      ∧ ((cmdClearLog a s).state).rail = s.rail ∧ ((cmdClearLog a s).state).charge = s.charge
      ∧ ((cmdClearLog a s).state).power = s.power ∧ ((cmdClearLog a s).state).mgmt = s.mgmt
      ∧ ((cmdClearLog a s).state).deliveries = s.deliveries ∧ ((cmdClearLog a s).state).pending = s.pending := by
  simp only [cmdClearLog]; (repeat' split) <;> simp

@[simp] theorem cmdReadCounters_frame (a : List Byte) (s : State) :
    ((cmdReadCounters a s).state).time = s.time ∧ ((cmdReadCounters a s).state).lines = s.lines
      ∧ ((cmdReadCounters a s).state).pool = s.pool ∧ ((cmdReadCounters a s).state).posture = s.posture
      ∧ ((cmdReadCounters a s).state).deliveries = s.deliveries
      ∧ ((cmdReadCounters a s).state).pending = s.pending := by
  simp only [cmdReadCounters]; (repeat' split) <;> simp

end Sys2Proof.Machine
end

