-- ==== Sys2Proof/WellFormed.lean ====
section
/-! DEFINITION. Which commands can be formed at all. Every operand's range is in its type but one: the
argument bytes of a management command, which a MGMT payload of at most 32 bytes carries behind its code
byte (R2, R168). -/

namespace Sys2Proof

/-- The argument bytes of a management command, and none for a command that no MGMT frame carries. -/
def Instr.mgmtArgs : Instr → Option (List Byte)
  | .powerOnReset => none
  | .timeCountTick => none
  | .hostReadyChange _ => none
  | .presenceAsserted => none
  | .presenceReleased => none
  | .bPortUnitCompleted _ _ _ => none
  | .bPortSymbolReceived _ => none
  | .lPortUnitCompleted _ _ _ => none
  | .pPortUnitCompleted _ _ => none
  | .sPortUnitCompleted _ _ => none
  | .handshakeWaitExpiry => none
  | .sPortFrameEnd => none
  | .bPortSymbolSent => none
  | .partOriginatedFrameSent => none
  | .downstreamFrameSent => none
  | .baseFreshnessExpiry => none
  | .contactDebounceExpiry => none
  | .identTimeoutExpiry => none
  | .aliveWindowExpiry => none
  | .drivePeriodEnd => none
  | .pingExpiry => none
  | .probeWindowExpiry => none
  | .penSilenceExpiry => none
  | .topUpExpiry => none
  | .cooldownExpiry => none
  | .sleepDelayExpiry => none
  | .idleTimerExpiry => none
  | .owedFrameEmission => none
  | .pendingItemRetry => none
  | .releaseRetry => none
  | .liftRetry => none
  | .gateUpdate _ => none
  | .inputGateTeardown _ => none
  | .postureAdmission => none
  | .postureTeardown => none
  | .toggleAndHaltReset => none
  | .transmitterTeardown => none
  | .admissionGrant => none
  | .railTeardown => none
  | .capChange _ => none
  | .powerPostureChange => none
  | .powerPolicyEvent => none
  | .activityEvent _ => none
  | .wakeSourceEvent _ => none
  | .eventDelivery _ => none
  | .getInfo _ args => some args
  | .softReset _ args => some args
  | .writeRoute _ args => some args
  | .invalidateRoute _ args => some args
  | .readRoute _ args => some args
  | .setDefaultRoute _ args => some args
  | .writePosture _ args => some args
  | .invalidatePosture _ args => some args
  | .readPostureEntry _ args => some args
  | .writePolicy _ args => some args
  | .writeAxisMap _ args => some args
  | .writeAngleParams _ args => some args
  | .readPostureRecord _ args => some args
  | .setRotationLock _ args => some args
  | .writeBaseClass _ args => some args
  | .readBaseRecord _ args => some args
  | .setLinkTiming _ args => some args
  | .channelHalt _ args => some args
  | .channelResume _ args => some args
  | .setBudget _ args => some args
  | .readBudget _ args => some args
  | .writeDriveLevel _ args => some args
  | .writeChargeCell _ args => some args
  | .setChargeParams _ args => some args
  | .chargeEnable _ args => some args
  | .readChargeRecord _ args => some args
  | .setHostState _ args => some args
  | .writeWakeTable _ args => some args
  | .readSleepRecord _ args => some args
  | .setQueue _ args => some args
  | .flushQueue _ args => some args
  | .readQueues _ args => some args
  | .readEvents _ args => some args
  | .clearEvents _ args => some args
  | .setEventEnable _ args => some args
  | .readLog _ args => some args
  | .clearLog _ args => some args
  | .readCounters _ args => some args

/-- A command is well formed when its arguments, if it has any, fit a MGMT payload: 0..31 bytes behind the
command code (R168). -/
def Instr.wellFormed (i : Instr) : Bool :=
  match i.mgmtArgs with
  | none => true
  | some args => decide (args.length + 1 ≤ Config.maxPayload)

end Sys2Proof
end

