-- ==== Sys2Proof/Laws/PerInstr.lean ====
section
/-! SUPPORT. Laws made for every command: each management command is the one its code names. -/

namespace Sys2Proof.Laws.NamedByItsCode

open Sys2Proof Sys2Proof.Machine

/-- A command that carries argument bytes is the command that one code of 1 to 38 names on some channel; and it
is well formed exactly when those bytes fit behind the code in a MGMT payload (R2, R168, R169). -/
def Statement (i : Instr) : Prop :=
  ∀ args, i.mgmtArgs = some args →
    (∃ channel code, 1 ≤ code ∧ code ≤ 38 ∧ commandOfCode channel args code = some i)
      ∧ (i.wellFormed = true ↔ args.length ≤ 31)

/-- A command without argument bytes has nothing to satisfy. -/
theorem of_none {i : Instr} (h : i.mgmtArgs = none) : Statement i := by
  intro args h2; rw [h] at h2; cases h2

/-- A command that its code names satisfies the law. -/
theorem of_code {i : Instr} {args : List Byte} (channel : Chan) (code : Nat) (h : i.mgmtArgs = some args)
    (h1 : 1 ≤ code) (h2 : code ≤ 38) (h3 : commandOfCode channel args code = some i) : Statement i := by
  intro a h4
  rw [h] at h4
  cases h4
  refine ⟨⟨channel, code, h1, h2, h3⟩, ?_⟩
  simp [Instr.wellFormed, h, Config.maxPayload]
  omega

theorem powerOnReset : Statement .powerOnReset := of_none rfl
theorem timeCountTick : Statement .timeCountTick := of_none rfl
theorem hostReadyChange (level : Bool) : Statement (.hostReadyChange level) := of_none rfl
theorem presenceAsserted : Statement .presenceAsserted := of_none rfl
theorem presenceReleased : Statement .presenceReleased := of_none rfl
theorem bPortUnitCompleted (b0 b1 : Byte) (rest : List Byte) : Statement (.bPortUnitCompleted b0 b1 rest) := of_none rfl
theorem bPortSymbolReceived (symbol : Byte) : Statement (.bPortSymbolReceived symbol) := of_none rfl
theorem lPortUnitCompleted (lidsw : Bool) (b0 : Byte) (rest : List Byte) : Statement (.lPortUnitCompleted lidsw b0 rest) := of_none rfl
theorem pPortUnitCompleted (b0 : Byte) (rest : List Byte) : Statement (.pPortUnitCompleted b0 rest) := of_none rfl
theorem sPortUnitCompleted (b0 : Byte) (rest : List Byte) : Statement (.sPortUnitCompleted b0 rest) := of_none rfl
theorem handshakeWaitExpiry : Statement .handshakeWaitExpiry := of_none rfl
theorem sPortFrameEnd : Statement .sPortFrameEnd := of_none rfl
theorem bPortSymbolSent : Statement .bPortSymbolSent := of_none rfl
theorem partOriginatedFrameSent : Statement .partOriginatedFrameSent := of_none rfl
theorem downstreamFrameSent : Statement .downstreamFrameSent := of_none rfl
theorem baseFreshnessExpiry : Statement .baseFreshnessExpiry := of_none rfl
theorem contactDebounceExpiry : Statement .contactDebounceExpiry := of_none rfl
theorem identTimeoutExpiry : Statement .identTimeoutExpiry := of_none rfl
theorem aliveWindowExpiry : Statement .aliveWindowExpiry := of_none rfl
theorem drivePeriodEnd : Statement .drivePeriodEnd := of_none rfl
theorem pingExpiry : Statement .pingExpiry := of_none rfl
theorem probeWindowExpiry : Statement .probeWindowExpiry := of_none rfl
theorem penSilenceExpiry : Statement .penSilenceExpiry := of_none rfl
theorem topUpExpiry : Statement .topUpExpiry := of_none rfl
theorem cooldownExpiry : Statement .cooldownExpiry := of_none rfl
theorem sleepDelayExpiry : Statement .sleepDelayExpiry := of_none rfl
theorem idleTimerExpiry : Statement .idleTimerExpiry := of_none rfl
theorem owedFrameEmission : Statement .owedFrameEmission := of_none rfl
theorem pendingItemRetry : Statement .pendingItemRetry := of_none rfl
theorem releaseRetry : Statement .releaseRetry := of_none rfl
theorem liftRetry : Statement .liftRetry := of_none rfl
theorem gateUpdate (padFirst : Bool) : Statement (.gateUpdate padFirst) := of_none rfl
theorem inputGateTeardown (padFirst : Bool) : Statement (.inputGateTeardown padFirst) := of_none rfl
theorem postureAdmission : Statement .postureAdmission := of_none rfl
theorem postureTeardown : Statement .postureTeardown := of_none rfl
theorem toggleAndHaltReset : Statement .toggleAndHaltReset := of_none rfl
theorem transmitterTeardown : Statement .transmitterTeardown := of_none rfl
theorem admissionGrant : Statement .admissionGrant := of_none rfl
theorem railTeardown : Statement .railTeardown := of_none rfl
theorem capChange (cause : CapCause) : Statement (.capChange cause) := of_none rfl
theorem powerPostureChange : Statement .powerPostureChange := of_none rfl
theorem powerPolicyEvent : Statement .powerPolicyEvent := of_none rfl
theorem activityEvent (filter : InputFilter) : Statement (.activityEvent filter) := of_none rfl
theorem wakeSourceEvent (source : EdgeSource) : Statement (.wakeSourceEvent source) := of_none rfl
theorem eventDelivery (event : ManagementEvent) : Statement (.eventDelivery event) := of_none rfl
theorem getInfo (channel : Chan) (args : List Byte) : Statement (.getInfo channel args) :=
  of_code channel 1 rfl (by decide) (by decide) rfl
theorem softReset (channel : Chan) (args : List Byte) : Statement (.softReset channel args) :=
  of_code channel 2 rfl (by decide) (by decide) rfl
theorem writeRoute (channel : Chan) (args : List Byte) : Statement (.writeRoute channel args) :=
  of_code channel 3 rfl (by decide) (by decide) rfl
theorem invalidateRoute (channel : Chan) (args : List Byte) : Statement (.invalidateRoute channel args) :=
  of_code channel 4 rfl (by decide) (by decide) rfl
theorem readRoute (channel : Chan) (args : List Byte) : Statement (.readRoute channel args) :=
  of_code channel 5 rfl (by decide) (by decide) rfl
theorem setDefaultRoute (channel : Chan) (args : List Byte) : Statement (.setDefaultRoute channel args) :=
  of_code channel 6 rfl (by decide) (by decide) rfl
theorem writePosture (channel : Chan) (args : List Byte) : Statement (.writePosture channel args) :=
  of_code channel 7 rfl (by decide) (by decide) rfl
theorem invalidatePosture (channel : Chan) (args : List Byte) : Statement (.invalidatePosture channel args) :=
  of_code channel 8 rfl (by decide) (by decide) rfl
theorem readPostureEntry (channel : Chan) (args : List Byte) : Statement (.readPostureEntry channel args) :=
  of_code channel 9 rfl (by decide) (by decide) rfl
theorem writePolicy (channel : Chan) (args : List Byte) : Statement (.writePolicy channel args) :=
  of_code channel 10 rfl (by decide) (by decide) rfl
theorem writeAxisMap (channel : Chan) (args : List Byte) : Statement (.writeAxisMap channel args) :=
  of_code channel 11 rfl (by decide) (by decide) rfl
theorem writeAngleParams (channel : Chan) (args : List Byte) : Statement (.writeAngleParams channel args) :=
  of_code channel 12 rfl (by decide) (by decide) rfl
theorem readPostureRecord (channel : Chan) (args : List Byte) : Statement (.readPostureRecord channel args) :=
  of_code channel 13 rfl (by decide) (by decide) rfl
theorem setRotationLock (channel : Chan) (args : List Byte) : Statement (.setRotationLock channel args) :=
  of_code channel 14 rfl (by decide) (by decide) rfl
theorem writeBaseClass (channel : Chan) (args : List Byte) : Statement (.writeBaseClass channel args) :=
  of_code channel 15 rfl (by decide) (by decide) rfl
theorem readBaseRecord (channel : Chan) (args : List Byte) : Statement (.readBaseRecord channel args) :=
  of_code channel 16 rfl (by decide) (by decide) rfl
theorem setLinkTiming (channel : Chan) (args : List Byte) : Statement (.setLinkTiming channel args) :=
  of_code channel 17 rfl (by decide) (by decide) rfl
theorem channelHalt (channel : Chan) (args : List Byte) : Statement (.channelHalt channel args) :=
  of_code channel 18 rfl (by decide) (by decide) rfl
theorem channelResume (channel : Chan) (args : List Byte) : Statement (.channelResume channel args) :=
  of_code channel 19 rfl (by decide) (by decide) rfl
theorem setBudget (channel : Chan) (args : List Byte) : Statement (.setBudget channel args) :=
  of_code channel 20 rfl (by decide) (by decide) rfl
theorem readBudget (channel : Chan) (args : List Byte) : Statement (.readBudget channel args) :=
  of_code channel 21 rfl (by decide) (by decide) rfl
theorem writeDriveLevel (channel : Chan) (args : List Byte) : Statement (.writeDriveLevel channel args) :=
  of_code channel 22 rfl (by decide) (by decide) rfl
theorem writeChargeCell (channel : Chan) (args : List Byte) : Statement (.writeChargeCell channel args) :=
  of_code channel 23 rfl (by decide) (by decide) rfl
theorem setChargeParams (channel : Chan) (args : List Byte) : Statement (.setChargeParams channel args) :=
  of_code channel 24 rfl (by decide) (by decide) rfl
theorem chargeEnable (channel : Chan) (args : List Byte) : Statement (.chargeEnable channel args) :=
  of_code channel 25 rfl (by decide) (by decide) rfl
theorem readChargeRecord (channel : Chan) (args : List Byte) : Statement (.readChargeRecord channel args) :=
  of_code channel 26 rfl (by decide) (by decide) rfl
theorem setHostState (channel : Chan) (args : List Byte) : Statement (.setHostState channel args) :=
  of_code channel 27 rfl (by decide) (by decide) rfl
theorem writeWakeTable (channel : Chan) (args : List Byte) : Statement (.writeWakeTable channel args) :=
  of_code channel 28 rfl (by decide) (by decide) rfl
theorem readSleepRecord (channel : Chan) (args : List Byte) : Statement (.readSleepRecord channel args) :=
  of_code channel 29 rfl (by decide) (by decide) rfl
theorem setQueue (channel : Chan) (args : List Byte) : Statement (.setQueue channel args) :=
  of_code channel 30 rfl (by decide) (by decide) rfl
theorem flushQueue (channel : Chan) (args : List Byte) : Statement (.flushQueue channel args) :=
  of_code channel 31 rfl (by decide) (by decide) rfl
theorem readQueues (channel : Chan) (args : List Byte) : Statement (.readQueues channel args) :=
  of_code channel 32 rfl (by decide) (by decide) rfl
theorem readEvents (channel : Chan) (args : List Byte) : Statement (.readEvents channel args) :=
  of_code channel 33 rfl (by decide) (by decide) rfl
theorem clearEvents (channel : Chan) (args : List Byte) : Statement (.clearEvents channel args) :=
  of_code channel 34 rfl (by decide) (by decide) rfl
theorem setEventEnable (channel : Chan) (args : List Byte) : Statement (.setEventEnable channel args) :=
  of_code channel 35 rfl (by decide) (by decide) rfl
theorem readLog (channel : Chan) (args : List Byte) : Statement (.readLog channel args) :=
  of_code channel 36 rfl (by decide) (by decide) rfl
theorem clearLog (channel : Chan) (args : List Byte) : Statement (.clearLog channel args) :=
  of_code channel 37 rfl (by decide) (by decide) rfl
theorem readCounters (channel : Chan) (args : List Byte) : Statement (.readCounters channel args) :=
  of_code channel 38 rfl (by decide) (by decide) rfl

end Sys2Proof.Laws.NamedByItsCode
end

