-- ==== Sys2Proof/Tests/Slice0.lean ====
section
/-! SUPPORT. Our own tests: worked figures of the manual, the smoke test of well-formedness, and for every
statement with hypotheses a named witness that concrete states and operands meet them, clause by clause. -/

namespace Sys2Proof.Tests

open Sys2Proof Sys2Proof.Machine

set_option Elab.async false

/-! ### Helper states -/

/-- The reset state. -/
abbrev r0 : State := State.reset

/-- The reset state with these deliveries under way. -/
abbrev withD (l : List Delivery) : State := r0.setDeliveries l

/-- A property of the state after a command. -/
abbrev after (c : Instr) (s : State) (p : State → Bool) : Prop :=
  (match exec c s with
    | .next t => p t
    | _ => false) = true

/-- The only delivery under way is the oldest on its route. -/
theorem front_only (d : Delivery) (s : State) : Front d [] [] (s.setDeliveries [d]) :=
  ⟨rfl, by simp⟩

/-- No delivery is the oldest on any route while none is under way. -/
theorem front_none (d : Delivery) (b a : List Delivery) {s : State} (h : s.deliveries = []) :
    ¬ Front d b a s := by
  intro f; have := f.1; simp [h] at this

/-- The reset state with Q1 as given and this Free List. -/
abbrev withQ1 (items : List BufIdx) (limit : Nat) (p : OverflowPolicy) (free : List BufIdx) : State :=
  r0.setPool { Pool.reset with q1 := { items := items, limit := limit, policy := some p }, free := free }

/-- The reset state with the link in this state. -/
abbrev linked (x : LinkState) : State := r0.setLink { state := x }

/-- A link with a keyboard on channel 1, handshaked, of at most 2 bytes. -/
abbrev attached : State := r0.setLink { state := .attached, alive := some 100, record :=
  { valid := true, cls := 1, descriptors := [{ channel := 1, kind := .keys, handshaked := true, maxLength := 2 },
    { channel := 2, kind := .point, handshaked := false, maxLength := 2 }] } }

/-- A state with something in most of its places. -/
abbrev busy : State := { attached with
  pool := { Pool.reset with
    free := (List.finRange 48).drop 4
    q1 := { items := [0, 1], limit := 12, policy := some .dropNew } }
  sport := { sending := some 2 }
  bport := { awaiting := some 3, handshakeWait := some 2
             owed := [{ type := .ack, channel := 1, started := false }] }
  gate := { key := { held := [4, 5], masked := [5], bound := some 1, lastForwarded := [4] } }
  posture := { posture := .laptop, hinge := 1200, hingeValid := true, orientation := .rot90 }
  charge := { session := .hold, enabled := true }
  power := { vote := .waking, wakeLine := true, host := .standby }
  mgmt := { flags := 1, enables := 1, attn := true, owedNotices := 1 }
  pending := [.timeCountTick] }

/-! ### The machine, frames and angles -/

theorem test_args_of_32_bytes_are_ill_formed :
    (Instr.getInfo 0 (List.replicate 32 0)).wellFormed = false
      ∧ (Instr.getInfo 0 (List.replicate 31 0)).wellFormed = true := by decide +kernel

/-- The two frames R4 works out. -/
theorem test_frame_checks_of_the_manual :
    frameCheck [0x60, 0x00, 0x00] = 0x57F7 ∧ frameCheck [0x70, 0x40, 0x00] = 0x1958 := by decide +kernel

/-- The vectorings R61 and the chapter's example work out. -/
theorem test_vectorings_of_the_manual :
    vectoring 2048 0 = (1, 3374) ∧ vectoring (-700) (-1924) = (2845, 3373)
      ∧ vectoring 1924 0 = (1, 3171) := by decide +kernel

theorem test_no_word_spells_a_command : decodeTableWord 8 0 = none
    ∧ (r0.withFetchWord 8 0).pending = [] := by decide +kernel

theorem witness_StepRunsTheFrontCommand :
    (∃ t, exec .timeCountTick r0 = .next t) ∧ r0.pending = [] := ⟨⟨_, rfl⟩, rfl⟩

theorem witness_EveryStepKeepsTheBufferLaws :
    (∃ t, step busy = .next t) ∧ PoolLaw busy ∧ TransmitLaw busy := ⟨⟨_, rfl⟩, by decide +kernel⟩

theorem witness_EveryStepKeepsTheRailLaw : (∃ t, step busy = .next t) ∧ RailLaw busy :=
  ⟨⟨_, rfl⟩, by decide +kernel⟩

theorem witness_EveryStepKeepsTheVoteAndEventLaws :
    (∃ t, step busy = .next t) ∧ VoteLaw busy ∧ EventLaw busy := ⟨⟨_, rfl⟩, by decide +kernel⟩

theorem witness_EveryStepKeepsTheGateLaw : (∃ t, step busy = .next t) ∧ GateLaw busy :=
  ⟨⟨_, rfl⟩, by decide +kernel⟩

theorem witness_EveryStepKeepsThePostureLaw : (∃ t, step busy = .next t) ∧ PostureLaw busy :=
  ⟨⟨_, rfl⟩, by decide +kernel⟩

theorem witness_EveryStepKeepsTheLinkLaw : (∃ t, step busy = .next t) ∧ LinkLaw busy :=
  ⟨⟨_, rfl⟩, by decide +kernel⟩

theorem witness_EveryStepKeepsTheRouteLaw : (∃ t, step busy = .next t) ∧ RouteLaw busy :=
  ⟨⟨_, rfl⟩, by decide +kernel⟩

theorem witness_BuiltFramePassesBothChecks :
    (List.replicate 32 (7 : Byte)).length ≤ 32 ∧ Port.b.accepts .keys = true := by decide +kernel

theorem witness_HeaderCheckRefusals :
    5 ≤ [(0x10 : Byte), 0, 0, 0, 0].length ∧ (headerCheck .b [0x10, 0, 0, 0, 0]).isSome = true
      ∧ 13 ≤ kindField [0xD0, 0, 0, 0, 0] ∧ zeroField [0x10, 1, 0, 0, 0] ≠ 0
      ∧ 32 < lengthField [0x10, 0, 33, 0, 0] ∧ lengthField [0x10, 0, 1, 0, 0] ≠ 5 - 5
      ∧ (∃ k, Kind.ofCode (kindField [0x40, 0, 0, 0, 0]) = some k ∧ Port.b.accepts k = false) :=
  ⟨by decide, by decide, by decide, by decide, by decide, by decide, .pen, by decide, by decide +kernel⟩

theorem witness_VectoringStaysWithinItsWidth :
    ∀ p ∈ [(-32768 : Int), 32768], -32768 ≤ p ∧ p ≤ 32768 ∧ ¬ (p = 0 ∧ (0 : Int) = 0) := by decide +kernel

/-! ### Buffers, queues and the two transmitters -/

/-- The hypotheses every clause of the placement statement shares, for Q1. -/
abbrev placeable (s : State) : Prop :=
  s.pool.q1.items.length ≤ s.pool.q1.limit ∧ 1 ≤ s.pool.q1.limit ∧ s.pool.q1.policy.isSome = true

/-- Each clause of both placements: full and scarce evicting, room at a Free List of five, full and scarce
refused, scarce and empty; for a synthetic frame the same at an empty Free List and at one of a single buffer. -/
theorem witness_FramePlacement :
    (let s := withQ1 [0] 1 .dropOld [1, 2, 3, 4];
      placeable s ∧ s.pool.q1.items = [0] ∧ s.pool.q1.items.length = s.pool.q1.limit)
    ∧ (let s := withQ1 [0] 2 .dropOld [1, 2, 3, 4];
      placeable s ∧ s.pool.q1.items = [0] ∧ s.pool.q1.items.length < s.pool.q1.limit
        ∧ s.pool.free.length ≤ 4)
    ∧ (let s := withQ1 [0] 2 .dropNew [1, 2, 3, 4, 5];
      placeable s ∧ s.pool.q1.items.length < s.pool.q1.limit ∧ 5 ≤ s.pool.free.length
        ∧ s.pool.free = 1 :: [2, 3, 4, 5])
    ∧ (let s := withQ1 [0] 1 .dropNew [1, 2, 3, 4, 5];
      placeable s ∧ s.pool.q1.items.length = s.pool.q1.limit)
    ∧ (let s := withQ1 [0] 2 .dropNew [1, 2, 3, 4];
      placeable s ∧ s.pool.q1.items.length < s.pool.q1.limit ∧ s.pool.free.length ≤ 4)
    ∧ (let s := withQ1 [] 2 .dropOld [1, 2, 3, 4];
      placeable s ∧ s.pool.q1.items.length < s.pool.q1.limit ∧ s.pool.free.length ≤ 4 ∧ s.pool.q1.items = [])
    ∧ (let s := withQ1 [0] 2 .dropOld [];
      placeable s ∧ s.pool.q1.items = [0] ∧ s.pool.free = [])
    ∧ (let s := withQ1 [0] 2 .dropNew [1];
      placeable s ∧ s.pool.q1.items.length < s.pool.q1.limit ∧ s.pool.free = 1 :: [])
    ∧ (let s := withQ1 [] 2 .dropNew [];
      placeable s ∧ s.pool.q1.items.length < s.pool.q1.limit ∧ s.pool.free = []) := by decide +kernel

/-- The reset state, HOST_READY asserted, with a buffer on each of the queues named. -/
abbrev ready (q0 q1 q2 q3 qd : List BufIdx) : State := { r0 with
  lines := { hostReady := true }
  pool := { Pool.reset with
    q0 := { Pool.reset.q0 with items := q0 }
    q1 := { Pool.reset.q1 with items := q1 }
    q2 := { Pool.reset.q2 with items := q2 }
    q3 := { Pool.reset.q3 with items := q3 }
    qd := { Pool.reset.qd with items := qd }
    free := [9] } }

theorem witness_TransmittersLookForWork :
    ((ready [0] [] [] [] []).setSport { sending := some 1 }).sport.sending ≠ none
    ∧ r0.lines.hostReady = false
    ∧ (let s := ready [] [] [] [] [];
      s.pool.q0.items = [] ∧ s.pool.q1.items = [] ∧ s.pool.q2.items = [] ∧ s.pool.q3.items = [])
    ∧ (∀ l ∈ [ready [0] [1] [] [] [], ready [] [1] [2] [] [], ready [] [] [2] [3] [], ready [] [] [] [3] []],
      l.sport.sending = none ∧ l.lines.hostReady = true)
    ∧ (r0.setBport { sending := .downstream 1 }).bport.sending ≠ .idle
    ∧ (let s := r0.setBport { owed := [{ type := .halt, channel := 15, started := false }] };
      s.bport.sending = .idle ∧ s.bport.owed = [{ type := .halt, channel := 15, started := false }])
    ∧ (let s := r0.setBport { pendingIdent := true };
      s.bport.sending = .idle ∧ s.bport.owed = [] ∧ s.bport.pendingIdent = true
        ∧ s.pool.free = 0 :: (List.finRange 48).tail)
    ∧ (let s := r0.setBport { pendingGrant := some 0 };
      s.bport.sending = .idle ∧ s.bport.owed = [] ∧ s.bport.pendingIdent = false
        ∧ s.bport.pendingGrant = some 0 ∧ s.pool.free = 0 :: (List.finRange 48).tail)
    ∧ (let s := (ready [] [] [] [] [4]).setBport { awaiting := some 1 };
      s.bport.owed = [] ∧ s.bport.pendingIdent = false ∧ s.bport.pendingGrant = none
        ∧ s.bport.awaiting ≠ none)
    ∧ (let s := { withQ1 [] 2 .dropNew [] with bport := { pendingIdent := true } };
      s.bport.owed = [] ∧ s.pool.free = [] ∧ s.pool.qd.items = [])
    ∧ (let s := ready [] [] [] [] [4];
      s.bport.sending = .idle ∧ s.bport.owed = [] ∧ s.bport.pendingIdent = false
        ∧ s.bport.pendingGrant = none ∧ s.bport.awaiting = none ∧ s.pool.qd.items = 4 :: []) := by
  decide +kernel

/-- A step that gave a symbol, a GRANT in place of another, a deferred GRANT of the value that was pending; and one
that gave nothing. -/
theorem witness_TransmittersLookForWork_after_a_step :
    (let t := r0.setBport { owed := [{ type := .ack, channel := 15, started := false }] };
      t.bport.owed ≠ [] ∧ t.bport.owed ≠ r0.bport.owed)
    ∧ (let t := r0.setBport { pendingGrant := some 40 };
      t.bport.pendingGrant ≠ none ∧ t.bport.pendingGrant ≠ (r0.setBport { pendingGrant := some 0 }).bport.pendingGrant)
    ∧ (let s := (r0.setBport { pendingGrant := some 7 }).setRail { grantPending := true };
      s.bport.pendingGrant ≠ none ∧ s.rail.grantPending = true ∧ r0.rail.grantPending = false)
    ∧ (let s := r0.setBport { pendingIdent := true, pendingGrant := some 0 };
      bGiven s s = false ∧ bGiven s r0 = false) := by decide +kernel

/-- R34: a GRANT that waits for a buffer is not served by the flush that frees one, but by the retry delivered to
it, before or after the other blocks that wait. -/
theorem test_a_flush_serves_no_block_first :
    after (.flushQueue 0 [1]) { r0 with
        pool := { Pool.reset with free := [9], q1 := { Pool.reset.q1 with items := [3] } }
        bport := { pendingGrant := some 7 } } (fun t =>
      t.bport.pendingGrant == some 7 && t.bport.sending == .idle && t.pool.free == [3]
        && t.deliveries == [.itemRetry])
    ∧ after .pendingItemRetry { r0 with
        pool := { Pool.reset with free := [3] }, bport := { pendingGrant := some 7 }
        deliveries := [.itemRetry] } (fun t => t.bport.sending == .partOriginated 3) := by decide +kernel

/-- R28: a downstream frame that evicts the one buffer of QD is a placement, and so a cause for the B-port
transmitter to look: a pending GRANT starts in the free buffer. -/
theorem test_an_eviction_on_QD_is_a_cause_to_look :
    let u := buildFrame .data 0 2 false [1];
    after (.sPortUnitCompleted (u.headD 0) u.tail) { r0 with
        pool := { Pool.reset with
          free := [9], qd := { Pool.reset.qd with items := [4], limit := 1, policy := some .dropOld } }
        bport := { pendingGrant := some 7, awaiting := some 5 }
        link := { state := .attached } } (fun t =>
      t.bport.sending == .partOriginated 9 && t.bport.pendingGrant == none && t.pool.qd.items == [4]) := by
  decide +kernel

theorem witness_RequestedFramesArePlacedOrOwed :
    (let s := ready [0, 1, 2, 3, 4, 5, 6] [] [] [] [];
      s.pool.q0.items.length < s.pool.q0.limit ∧ s.pool.free = 9 :: [] ∧ s.mgmt.owedState = false
        ∧ s.mgmt.owedNotices = 0)
    ∧ (let s := ready [0, 1, 2, 3, 4, 5, 6, 7] [] [] [] [];
      s.pool.q0.limit ≤ s.pool.q0.items.length ∧ s.mgmt.owedState = false)
    ∧ (withQ1 [] 1 .dropNew []).pool.free = []
    ∧ (r0.setMgmt { owedState := true }).mgmt.owedState = true
    ∧ (r0.setMgmt { owedNotices := 0x8000 }).mgmt.owedNotices ≠ 0 := by decide +kernel

theorem witness_OwedFrameEmission :
    (∃ s, Front .owedEmission [] [] s)
    ∧ (ready [0, 1, 2, 3, 4, 5, 6, 7] [] [] [] []).pool.hasRoom = false
    ∧ (let s := r0.setMgmt { owedState := true };
      s.pool.hasRoom = true ∧ s.mgmt.owedState = true)
    ∧ (let s := r0.setMgmt { owedNotices := 0x8002 };
      s.pool.hasRoom = true ∧ s.mgmt.owedState = false ∧ hasCause s.mgmt.owedNotices .detach = true
        ∧ hasCause s.mgmt.owedNotices .attach = false)
    ∧ (let s := r0.setMgmt { owedNotices := 0x8000 };
      hasCause s.mgmt.owedNotices .queueDrop = true
        ∧ ∀ d ∈ [EventCause.attach, .detach, .wake, .log, .downFail],
          causeIndex d < causeIndex .queueDrop ∧ hasCause s.mgmt.owedNotices d = false) :=
  ⟨⟨_, front_only .owedEmission r0⟩, by decide +kernel⟩

/-! ### Time and the transmitters' events -/

theorem test_the_time_count_wraps :
    after .timeCountTick (r0.setTime 65535) (fun t => t.time = 0) := by decide +kernel

theorem witness_TimeCountGainsOneEachMillisecond :
    Instr.bPortSymbolSent ≠ .powerOnReset ∧ Instr.bPortSymbolSent ≠ .timeCountTick := by decide

/-- The reset state with the B-port transmitter sending this. -/
abbrev sendingB (b : BSending) : State := r0.setBport { sending := b }

theorem witness_TransmitterEvents :
    (r0.setSport { sending := some 47 }).sport.sending = some 47 ∧ r0.sport.sending = none
    ∧ (let o : OwedSymbol := { type := .ack, channel := 0, started := true };
      let s := r0.setBport { sending := .symbol .ack 0, owed := [o] };
      s.bport.sending = .symbol .ack 0 ∧ s.bport.owed = o :: [])
    ∧ (sendingB (.partOriginated 0)).bport.sending = .partOriginated 0
    ∧ (sendingB (.downstream 47)).bport.sending = .downstream 47
    ∧ r0.bport.sending = .idle := by decide +kernel

theorem witness_TransmitterEvents_of_nothing_sent :
    (∀ t c, r0.bport.sending ≠ .symbol t c) ∧ (∀ i, r0.bport.sending ≠ .partOriginated i)
      ∧ ∀ i, r0.bport.sending ≠ .downstream i := by
  simp [State.reset]

/-- A frame on channel 3, in buffer 5, awaits its handshake. -/
abbrev awaiting : State := { r0 with
  pool := { Pool.reset with bufs := Pool.reset.bufs.set 5 [0x03, 0x40, 0, 0, 0] }
  bport := { awaiting := some 5, handshakeWait := some 0 } }

/-- The frame's channel with types 1, 2, 3, 0 and 4; another channel; no frame awaited; the wait due. -/
theorem witness_DownstreamHandshake :
    (∀ b ∈ [(0x13 : Byte), 0x23, 0x33, 0x03, 0x43],
      b.toNat % 16 = (channelField awaiting.pool.bufs[(5 : BufIdx)]).val)
    ∧ awaiting.bport.awaiting = some 5
    ∧ (0x13 : Byte).toNat / 16 = 1 ∧ (0x23 : Byte).toNat / 16 = 2 ∧ (0x33 : Byte).toNat / 16 = 3
    ∧ (0x03 : Byte).toNat / 16 = 0 ∧ 4 ≤ (0x43 : Byte).toNat / 16
    ∧ (0x12 : Byte).toNat % 16 ≠ (channelField awaiting.pool.bufs[(5 : BufIdx)]).val
    ∧ r0.bport.awaiting = none ∧ awaiting.bport.handshakeWait = some 0 := by decide +kernel

/-! ### The link -/

/-- Each state of the link with PRESENCE at each level, and a reading outstanding since a reset. -/
theorem witness_PresenceMovesTheLink :
    (∀ x ∈ [LinkState.detached, .contact, .identify, .attached, .suspect, .rejected],
      (linked x).link.state = x ∧ (linked x).lines.presence = false
        ∧ ((linked x).setLines { presence := true }).lines.presence = true)
    ∧ Front .presenceRead [] [] ((r0.setLines { presence := true }).setDeliveries [.presenceRead]) :=
  ⟨by decide +kernel, front_only _ _⟩

theorem witness_LinkTimerExpiries :
    (let s := r0.setLink { state := .contact, debounce := some 0 };
      s.link.state = .contact ∧ s.link.debounce = some 0)
    ∧ (let s := r0.setLink { state := .identify, identTimer := some 0, attempts := 2 };
      s.link.state = .identify ∧ s.link.identTimer = some 0 ∧ s.link.attempts < 3)
    ∧ (let s := r0.setLink { state := .identify, identTimer := some 0, attempts := 3 };
      s.link.state = .identify ∧ s.link.identTimer = some 0 ∧ 3 ≤ s.link.attempts)
    ∧ (let s := r0.setLink { state := .attached, alive := some 0 };
      s.link.state = .attached ∧ s.link.alive = some 0)
    ∧ (let s := r0.setLink { state := .suspect, alive := some 0 };
      s.link.state = .suspect ∧ s.link.alive = some 0 ∧ s.lines.presence = false
        ∧ (s.setLines { presence := true }).lines.presence = true)
    ∧ (r0.setPosture { baseFresh := some 0 }).posture.baseFresh = some 0 := by decide +kernel

/-- An identity of eight descriptors at the largest load and length. -/
abbrev fullIdentity : Identity :=
  { cls := 1, revision := 2, layout := 3, requestedLoad := 40, descriptors :=
    [(0 : Chan), 1, 2, 3, 4, 5, 6, 15].map fun c =>
      { channel := c, kind := .sample, handshaked := true, maxLength := 32 } }

/-- A link with one valid class, at entry 3: class 7 from revision 5, load cap 9. -/
abbrev classed : Link :=
  { classes := (Vector.replicate 4 {}).set 3 { valid := true, cls := 7, minRevision := 5, loadCap := 9 } }

theorem witness_IdentityPayloadsAndAdmissionCaps :
    (fullIdentity.requestedLoad ≤ 40 ∧ fullIdentity.descriptors.length ≤ 8
      ∧ (fullIdentity.descriptors.map Descriptor.channel).Nodup
      ∧ ∀ d ∈ fullIdentity.descriptors, d.maxLength ≤ 32)
    ∧ (let ds := fullIdentity.descriptors.map (·, true);
      ds.length ≤ 8 ∧ (ds.map (fun d => d.1.channel)).Nodup ∧ ∀ d ∈ ds, d.1.maxLength ≤ 32)
    ∧ [(0 : Byte), 0, 0, 0].length < 5
    ∧ 8 < (unitByte [0, 0, 0, 0, 9] 4).toNat
    ∧ [(0 : Byte), 0, 0, 0, 1].length ≠ 5 + 3 * (unitByte [0, 0, 0, 0, 1] 4).toNat
    ∧ (let l : List Byte := [0, 0, 0, 0, 2, 3, 1, 2, 3, 1, 2];
      (0 : Nat) < 1 ∧ 1 < (unitByte l 4).toNat ∧ unitByte l (5 + 3 * 0) = unitByte l (5 + 3 * 1))
    ∧ (∀ l ∈ [[(0 : Byte), 0, 0, 0, 1, 16, 1, 2], [0, 0, 0, 0, 1, 3, 4, 2], [0, 0, 0, 0, 1, 3, 1, 33]],
      0 < (unitByte l 4).toNat ∧ (16 ≤ (unitByte l (5 + 3 * 0)).toNat ∨ 4 ≤ (unitByte l (6 + 3 * 0)).toNat
        ∨ 32 < (unitByte l (7 + 3 * 0)).toNat % 64))
    ∧ (∀ i : Fin 4, (linked .attached).link.classes[i].valid = false)
    ∧ (classed.classes[(3 : Fin 4)].valid = true ∧ classed.classes[(3 : Fin 4)].cls = 7
      ∧ classed.classes[(3 : Fin 4)].minRevision.toNat ≤ (5 : Byte).toNat
      ∧ (∀ j : Fin 4, j < 3 → classed.classes[j].valid = false)
      ∧ ∀ j : Fin 4, classed.classes[j].valid = false ∨ classed.classes[j].cls ≠ 7
        ∨ (4 : Byte).toNat < classed.classes[j].minRevision.toNat)
    ∧ (linked .attached).link.state = .attached ∧ (linked .suspect).link.state = .suspect
    ∧ r0.link.state ≠ .attached ∧ r0.link.state ≠ .suspect := by decide +kernel

/-! ### Reception -/

/-- A unit that passes both checks of a port as a frame with this property. -/
abbrev passes (port : Port) (unit : List Byte) (p : Frame → Bool) : Prop :=
  frameCheckPasses unit = true ∧ (headerCheck port unit).any p = true

/-- A unit that passes the frame check and no header check: its kind is 13. -/
abbrev badHeader : List Byte := closeFrame [0xD0, 0, 0]

/-- A KEYS frame of the base. -/
abbrev keys (c : Chan) (toggle : Bool) (payload : List Byte) : List Byte :=
  buildFrame .keys c 1 toggle payload

theorem witness_IdentityFramesAtTheBPort :
    passes .b (buildFrame .alive 0 1 false []) (fun f => f.kind == .alive)
    ∧ passes .b (buildFrame .ident 0 1 false (identityBytes fullIdentity))
      (fun f => f.kind == .ident && identityOf f.payload == some fullIdentity)
    ∧ passes .b (buildFrame .ident 0 1 false [1, 2])
      (fun f => f.kind == .ident && identityOf f.payload == none)
    ∧ ∀ x ∈ [LinkState.detached, .contact, .identify, .attached, .suspect, .rejected],
      (linked x).link.state = x ∧ (linked x).link.admissionCap 1 2 = some 10
        ∧ (r0.setLink { classed with state := x }).link.admissionCap 1 2 = none := by decide +kernel

theorem witness_BPortRejectionsAndTheLog :
    r0.classifier.log.valid = false
    ∧ (r0.setClassifier { log := { valid := true, overflow := 255 } }).classifier.log.valid = true
    ∧ frameCheckPasses [0, 0] = false
    ∧ (frameCheckPasses badHeader = true ∧ headerCheck .b badHeader = none)
    ∧ passes .b (keys 1 false [4]) (fun f => f.kind != .ident && f.kind != .alive)
    ∧ (r0.link.state ≠ .attached ∧ r0.link.state ≠ .suspect)
    ∧ passes .b (keys 0 false [4]) (fun f => (attached.link.descriptor f.channel).isNone)
    ∧ passes .b (buildFrame .data 1 1 false [4])
      (fun f => (attached.link.descriptor f.channel).any (fun d => f.kind != d.kind.kind)) := by decide +kernel

/-- A frame of a declared channel of the attached base, of the declared kind, with this property. -/
abbrev declared (unit : List Byte) (p : Frame → Descriptor → Bool) : Prop :=
  attached.link.state = .attached
    ∧ passes .b unit (fun f =>
      (attached.link.descriptor f.channel).any (fun d => f.kind == d.kind.kind && p f d))

/-- A channel without a symbol in the list; one with an unsent symbol, the last of three; one whose symbol, the
first, is being sent. -/
theorem witness_BPortChannelChecks_owed_symbols :
    let o (c : Chan) (b : Bool) : OwedSymbol := { type := .ack, channel := c, started := b }
    let s := r0.setBport { sending := .symbol .ack 0, owed := [o 0 true, o 7 false, o 15 false] }
    (∀ x ∈ s.bport.owed, x.channel ≠ 1)
    ∧ (s.bport.owed = [o 0 true, o 7 false] ++ o 15 false :: [] ∧ (o 15 false).started = false
      ∧ ∀ x ∈ [o 0 true, o 7 false] ++ [], x.channel ≠ 15)
    ∧ (s.bport.owed = [] ++ o 0 true :: [o 7 false, o 15 false] ∧ (o 0 true).started = true
      ∧ ∀ x ∈ [] ++ [o 7 false, o 15 false], x.channel ≠ 0) := by decide +kernel

/-- A halted channel; a duplicate; a frame one byte too long, on a handshaked and on a streaming channel. -/
theorem witness_BPortChannelChecks :
    declared (keys 1 false [4]) (fun f d => d.handshaked
      && (attached.setBport { halts := (Vector.replicate 16 false).set 1 true }).bport.halts[f.channel])
    ∧ declared (buildFrame .point 2 1 false [0]) (fun f d => !d.handshaked
      && (attached.setBport { halts := (Vector.replicate 16 false).set 2 true }).bport.halts[f.channel])
    ∧ declared (keys 1 true [4]) (fun f d => d.handshaked && !attached.bport.halts[f.channel]
      && f.toggle != attached.bport.toggles[f.channel])
    ∧ declared (keys 1 false [4, 5, 6]) (fun f d => d.handshaked && !attached.bport.halts[f.channel]
      && f.toggle == attached.bport.toggles[f.channel] && decide (d.maxLength < f.payload.length))
    ∧ declared (buildFrame .point 2 1 false [1, 2, 3]) (fun f d => !d.handshaked
      && !attached.bport.halts[f.channel] && decide (d.maxLength < f.payload.length)) := by decide +kernel

/-- The attached base with a Free List at the reserve: the Default Route's queue is empty, so it refuses. -/
abbrev starved : State := attached.setPool { Pool.reset with free := [0, 1, 2, 3] }

/-- A declared frame that passes the channel checks in a state, with this answer of the classifier. -/
abbrev classified (unit : List Byte) (s : State) (handshaked answer : Bool) : Prop :=
  declared unit (fun f d => d.handshaked == handshaked && !s.bport.halts[f.channel]
    && (!d.handshaked || f.toggle == s.bport.toggles[f.channel]) && decide (f.payload.length ≤ d.maxLength)
    && (classify .b f (liveFrame (stagedAtB unit s))).1 == answer)

theorem witness_BPortAcceptanceAndRefusal :
    classified (keys 1 false [4, 5]) attached true true
    ∧ classified (buildFrame .point 2 1 true [0, 1]) attached false true
    ∧ classified (keys 1 false [4, 5]) starved true false
    ∧ classified (buildFrame .point 2 1 true [0, 1]) starved false false := by decide +kernel

/-- A SAMPLE frame with this sample counter. -/
abbrev sample (n : Byte) : List Byte := buildFrame .sample 0 1 false [n, 0, 0, 0, 0, 0, 0, 0]

theorem witness_LidAndPenPorts :
    frameCheckPasses [0x30] = false
    ∧ (frameCheckPasses badHeader = true ∧ headerCheck .l badHeader = none ∧ headerCheck .p badHeader = none)
    ∧ passes .l (buildFrame .sample 0 1 false [0]) (fun f => f.payload.length != 8)
    ∧ passes .l (sample 1) (fun f => f.payload.length == 8
      && (unitByte f.payload 1 ++ unitByte f.payload 0 : Half) == r0.lport.lastCounter + 1)
    ∧ passes .l (sample 2) (fun f => f.payload.length == 8
      && (unitByte f.payload 1 ++ unitByte f.payload 0 : Half) != r0.lport.lastCounter + 1)
    ∧ ((r0.setLport { lastValid := true }).lport.lastValid = true ∧ r0.lport.lastValid = false)
    ∧ passes .p (buildFrame .pen 0 1 false [1, 0, 50, 25, 0]) (fun f => f.kind == .pen) := by decide +kernel

/-- A MGMT frame of the host. -/
abbrev mgmt (payload : List Byte) : List Byte := buildFrame .mgmt 0 0 false payload

theorem witness_HostPort :
    frameCheckPasses [0x90] = false
    ∧ (frameCheckPasses badHeader = true ∧ headerCheck .s badHeader = none)
    ∧ passes .s (buildFrame .data 0 0 false []) (fun f => f.dest == 0 && f.kind != .mgmt)
    ∧ passes .s (buildFrame .data 0 1 false []) (fun f => f.dest != 0 && f.dest != 2)
    ∧ passes .s (buildFrame .data 0 7 false []) (fun f => f.dest != 0 && f.dest != 2)
    ∧ passes .s (buildFrame .data 0 2 false []) (fun f => f.dest == 2)
    ∧ (r0.link.state ≠ .attached ∧ r0.link.state ≠ .suspect ∧ attached.link.state = .attached)
    ∧ (placeReceived .qd (buildFrame .data 0 2 false []) (stagedAtS (buildFrame .data 0 2 false []) attached)).1
      = true
    ∧ (placeReceived .qd (buildFrame .data 0 2 false []) (stagedAtS (buildFrame .data 0 2 false []) starved)).1
      = false
    ∧ passes .s (mgmt [38, 0, 0]) (fun f => f.dest == 0 && f.kind == .mgmt && f.payload == 38 :: [0, 0]
      && (commandOfCode f.channel [0, 0] 38).isSome)
    ∧ passes .s (mgmt []) (fun f => f.dest == 0 && f.kind == .mgmt && f.payload == [])
    ∧ passes .s (mgmt [39]) (fun f => f.payload == 39 :: [] && (commandOfCode f.channel [] 39).isNone)
    ∧ passes .s (mgmt [0]) (fun f => f.payload == 0 :: [] && (commandOfCode f.channel [] 0).isNone)
    ∧ r0.pool.hasRoom = true ∧ (withQ1 [] 1 .dropNew []).pool.hasRoom = false := by decide +kernel

/-! ### Classification -/

/-- A Route Table whose entry 23 alone is valid: channels 8..15 of the B-port, KEYS. -/
abbrev lastRoute : Vector Route 24 := (Vector.replicate 24 {}).set 23
  { valid := true, port := .b, base := 8, span := 8, kind := some .keys }

/-- A frame of this kind and channel. -/
abbrev frameOf (k : Kind) (c : Chan) : Frame :=
  { kind := k, channel := c, dest := 1, toggle := false, payload := [], raw := [] }

theorem witness_ClassificationOfAFrame :
    (∀ c ∈ [(8 : Chan), 15], lastRoute[(23 : Fin 24)].valid = true ∧ lastRoute[(23 : Fin 24)].port = .b
      ∧ lastRoute[(23 : Fin 24)].base ≤ c.val
      ∧ c.val < lastRoute[(23 : Fin 24)].base + lastRoute[(23 : Fin 24)].span
      ∧ lastRoute[(23 : Fin 24)].kind = some (frameOf .keys c).kind
      ∧ ∀ j : Fin 24, j < 23 → lastRoute[j].valid = false)
    ∧ (∀ i : Fin 24, r0.classifier.routes[i].valid = false)
    ∧ ((frameOf .data 0).kind ≠ .keys ∧ (frameOf .data 0).kind ≠ .point)
    ∧ (frameOf .keys 0).kind = .keys ∧ (frameOf .point 0).kind = .point
    ∧ consumerOf .l .sample = some .lidSample ∧ consumerOf .p .pen = some .penFrame
    ∧ consumerOf .b .keys = none
    ∧ ¬ (((UpPort.b = .l ∨ UpPort.b = .b) ∧ (frameOf .keys 0).kind = .sample)
      ∨ (UpPort.b = .p ∧ (frameOf .keys 0).kind = .pen)) := by decide +kernel

theorem witness_ConsumersTakeWellShapedFrames :
    (List.replicate 8 (0 : Byte)).length = 8 ∧ (List.replicate 7 (0 : Byte)).length ≠ 8
      ∧ (List.replicate 4 (0 : Byte)).length ≠ 5 := by decide

/-- R70 at the reset band of 640: the ends of UP and DOWN, and EDGE beside them. -/
theorem test_base_faces_of_the_manual :
    [0, 640, 641, 1024, 1407, 1408, 2048, 2688, 2689, 3072, 3455, 3456, 4095].map (faceOf 640)
      = [.up, .up, .edge, .edge, .edge, .down, .down, .down, .edge, .edge, .edge, .up, .up] := by decide +kernel

/-! ### Posture -/

/-- An engine whose lid and base samples have these Z components and no others, and this hinge offset. -/
abbrev hinged (lid base : Half) (offset h : Nat) (valid : Bool) : PostureEngine :=
  { lid := { z := lid }, base := { z := base }, baseValid := true, hinge := h, hingeValid := valid
    params := { hingeOffset := offset } }

/-- The raw hinge angle the statement speaks of. -/
abbrev rawOf (p : PostureEngine) : Nat :=
  (((p.baseTilt.1 : Int) - p.lidTilt.1 + p.params.hingeOffset) % 4096).toNat

/-- Neither stale nor degenerate nor in motion, with this raw hinge angle. -/
abbrev resolves (p : PostureEngine) (raw : Nat) : Prop :=
  p.baseValid = true ∧ p.baseStale = false
    ∧ p.params.minProjection ≤ p.lidTilt.2 ∧ p.params.minProjection ≤ p.baseTilt.2
    ∧ p.lidTilt.2 ≤ p.params.maxProjection ∧ p.baseTilt.2 ≤ p.params.maxProjection ∧ rawOf p = raw

/-- Stale, degenerate, in motion; then the raw angles on either side of each end of the wrap band of 256. -/
theorem witness_HingeWorkHoldsOrResolves :
    r0.posture.baseValid = false
    ∧ (hinged 0 2048 0 0 true).lidTilt.2 < 1100 ∧ (hinged 2048 0 0 0 true).baseTilt.2 < 1100
    ∧ 4940 < (hinged 4000 2048 0 0 true).lidTilt.2 ∧ 4940 < (hinged 2048 4000 0 0 true).baseTilt.2
    ∧ resolves (hinged 2048 2048 256 0 false) 256 ∧ resolves (hinged 2048 2048 3839 0 false) 3839
    ∧ resolves (hinged 2048 2048 255 0 false) 255 ∧ resolves (hinged 2048 2048 3840 0 false) 3840
    ∧ resolves (hinged 2048 2048 3840 2047 true) 3840 ∧ resolves (hinged 2048 2048 3839 2047 true) 3839
    ∧ resolves (hinged 2048 2048 255 2048 true) 255 ∧ resolves (hinged 2048 2048 256 2048 true) 256 := by
  decide +kernel

/-- An engine whose entry 7 alone is valid: LAPTOP at 100..200, hysteresis 10, face UP, LIDSW released, dwell
2. -/
abbrev tabled (h : Nat) (x : Posture) (e : Option (Fin 8)) (c : Candidate) (n : Nat) : PostureEngine :=
  { hinge := h, posture := x, entry := e, candidate := c, candidateCount := n
    table := (Vector.replicate 8 {}).set 7
      { valid := true, posture := .laptop, low := 100, high := 200, hysteresis := 10, lid := .released
        dwell := 2 } }

/-- Entry 7 fits the engine within these bounds, and no other entry is valid. -/
abbrev fits7 (p : PostureEngine) (low high : Nat) : Prop :=
  (p.table[(7 : Fin 8)].valid = true ∧ low ≤ p.hinge ∧ p.hinge ≤ high
    ∧ p.table[(7 : Fin 8)].faces.getLsbD p.face.code = true ∧ p.table[(7 : Fin 8)].lid = .released
    ∧ p.lidsw = false) ∧ ∀ j : Fin 8, j < 7 → p.table[j].valid = false

/-- The current entry 7 holds the posture. -/
abbrev held7 (p : PostureEngine) : Prop :=
  p.entry = some 7 ∧ p.table[(7 : Fin 8)].posture = p.posture ∧ fits7 p (100 - 10) (min 4095 (200 + 10))

/-- No entry is current, and entry 7 is the first match. -/
abbrev found7 (p : PostureEngine) : Prop := p.entry = none ∧ fits7 p 100 200

/-- No entry matches. -/
abbrev unmatched7 (p : PostureEngine) : Prop :=
  p.entry = none ∧ (p.hinge < 100 ∨ 200 < p.hinge) ∧ ∀ j : Fin 8, j < 7 → p.table[j].valid = false

/-- Held at the ends of the widened range; found with the same posture at the ends of the range; one short of
and at the dwell of 2. -/
theorem witness_PostureSelection :
    held7 (tabled 90 .laptop (some 7) .none 0) ∧ held7 (tabled 210 .laptop (some 7) .none 0)
    ∧ (found7 (tabled 100 .laptop none .none 0) ∧ found7 (tabled 200 .laptop none .none 0)
      ∧ (tabled 100 .laptop none .none 0).table[(7 : Fin 8)].posture = .laptop)
    ∧ (found7 (tabled 100 .flat none (.entry 7) 1)
      ∧ (tabled 100 .flat none (.entry 7) 1).table[(7 : Fin 8)].posture ≠ .flat
      ∧ (tabled 100 .flat none (.entry 7) 1).table[(7 : Fin 8)].dwell ≤ 1 + 1)
    ∧ found7 (tabled 200 .flat none .unmatched 5)
    ∧ 1 < (tabled 200 .flat none .unmatched 5).table[(7 : Fin 8)].dwell := by
  refine ⟨?_, ?_, ?_, ?_, ?_, ?_⟩ <;> decide +kernel

/-- No entry matches: in UNKNOWN, and one short of and at the unmatched dwell of 8. -/
theorem witness_PostureSelection_unmatched :
    unmatched7 (tabled 99 .unknown none .none 0) ∧ unmatched7 (tabled 201 .unknown none .none 0)
    ∧ (unmatched7 (tabled 99 .flat none .unmatched 7)
      ∧ (tabled 99 .flat none .unmatched 7).params.unmatchedDwell ≤ 7 + 1)
    ∧ unmatched7 (tabled 201 .flat none .unmatched 6)
    ∧ 6 + 1 < (tabled 201 .flat none .unmatched 6).params.unmatchedDwell := by decide +kernel

/-- An engine under this rotation mode in every row. -/
abbrev moded (m : RotationMode) (locked : Bool) (c : Option Orientation) (n : Nat) : PostureEngine :=
  { policy := Vector.replicate 8 { rotation := m }, rotLock := locked, rotCandidate := c, rotCount := n }

theorem witness_RotationFollowsTheScreen :
    (moded .lock0 false none 0).policy[(1 : Fin 8)].rotation = .lock0
    ∧ (moded .hold false none 0).policy[(1 : Fin 8)].rotation = .hold
    ∧ ((moded .free true none 0).policy[(1 : Fin 8)].rotation = .free ∧ (moded .free true none 0).rotLock = true)
    ∧ (let p := moded .free false (some .rot90) 5;
      p.policy[p.posture.code].rotation = .free ∧ p.rotLock = false
        ∧ 699 < p.params.flatThreshold ∧ ¬ 700 < p.params.flatThreshold
        ∧ p.params.maxProjection < 4941 ∧ 4940 ≤ p.params.maxProjection
        ∧ sectorOf 511 = p.orientation ∧ sectorOf 3584 = p.orientation
        ∧ sectorOf 625 ≠ p.orientation ∧ sectorDistance 625 p.orientation ≤ p.params.rotHysteresis
        ∧ p.params.rotHysteresis < sectorDistance 626 p.orientation
        ∧ p.rotCandidate = some (sectorOf 626) ∧ p.params.rotDwell ≤ p.rotCount + 1)
    ∧ (moded .free false (some .rot90) 4).rotCount + 1 < (moded .free false (some .rot90) 4).params.rotDwell
    ∧ (∀ a ∈ [0, 511, 512, 1535, 1536, 2559, 2560, 3583, 3584, 4095], a ≤ 4095) := by decide +kernel

theorem witness_PostureAtAdmissionAndTeardown :
    (∃ s, Front .postureAdmission [] [] s ∧ s.posture.posture ≠ .unknown)
    ∧ (∃ s, Front .postureAdmission [] [] s ∧ s.posture.posture = .unknown)
    ∧ (∃ s, Front .postureTeardown [] [] s ∧ s.posture.posture ≠ .detached)
    ∧ ∃ s, Front .postureTeardown [] [] s ∧ s.posture.posture = .detached :=
  ⟨⟨_, front_only _ r0, by decide⟩, ⟨_, front_only _ (r0.setPosture { posture := .unknown }), rfl⟩,
    ⟨_, front_only _ (r0.setPosture { posture := .tent }), by decide⟩, ⟨_, front_only _ r0, rfl⟩⟩

/-! ### The Input Gate -/

/-- The reset state with this Key Filter. -/
abbrev keyed (k : KeyFilter) : State := r0.setGate { key := k }

/-- The reset state with this Pad Filter. -/
abbrev padded (p : PadFilter) : State := r0.setGate { pad := p }

/-- The same state with no buffer to be had: the Free List empty, Q1 under DROP_NEW. -/
abbrev full (s : State) : State := s.setPool { Pool.reset with free := [] }

/-- The keys a report of these codes shows under a filter with no key held, and the answer of the placement. -/
abbrev reportOf (codes : List Byte) (s : State) : Option (Bool × Bool × Bool) :=
  (keyBind 1 0 .q1 s).map fun t =>
    (t.gate.key.gateOpen, codes == t.gate.key.lastForwarded,
      (placeReceived .q1 (buildFrame .keys 1 1 false codes) (setKey t.gate.key t)).1)

/-- Foreign; suppressed; unchanged; forwarded; refused. -/
theorem witness_KeyReports :
    ((keyed { bound := some 0 }).gate.key.bound = some 0 ∧ (0 : Chan) ≠ 1)
    ∧ (reportOf [4] (keyed { bound := some 1, gateOpen := false })).any (fun r => !r.1) = true
    ∧ reportOf [4] (keyed { bound := some 1, lastForwarded := [4] }) = some (true, true, true)
    ∧ reportOf [4] (keyed { bound := some 1 }) = some (true, false, true)
    ∧ reportOf [4] (full (keyed { bound := some 1 })) = some (true, false, false) := by decide +kernel

theorem witness_KeyBindingAndTransitions :
    (keyed { bound := none }).gate.key.bound = none
    ∧ ((keyed { bound := some 1, cls := 2 }).gate.key.bound = some 1 ∧ (3 : GateClass) ≠ 2)
    ∧ ((keyed {}).gate.gates.getLsbD 7 = (keyed {}).gate.key.gateOpen
      ∧ (keyed { gateOpen := false }).gate.gates.getLsbD 7 = true
      ∧ (r0.setGate { gates := 0x7F, key := { gateOpen := true } }).gate.gates.getLsbD 7 = false)
    ∧ (keyed { lastForwarded := [4] }).gate.key.lastForwarded ≠ []
    ∧ (placeSynthetic .q1 (buildFrame .keys 1 1 false []) (keyed {})).1 = true
    ∧ (placeSynthetic .q1 (buildFrame .keys 1 1 false []) (full (keyed {}))).1 = false := by decide +kernel

/-- A POINT frame of this many contacts. -/
abbrev point (n : Byte) : Frame :=
  { kind := .point, channel := 2, dest := 1, toggle := false, payload := [n]
    raw := buildFrame .point 2 1 false [n] }

theorem witness_PadReportsAndTransitions :
    (padFollow 2 0 .q1 (padded { gateOpen := false })).gate.pad.gateOpen = false
    ∧ (let t := padFollow 2 0 .q1 (padded { awaitLift := true });
      t.gate.pad.gateOpen = true ∧ t.gate.pad.awaitLift = true ∧ 1 ≤ (unitByte (point 1).payload 0).toNat
        ∧ ¬ 1 ≤ (unitByte (point 0).payload 0).toNat)
    ∧ (let t := padFollow 2 0 .q1 (padded {});
      t.gate.pad.gateOpen = true ∧ t.gate.pad.awaitLift = false
        ∧ (placeReceived .q1 (point 1).raw t).1 = true)
    ∧ (let t := padFollow 2 0 .q1 (full (padded {}));
      t.gate.pad.gateOpen = true ∧ t.gate.pad.awaitLift = false
        ∧ (placeReceived .q1 (point 1).raw t).1 = false)
    ∧ (let s := r0.setGate { gates := 0x80, pad := { gateOpen := true } };
      (0 : GateClass) = s.gate.pad.cls ∧ (7 : GateClass) ≠ s.gate.pad.cls ∧ s.gate.gates.getLsbD 7 = true
        ∧ s.gate.gates.getLsbD 6 = false ∧ s.gate.pad.gateOpen = true
        ∧ (padded { gateOpen := false }).gate.gates.getLsbD 7 = true)
    ∧ ((padded {}).gate.pad.hadContacts = false ∧ (padded { hadContacts := true }).gate.pad.hadContacts = true)
    ∧ (placeSynthetic .q1 (buildFrame .point 0 1 false [0]) (padded { hadContacts := true })).1 = true
    ∧ (placeSynthetic .q1 (buildFrame .point 0 1 false [0]) (full (padded { hadContacts := true }))).1
      = false := by decide +kernel

/-- R98: an unbound filter's gate follows class 0, not the class of the last binding. -/
theorem test_an_unbound_filter_follows_class_0 :
    after (.gateUpdate false) ((keyed { cls := 3 }).setDeliveries [.gateUpdate (.policy .detached) 0xFE])
      (fun t => !t.gate.key.gateOpen)
    ∧ after (.gateUpdate false) ((keyed { cls := 3 }).setDeliveries [.gateUpdate (.policy .detached) 0xF7])
      (fun t => t.gate.key.gateOpen)
    ∧ after (.gateUpdate false) ((keyed { cls := 3, bound := some 1 }).setDeliveries [.gateUpdate (.policy .detached) 0xF7])
      (fun t => !t.gate.key.gateOpen) := by decide +kernel

theorem witness_GateUpdatesAndTeardown :
    (∃ s, Front (.gateUpdate (.change .tent .detached) 0xFE) [] [] s) ∧ ∃ s, Front .inputGateTeardown [] [] s :=
  ⟨⟨_, front_only _ r0⟩, ⟨_, front_only _ r0⟩⟩

/-- A pending synthetic frame on channel 3 for Q1. -/
abbrev waiting : PendingSynthetic := { channel := 3, queue := .q1 }

theorem witness_RetriesOfWaitingItems :
    (∃ s, Front .itemRetry [] [] s)
    ∧ (∀ o, ∃ s, Front (.releaseRetry o) [] [] s ∧ o.concerns s.gate.key.pending = false)
    ∧ (∀ o ∈ [RetryOccasion.bufferAvailable, .dequeue .q1],
      Front (.releaseRetry o) [] [] ((keyed { pending := some waiting }).setDeliveries [.releaseRetry o])
      ∧ Front (.liftRetry o) [] [] ((padded { pending := some waiting }).setDeliveries [.liftRetry o])
      ∧ (keyed { pending := some waiting }).gate.key.pending = some waiting
      ∧ (padded { pending := some waiting }).gate.pad.pending = some waiting)
    ∧ (∀ o, ∃ s, Front (.liftRetry o) [] [] s ∧ o.concerns s.gate.pad.pending = false) :=
  ⟨⟨_, front_only _ r0⟩, fun o => ⟨_, front_only _ r0, by cases o <;> rfl⟩,
    fun o _ => ⟨front_only _ _, front_only _ _, rfl, rfl⟩, fun o => ⟨_, front_only _ r0, by cases o <;> rfl⟩⟩

theorem witness_RetriesOfWaitingItems_placement :
    (placeSynthetic .q1 (buildFrame .keys 3 1 false []) (keyed { pending := some waiting })).1 = true
    ∧ (placeSynthetic .q1 (buildFrame .keys 3 1 false []) (full (keyed { pending := some waiting }))).1 = false
    ∧ (placeSynthetic .q1 (buildFrame .point 3 1 false [0]) (padded { pending := some waiting })).1 = true
    ∧ (placeSynthetic .q1 (buildFrame .point 3 1 false [0]) (full (padded { pending := some waiting }))).1
      = false := by decide +kernel

/-! ### Rail and charge -/

theorem witness_BPortAtAdmissionAndTeardown :
    (∃ s, Front .toggleAndHaltReset [] [] s) ∧ ∃ s, Front .transmitterTeardown [] [] s :=
  ⟨⟨_, front_only _ r0⟩, ⟨_, front_only _ r0⟩⟩

/-- An admitted base that asks for 10 units, with a cap of 8, beside a pen that holds this much of 40. -/
abbrev asking (pen : Nat) : State := { r0 with
  link := { record := { valid := true, requestedLoad := 10, loadCap := 8 } }
  rail := { penAlloc := pen } }

theorem witness_RailAtAdmissionAndTeardown :
    (∃ s, Front .admissionGrant [] [] s ∧ s.rail.penAlloc + min s.link.record.requestedLoad
      (min s.link.record.loadCap s.rail.effective) ≤ s.rail.effective)
    ∧ (∃ s, Front .admissionGrant [] [] s ∧ s.rail.effective < s.rail.penAlloc
      + min s.link.record.requestedLoad (min s.link.record.loadCap s.rail.effective))
    ∧ (∃ s, Front .railTeardown [] [] s ∧ s.rail.budgetPending = true ∧ s.rail.penAlloc ≤ s.rail.total)
    ∧ (∃ s, Front .railTeardown [] [] s ∧ s.rail.budgetPending = false)
    ∧ ∃ s, Front .railTeardown [] [] s ∧ s.rail.total < s.rail.penAlloc :=
  ⟨⟨_, front_only _ (asking 32), by decide⟩, ⟨_, front_only _ (asking 33), by decide⟩,
    ⟨_, front_only _ (r0.setRail { total := 20, penAlloc := 20, budgetPending := true }), by decide⟩,
    ⟨_, front_only _ r0, by decide⟩,
    ⟨_, front_only _ (r0.setRail { total := 20, penAlloc := 21, budgetPending := true }), by decide⟩⟩

/-- Levels 0..6 draw nothing, level 7 draws 10. -/
abbrev stepped : Charge := { levels := (Vector.replicate 8 {}).set 7 { power := 10 } }

theorem witness_LevelRequestsAndCaps :
    ((stepped.power 7 : Int) ≤ 10 ∧ ∀ m : Level, (7 : Level) < m → (10 : Int) < stepped.power m)
    ∧ ((stepped.power 6 : Int) ≤ 9 ∧ ∀ m : Level, (6 : Level) < m → (9 : Int) < stepped.power m)
    ∧ ∀ m : Level, (-1 : Int) < stepped.power m := by decide +kernel

/-- The reset state with this coil. -/
abbrev coiled (k : Coil) : State := r0.setPport { coil := k }

theorem witness_CoilStartsPeriodsAndStops :
    (let s := coiled { driving := true, swapPending := true };
      s.pport.coil.driving = true ∧ s.pport.coil.swapPending = true)
    ∧ (coiled { driving := true }).pport.coil.swapPending = false ∧ r0.pport.coil.driving = false
    ∧ (levelRequest 0 r0).1 = 0 ∧ (levelRequest 7 r0).1 ≠ 0 := by decide +kernel

/-- The reset state with this pen, valid. -/
abbrev penned (battery : Nat) (temperature : Byte) (isFull : Bool) : State := r0.setCharge
  { pen := { valid := true, battery := battery, temperature := temperature, full := isFull } }

/-- The bands at their ends, and each outcome of the pen tests. -/
theorem witness_TargetsAndPenTests :
    r0.charge.pen.valid = false
    ∧ ((penned 19 255 false).charge.pen.battery < 20 ∧ (penned 19 255 false).charge.pen.temperature.toInt < 0)
    ∧ (∀ n ∈ [20, 79], 20 ≤ (penned n 0 false).charge.pen.battery ∧ (penned n 0 false).charge.pen.battery < 80)
    ∧ (∀ n ∈ [80, 94], 80 ≤ (penned n 0 false).charge.pen.battery ∧ (penned n 0 false).charge.pen.battery < 95)
    ∧ 95 ≤ (penned 95 45 false).charge.pen.battery
    ∧ (∀ t ∈ [(0 : Byte), 34], 0 ≤ t.toInt ∧ t.toInt < 35) ∧ (∀ t ∈ [(35 : Byte), 44], 35 ≤ t.toInt ∧ t.toInt < 45)
    ∧ 45 ≤ (45 : Byte).toInt
    ∧ penTests (penned 50 50 false) = .fault ∧ penTests (penned 50 49 true) = .full
    ∧ penTests (penned 50 49 false) = .noTarget := by decide +kernel

/-- The reset state in this session with these timers. -/
abbrev inSession (x : Session) (t : ChargeTimers) : State := r0.setCharge { session := x, timers := t }

/-- The reset state in this session with these timers, every row of the policy capping the charge at 0. -/
abbrev capped (x : Session) (t : ChargeTimers) : State :=
  (inSession x t).setPosture { policy := Vector.replicate 8 { chargeCap := 0 } }

theorem witness_SessionTimerExpiries :
    (∀ s ∈ [inSession .scan { ping := some 0 }, capped .scan { ping := some 0 }],
      s.charge.session = .scan ∧ s.charge.timers.ping = some 0)
    ∧ (∀ s ∈ [inSession .topped { topUp := some 0 }, capped .topped { topUp := some 0 }],
      s.charge.session = .topped ∧ s.charge.timers.topUp = some 0)
    ∧ probeTarget (inSession .scan {}) ≠ 0 ∧ probeTarget (capped .scan {}) = 0
    ∧ probeTarget (inSession .topped {}) ≠ 0 ∧ probeTarget (capped .topped {}) = 0
    ∧ (let s := inSession .probe { probe := some 0 };
      s.charge.session = .probe ∧ s.charge.timers.probe = some 0)
    ∧ (let s := inSession .charging { silence := some 0 };
      s.charge.session = .charging ∧ s.charge.timers.silence = some 0)
    ∧ (let s := inSession .cooldown { cooldown := some 0 };
      s.charge.session = .cooldown ∧ s.charge.timers.cooldown = some 0) := by decide +kernel

/-- The state after this PEN payload filled the Pen Record of a charger in this session, every cell of the
Charge Table at this level. -/
abbrev penTaken (x : Session) (cell : Level) (battery temperature flags : Byte) : State := r0.setCharge
  { session := x, cells := Vector.replicate 16 cell, pen :=
    { valid := true, battery := min battery.toNat 100, temperature := temperature
      full := flags.getLsbD 0, error := flags.getLsbD 1 } }

theorem witness_PenFrames :
    [(1 : Byte), 0, 94, 49, 0].length = 5
    ∧ (∀ x ∈ [Session.off, .scan, .cooldown, .lockout, .probe, .charging, .topped, .hold],
      (inSession x {}).charge.session = x)
    ∧ (∀ x ∈ [Session.probe, .charging, .topped],
      penTests (penTaken x 1 94 49 2) = .fault ∧ penTests (penTaken x 1 94 49 1) = .full
        ∧ penTests (penTaken x 0 94 49 0) = .noTarget ∧ penTests (penTaken x 1 94 49 0) = .charge)
    ∧ ((penTaken .topped 1 95 25 0).charge.params.resume ≤ (penTaken .topped 1 95 25 0).charge.pen.battery
      ∧ (penTaken .topped 1 94 25 0).charge.pen.battery < (penTaken .topped 1 94 25 0).charge.params.resume)
    ∧ chargeTarget (penTaken .hold 0 50 25 0) = 0 ∧ chargeTarget (penTaken .hold 1 50 25 0) ≠ 0 := by
  decide +kernel

/-- R146, R151, R154: a ping and a probe from HOLD count as pings, a top-up probe does not. -/
theorem test_a_top_up_probe_is_no_ping :
    after .pingExpiry (inSession .scan { ping := some 0 })
      (fun t => t.charge.session == .probe && t.charge.counters.pings == 1)
    ∧ after (.capChange .rail) ((penTaken .hold 1 50 25 0).setDeliveries [.capChange .rail])
      (fun t => t.charge.session == .probe && t.charge.counters.pings == 1)
    ∧ after .topUpExpiry (inSession .topped { topUp := some 0 })
      (fun t => t.charge.session == .probe && t.charge.counters.pings == 0) := by decide +kernel

/-- A charging session that aims at this level, with the coil driven or not at buffered level 1. -/
abbrev driven (cell : Level) (driving : Bool) : State :=
  (penTaken .charging cell 50 25 0).setPport { coil := { driving := driving, buffered := 1 } }

/-- CHARGING kept at the buffered level, at another, and with the coil idle. -/
theorem witness_PenFrames_charging_kept :
    (∀ s ∈ [driven 1 true, driven 2 true, driven 1 false],
      s.charge.session = .charging ∧ penTests s = .charge)
    ∧ chargeTarget (driven 1 true) = (driven 1 true).pport.coil.buffered
    ∧ chargeTarget (driven 2 true) ≠ (driven 2 true).pport.coil.buffered := by decide +kernel

theorem witness_SessionMoves :
    (r0.setCharge { faultCount := 1 }).charge.faultCount + 1 < 3
    ∧ 3 ≤ (r0.setCharge { faultCount := 2 }).charge.faultCount + 1
    ∧ chargeTarget (driven 1 true) = (driven 1 true).pport.coil.buffered
    ∧ (chargeTarget (driven 0 true) ≠ (driven 0 true).pport.coil.buffered
      ∧ (levelRequest (chargeTarget (driven 0 true)) (driven 0 true)).1 = 0)
    ∧ (chargeTarget (driven 2 true) ≠ (driven 2 true).pport.coil.buffered
      ∧ (levelRequest (chargeTarget (driven 2 true)) (driven 2 true)).1 ≠ 0)
    ∧ (levelRequest (chargeTarget (driven 0 false)) (driven 0 false)).1 = 0
    ∧ (levelRequest (chargeTarget (driven 1 false)) (driven 1 false)).1 ≠ 0 := by decide +kernel

theorem witness_CapChanges :
    (∀ e x, ∃ s, Front (.capChange e) [] [] s ∧ s.charge.session = x)
    ∧ (∃ x, CapEvent.posture (.change .tent .flat) = .posture x)
    ∧ probeTarget (inSession .probe {}) ≠ 0 ∧ probeTarget (capped .probe {}) = 0
    ∧ (∀ x ∈ [Session.charging, .hold],
      chargeTarget (penTaken x 0 50 25 0) = 0 ∧ chargeTarget (penTaken x 1 50 25 0) ≠ 0)
    ∧ (r0.charge.session ≠ .probe ∧ r0.charge.session ≠ .charging ∧ r0.charge.session ≠ .hold) :=
  ⟨fun _ x => ⟨_, front_only _ (inSession x {}), rfl⟩, ⟨_, rfl⟩, by decide +kernel⟩

/-- R93 and R96: a write to the current row tells all three receivers the current posture code. -/
theorem test_a_policy_event_carries_the_current_code :
    after (.writePolicy 0 [1, 0xFE, 2, 7, 0, 0, 0, 0, 0, 0, 0]) r0 (fun t =>
      t.deliveries == [.gateUpdate (.policy .detached) 0xFE, .capChange (.posture (.policy .detached)),
        .powerPolicyEvent .detached { gateMask := 0xFE, rotation := .hold, chargeCap := 7 }]) := by
  decide +kernel

/-! ### Sleep, wake and events -/

/-- The reset state with this Power Policy Unit. -/
abbrev powered (p : Power) : State := r0.setPower p

/-- Each vote and reason meets a delivery; the two timers are due; the rows of a policy event. -/
theorem witness_SleepVoteMoves :
    ((powered { vote := .pending, sleepDelay := some 0 }).power.vote = .pending
      ∧ (powered { vote := .pending, sleepDelay := some 0 }).power.sleepDelay = some 0)
    ∧ ((powered { idle := some 0 }).power.vote = .awake ∧ (powered { idle := some 0 }).power.idle = some 0)
    ∧ (∀ d v r, ∃ s, Front d [] [] s ∧ s.power.vote = v ∧ s.power.reason = r)
    ∧ (({ idleTimeout := 0 } : PolicyRow).idleTimeout = 0 ∧ ({ idleTimeout := 1000 } : PolicyRow).idleTimeout ≠ 0)
    ∧ ({} : PolicyRow).sleepDelay = none
    ∧ ({ sleepDelay := some 60000 } : PolicyRow).sleepDelay = some 60000 :=
  ⟨⟨rfl, rfl⟩, ⟨rfl, rfl⟩, fun _ v r => ⟨_, front_only _ (powered { vote := v, reason := r }), rfl, rfl⟩,
    ⟨rfl, by decide⟩, rfl, rfl⟩

/-- Awake, and asleep with the source's latch up, down with the source disabled and enabled; waking; the lid
condition opening, closing and standing. -/
theorem witness_WakeSources :
    (∀ e p, ∃ s, Front (.wakeSource e) [] [] s ∧ s.power = p)
    ∧ (r0.power.vote ≠ .asleep ∧ r0.power.vote ≠ .waking)
    ∧ (let bit : BitVec 8 := BitVec.twoPow 8 (edgeIndex .key);
      (powered { vote := .asleep, latches := bit }).power.latches &&& bit ≠ 0
        ∧ (powered { vote := .asleep }).power.latches &&& bit = 0
        ∧ (powered { vote := .asleep }).power.enables &&& bit ≠ 0
        ∧ (powered { vote := .waking, enables := 0 }).power.enables &&& bit = 0)
    ∧ (Posture.tent ≠ .closed ∧ Posture.tent ≠ .detached)
    ∧ ((8 : BitVec 8) &&& ~~~(0 : BitVec 8)) &&& (powered { vote := .asleep }).power.enables = 0
    ∧ ((9 : BitVec 8) &&& ~~~(0 : BitVec 8)) &&& (powered { vote := .asleep }).power.enables ≠ 0 :=
  ⟨fun _ p => ⟨_, front_only _ (powered p), rfl⟩, by decide +kernel⟩

theorem witness_EventDeliveries :
    (∃ s, Front .stateRequest [] [] s)
    ∧ (∀ c m, ∃ s, Front (.event c) [] [] s ∧ s.mgmt = m)
    ∧ (∀ c ∈ [EventCause.attach, .queueDrop], let bit : BitVec 16 := BitVec.twoPow 16 (causeIndex c).val;
      ((0 : BitVec 16) &&& bit = 0 ∧ (0x8001 : BitVec 16) &&& bit ≠ 0)) :=
  ⟨⟨_, front_only .stateRequest r0⟩, fun _ m => ⟨_, front_only _ (r0.setMgmt m), rfl⟩, by decide +kernel⟩

/-- R95 and R96: the teardown's STATE frame is requested beside the posture change event, and is placed when the
Management Unit takes the request, which may be before or after the other receivers. -/
theorem test_a_state_request_is_an_event_of_its_own :
    after .postureTeardown ((r0.setPosture { posture := .tent }).setDeliveries [.postureTeardown]) (fun t =>
      t.pool.q0.items == [] && t.deliveries.length == 4 && t.deliveries.contains .stateRequest)
    ∧ after (.eventDelivery .stateRequest) (r0.setDeliveries [.capChange (.posture (.policy .tent)), .stateRequest]) (fun t =>
      t.pool.q0.items == [0] && t.pool.bufs[(0 : BufIdx)]
          == buildFrame .state 0 1 false [1, 255, 0, 0, 0, 0, 0, 0, 0, 0, 0]
        && t.deliveries == [.capChange (.posture (.policy .tent))]) := by decide +kernel

theorem witness_TimersRunAndOnlyWhatIsDueActs :
    (∀ d b a, ¬ Front d b a r0)
    ∧ ((r0.setLines { presence := true }).lines.presence = true
      ∧ ∀ b a, ¬ Front .presenceRead b a (r0.setLines { presence := true }))
    ∧ (r0.bport.handshakeWait ≠ some 0 ∧ r0.posture.baseFresh ≠ some 0 ∧ r0.link.debounce ≠ some 0
      ∧ r0.link.identTimer ≠ some 0 ∧ r0.link.alive ≠ some 0 ∧ r0.power.sleepDelay ≠ some 0
      ∧ r0.power.idle ≠ some 0 ∧ r0.charge.timers.ping ≠ some 0 ∧ r0.charge.timers.probe ≠ some 0
      ∧ r0.charge.timers.silence ≠ some 0 ∧ r0.charge.timers.topUp ≠ some 0
      ∧ r0.charge.timers.cooldown ≠ some 0)
    ∧ (inSession .scan { ping := some 1 }).charge.timers.ping ≠ some 0 :=
  ⟨fun _ _ _ => front_none _ _ _ rfl, ⟨rfl, fun _ _ => front_none _ _ _ rfl⟩, by decide +kernel⟩

theorem test_a_tick_takes_one_millisecond_from_a_timer :
    after .timeCountTick (inSession .scan { ping := some 500 }) (fun t => t.charge.timers.ping == some 499)
    ∧ after .timeCountTick (inSession .scan { ping := some 0 }) (fun t => t.charge.timers.ping == some 0) := by
  decide +kernel

/-! ### Management commands -/

/-- A command that does not reset, a SOFT_RESET, and the frame that carries one. -/
theorem witness_GetInfoAndTheLastReset :
    r0.pool.hasRoom = true
    ∧ Instr.timeCountTick ≠ .powerOnReset ∧ Instr.softReset 0 [] ≠ .powerOnReset
    ∧ (∀ channel, Instr.timeCountTick ≠ .softReset channel [])
    ∧ (∀ b0 rest, Instr.timeCountTick ≠ .sPortUnitCompleted b0 rest)
    ∧ passes .s (mgmt [2]) (fun f => f.dest == 0 && f.kind == .mgmt && f.payload == [2]) := by
  refine ⟨by decide +kernel, by decide, by decide, ?_, ?_, by decide +kernel⟩ <;> intros <;> simp

theorem witness_ReadsAnswerTheRecords :
    r0.pool.hasRoom = true ∧ r0.classifier.log.valid = false
    ∧ (r0.setClassifier { log := { valid := true } }).classifier.log.valid = true
    ∧ 8 ≤ (8 : Byte).toNat ∧ 3 ≤ (3 : Byte).toNat ∧ 25 ≤ (25 : Byte).toNat ∧ 5 ≤ (5 : Byte).toNat
    ∧ 11 ≤ (11 : Byte).toNat ∧ (24 : Byte).toNat ≤ 24 ∧ 2 ≤ (2 : Byte).toNat ∧ (4 : Byte).toNat ≤ 4
    ∧ (10 : Byte).toNat ≤ 10 := by decide +kernel

theorem witness_RouteCommands :
    r0.pool.hasRoom = true ∧ 24 ≤ (24 : Byte).toNat
    ∧ ((0 : Byte).toNat ≤ 2 ∧ (15 : Byte).toNat ≤ 15 ∧ (1 : Byte).toNat ≤ 3 ∧ 1 ≤ (3 : Byte).toNat
      ∧ (3 : Byte).toNat ≤ 3 ∧ (7 : Byte).toNat ≤ 7)
    ∧ (¬ (3 : Byte).toNat ≤ 2 ∧ ¬ (16 : Byte).toNat ≤ 15 ∧ ¬ (4 : Byte).toNat ≤ 3 ∧ ¬ (8 : Byte).toNat ≤ 7)
    ∧ (UpPort.p.code = (2 : Byte).toNat ∧ Action.drop.code = (3 : Byte).toNat
      ∧ (7 : GateClass).val = (7 : Byte).toNat)
    ∧ (r0.classifier.routes[(23 : Fin 24)].valid = false ∧ lastRoute[(23 : Fin 24)].valid = true)
    ∧ ((3 : Byte).toNat = HostQueue.q3.id.code ∧ (0 : Byte).toNat = 0 ∧ 4 ≤ (4 : Byte).toNat) := by
  decide +kernel

/-- The bounds of a posture entry and of a policy row, met and just missed; an axis map; the parameters. -/
theorem witness_PostureCommands :
    r0.pool.hasRoom = true ∧ 2 ≤ (2 : Byte).toNat ∧ (7 : Byte).toNat ≤ 7
    ∧ (255 : Byte).toNat + 256 * (15 : Byte).toNat = 4095 ∧ (64 : Byte).toNat ≤ 64 ∧ ¬ (65 : Byte).toNat ≤ 64
    ∧ r0.posture.table[(7 : Fin 8)].valid = false ∧ (tabled 0 .flat none .none 0).table[(7 : Fin 8)].valid = true
    ∧ Posture.tablet.code.val = (7 : Byte).toNat ∧ LidCondition.released.code = (2 : Byte).toNat
    ∧ (r0.posture.candidate ≠ .entry 7 ∧ (tabled 0 .flat none (.entry 7) 1).candidate = .entry 7)
    ∧ 8 ≤ (8 : Byte).toNat
    ∧ ((0x60 : Byte).toNat + 256 * (0xEA : Byte).toNat ≤ 60000
      ∧ 1000 ≤ (0xE8 : Byte).toNat + 256 * (3 : Byte).toNat
      ∧ (0x80 : Byte).toNat + 256 * (0xEE : Byte).toNat + 65536 * (0x36 : Byte).toNat ≤ 3600000)
    ∧ RotationMode.ofCode 2 = some .hold ∧ (1 : Fin 8) = r0.posture.posture.code
    ∧ (0 : Fin 8) ≠ r0.posture.posture.code := by decide +kernel

/-- Angle Parameters at the ends of their ranges. -/
abbrev endParams : AngleParams :=
  { hingeOffset := 4095, wrapBand := 16, minProjection := 65535, maxProjection := 65535, baseFaceBand := 1023
    rotHysteresis := 511, rotDwell := 64, baseFreshness := 5 }

theorem witness_PostureCommands_axes_and_parameters :
    (let r : AxisRecord := {};
      r.x.source ≠ r.y.source ∧ r.x.source ≠ r.z.source ∧ r.y.source ≠ r.z.source)
    ∧ (r0.posture.posture = .detached ∧ (tabled 0 .flat none .none 0).posture ≠ .detached
      ∧ (tabled 0 .flat none .none 0).posture ≠ .unknown)
    ∧ (2 ≤ (2 : Byte).toNat ∧ (1 : Byte).toNat ≤ 1 ∧ 3 ≤ (3 : Byte).toNat)
    ∧ (let a := endParams;
      a.hingeOffset ≤ 4095 ∧ 16 ≤ a.wrapBand ∧ a.wrapBand ≤ 1024 ∧ 128 ≤ a.baseFaceBand
        ∧ a.baseFaceBand ≤ 1023 ∧ a.rotHysteresis ≤ 511 ∧ a.rotDwell ≤ 64 ∧ 5 ≤ a.baseFreshness
        ∧ a.minProjection ≤ a.maxProjection ∧ a.maxProjection ≤ 65535)
    ∧ (({ hingeOffset := 4096 } : AngleParams).hingeOffset ≤ 65535
      ∧ ¬ ({ hingeOffset := 4096 } : AngleParams).hingeOffset ≤ 4095)
    ∧ (r0.posture.policy[r0.posture.posture.code].rotation = .free ∧ r0.posture.rotLock = false)
    ∧ (moded .hold true none 0).policy[(moded .hold true none 0).posture.code].rotation ≠ .free := by
  decide +kernel

theorem witness_LinkAndChannelCommands :
    r0.pool.hasRoom = true ∧ (40 : Byte).toNat ≤ 40 ∧ 41 ≤ (41 : Byte).toNat ∧ 5 ≤ (5 : Byte).toNat
    ∧ (3 : Byte).toNat ≤ 3 ∧ 2 ≤ (2 : Byte).toNat ∧ (4 : Byte).toNat = 4 ∧ 16 ≤ (16 : Byte).toNat
    ∧ (10 ≤ 10 ∧ 10 ≤ 500 ∧ 50 ≤ 2000 ∧ 2000 ≤ 2000 ∧ 20 ≤ 1000 ∧ 1000 ≤ 1000)
    ∧ ¬ ((10 : Nat) ≤ 501 ∧ (501 : Nat) ≤ 500) := by decide +kernel

/-- The budget at, above and below each bound; the drive levels, cells and parameters at theirs; the charger in
each session. -/
theorem witness_RailAndChargeCommands :
    r0.pool.hasRoom = true ∧ 81 ≤ (81 : Byte).toNat
    ∧ (let r : Rail := { grant := 10, penAlloc := 20 };
      (9 : Byte).toNat < r.grant + r.pendingGrant ∧ r.grant + r.pendingGrant ≤ (10 : Byte).toNat
        ∧ (29 : Byte).toNat < r.grant + r.penAlloc ∧ r.grant + r.penAlloc ≤ (30 : Byte).toNat
        ∧ (80 : Byte).toNat ≤ 80)
    ∧ ((0 : Byte).toNat = 0 ∧ 8 ≤ (8 : Byte).toNat ∧ (7 : Level) ≠ 0 ∧ (7 : Level).val = (7 : Byte).toNat)
    ∧ ((99 : Byte).toNat < 100 ∧ 400 < (145 : Byte).toNat + 256 * (1 : Byte).toNat ∧ 40 < (41 : Byte).toNat
      ∧ 100 ≤ (100 : Byte).toNat ∧ (144 : Byte).toNat + 256 * (1 : Byte).toNat ≤ 400 ∧ (40 : Byte).toNat ≤ 40)
    ∧ (r0.charge.enabled = false ∧ (r0.setCharge { enabled := true }).charge.enabled = true)
    ∧ ((15 : Fin 16).val = 4 * (3 : Fin 4).val + (3 : Fin 4).val ∧ 4 ≤ (4 : Byte).toNat ∧ (3 : Byte).toNat ≤ 3)
    ∧ (20 ≤ (20 : Byte).toInt ∧ (100 : Byte).toInt ≤ 100 ∧ ¬ 20 ≤ (0xEC : Byte).toInt)
    ∧ ((7 : Level).val = (7 : Byte).toNat ∧ (50 : Byte).toNat ≤ 100)
    ∧ (r0.charge.session = .off ∧ (inSession .lockout {}).charge.session = .lockout
      ∧ (inSession .scan {}).charge.session ≠ .off ∧ (inSession .scan {}).charge.session ≠ .lockout)
    ∧ (∀ l : Fin 7, stepped.power l.castSucc ≤ stepped.power l.succ)
    ∧ ¬ (∀ l : Fin 7, ({ levels := (Vector.replicate 8 {}).set 6 { power := 1 } } : Charge).power l.castSucc
      ≤ ({ levels := (Vector.replicate 8 {}).set 6 { power := 1 } } : Charge).power l.succ)
    ∧ 2 ≤ (2 : Byte).toNat := by decide +kernel

theorem witness_HostQueueAndEventCommands :
    r0.pool.hasRoom = true
    ∧ (r0.power.vote ≠ .asleep ∧ r0.power.vote ≠ .waking ∧ (powered { vote := .asleep }).power.vote = .asleep
      ∧ HostPower.off ≠ .active)
    ∧ 3 ≤ (3 : Byte).toNat
    ∧ ((1 : Byte).toNat < 2 ∧ ¬ (1 : Byte).toNat < 1 ∧ 48 < (49 : Byte).toNat ∧ (48 : Byte).toNat ≤ 48
      ∧ QueueId.q1 ≠ .q0 ∧ 2 ≤ (2 : Byte).toNat ∧ (1 : Byte).toNat ≤ 1)
    ∧ (let v := (withPlace (withQ1 [8, 9] 2 .dropNew [0])).pool.queue .q1;
      (1 : Byte).toNat < v.items.length ∧ v.items.length ≤ (2 : Byte).toNat)
    ∧ (5 ≤ (5 : Byte).toNat ∧ (0 : Byte).toNat = 0)
    ∧ (let m : Mgmt := { flags := 0x8000 };
      (0 : BitVec 16) &&& ~~~m.enables &&& m.flags &&& ~~~m.owedNotices = 0
        ∧ (0x8001 : BitVec 16) &&& ~~~m.enables &&& m.flags &&& ~~~m.owedNotices
          = BitVec.twoPow 16 (causeIndex .queueDrop).val) := by decide +kernel

/-- Three causes turned on whose flags are set, listed in ascending cause number; and none. -/
theorem witness_HostQueueAndEventCommands_fresh_causes :
    let cs : List EventCause := [.attach, .detach, .queueDrop]
    (cs.map causeIndex).Pairwise (· < ·)
    ∧ (∀ c ∈ allCauses, c ∈ cs ↔ (0x8003 : BitVec 16).getLsbD (causeIndex c).val = true)
    ∧ (∀ c : EventCause, c ∈ allCauses)
    ∧ (([] : List EventCause).map causeIndex).Pairwise (· < ·)
    ∧ ∀ c ∈ allCauses, c ∈ ([] : List EventCause) ↔ (0 : BitVec 16).getLsbD (causeIndex c).val = true :=
  ⟨by decide +kernel, by decide +kernel, fun c => by cases c <;> decide +kernel, by decide +kernel,
    by decide +kernel⟩

theorem witness_SoftResetArgumentsAndRoom :
    r0.pool.hasRoom = true ∧ (withQ1 [] 1 .dropNew []).pool.hasRoom = false
    ∧ commandOfCode 0 [] (38 : Byte).toNat = some (.readCounters 0 [])
    ∧ argumentBytes (38 : Byte).toNat ≠ some ([] : List Byte).length
    ∧ commandOfCode 15 [1] (1 : Byte).toNat = some (.getInfo 15 [1])
    ∧ argumentBytes (1 : Byte).toNat ≠ some [(1 : Byte)].length := by decide +kernel

/-! ### Single commands, with results taken from the manual's tables -/

/-- R171's identity bytes, Time Count 0 and last reset 0, in the first response after reset. -/
theorem test_get_info_after_reset : after (.getInfo 0 []) r0 (fun t =>
    t.pool.q0.items == [0] && t.pool.bufs[(0 : BufIdx)] == buildFrame .resp 0 1 false
      [1, 0, 0x48, 0xC4, 1, 48, 24, 8, 4, 8, 16, 8, 16, 14, 32, 16, 0, 0, 0]) := by decide +kernel

/-- R112 and R124: CONTACT with the power-on Contact Debounce of 50 ms. -/
theorem test_presence_starts_the_debounce : after .presenceAsserted r0 (fun t =>
    t.link.state == .contact && t.link.debounce == some 50 && t.link.counters.contacts == 1) := by decide +kernel

/-- R14 and R15: the first keys frame of toggle 0 is accepted on the Default Route to Q3, acknowledged, and the
expected toggle inverted. -/
theorem test_a_key_frame_is_acknowledged :
    after (.bPortUnitCompleted 0x11 0x20 [1, 4, 0x60, 0x5F]) attached (fun t =>
      t.bport.counters.checkFailures == 1)
    ∧ after (match keys 1 false [4] with
        | b0 :: b1 :: rest => .bPortUnitCompleted b0 b1 rest
        | _ => .timeCountTick) attached (fun t =>
      t.pool.q3.items == [0] && t.bport.toggles[(1 : Chan)] && t.bport.sending == .symbol .ack 1) := by
  decide +kernel

/-- R132: from a budget of 40 down to 30 at once, answered with the data byte 0. -/
theorem test_set_budget_in_force : after (.setBudget 0 [30]) r0 (fun t =>
    t.rail.total == 30 && t.rail.effective == 30
      && t.pool.bufs[(0 : BufIdx)] == buildFrame .resp 0 1 false [20, 0, 0]) := by decide +kernel

/-- R168: a wrong number of argument bytes. -/
theorem test_bad_length : after (.setBudget 0 []) r0 (fun t =>
    t.rail == r0.rail && t.mgmt.counters.notOk == 1) := by decide +kernel

end Sys2Proof.Tests
end

section
/-! PROOFS. The state after power-on reset (R24, R25, R31, R111). -/

namespace Sys2Proof.Machine

/-- After power-on reset every buffer is on the Free List (R24, R31). -/
theorem State.reset_bufferPlaces : State.reset.bufferPlaces = List.finRange 48 := by
  simp [State.bufferPlaces, Pool.listed, State.reset, Pool.reset, BSending.buffers]

theorem poolLaw_reset : PoolLaw State.reset := by
  refine ⟨?_, ?_, by decide, by decide⟩
  · rw [State.reset_bufferPlaces]; exact List.length_finRange
  · rw [State.reset_bufferPlaces]; exact List.nodup_finRange 48

theorem transmitLaw_reset : TransmitLaw State.reset := by decide

theorem routeLaw_reset : RouteLaw State.reset := by decide

theorem postureLaw_reset : PostureLaw State.reset := by decide

theorem gateLaw_reset : GateLaw State.reset := by decide

theorem linkLaw_reset : LinkLaw State.reset := by decide

theorem railLaw_reset : RailLaw State.reset := by decide

theorem voteLaw_reset : VoteLaw State.reset := by decide

theorem eventLaw_reset : EventLaw State.reset := by decide

theorem lawful_reset : Lawful State.reset :=
  ⟨poolLaw_reset, transmitLaw_reset, routeLaw_reset, postureLaw_reset, gateLaw_reset, linkLaw_reset,
    railLaw_reset, voteLaw_reset, eventLaw_reset⟩

/-- Settles O2: the laws hold block by block of the reset state, and POWER_ON_RESET writes out that state with the
lines and the queue of commands kept. -/
theorem powerOnResetIsLawful : Obligations.PowerOnResetIsLawful := by
  refine ⟨lawful_reset, rfl, fun s => ⟨powerOn s, rfl, ?_⟩⟩
  exact ⟨rfl, ⟨rfl, rfl, rfl⟩, ⟨rfl, rfl, rfl⟩, ⟨rfl, rfl, rfl⟩, ⟨rfl, rfl, rfl⟩, ⟨rfl, rfl, rfl⟩,
    rfl, rfl, rfl, rfl, rfl, rfl, rfl, rfl, rfl, rfl, rfl, rfl, rfl⟩

end Sys2Proof.Machine
end

section
/-! PROOFS. The Time Count: what each way of running a command leaves of it, and which commands change it (R1). -/

namespace Sys2Proof.Machine

/-! ### Deliveries taken, line events and timers -/

/-- A delivery taken keeps the Time Count where what is done with it does. -/
theorem taking_time {α : Type} (r : Block × Block) (sel : Delivery → Option α) {f : α → State → State}
    (hf : ∀ a t, (f a t).time = t.time) (s : State) : (taking r sel f s).time = s.time := by
  rcases taking_cases r sel f s with h | ⟨a, ds, -, h⟩ <;> simp [h, hf]

/-- One particular delivery taken keeps the Time Count where what is done at it does. -/
theorem takingOne_time (d : Delivery) {f : State → State} (hf : ∀ t, (f t).time = t.time) (s : State) :
    (takingOne d f s).time = s.time :=
  taking_time _ _ (fun _ => hf) s

@[simp] theorem hostReady_time (level : Bool) (s : State) : (hostReady level s).time = s.time := by
  simp [hostReady]

@[simp] theorem presenceAsserted_time (s : State) : (presenceAsserted s).time = s.time := by
  simp only [presenceAsserted]
  split
  · exact takingOne_time _ (by simp) s
  · simp

@[simp] theorem presenceReleased_time (s : State) : (presenceReleased s).time = s.time := by
  simp only [presenceReleased]; split <;> simp

@[simp] theorem handshakeExpired_time (s : State) : (handshakeExpired s).time = s.time := by
  simp only [handshakeExpired]; (repeat' split) <;> simp

@[simp] theorem hostFrameSent_time (s : State) : (hostFrameSent s).time = s.time := by
  simp only [hostFrameSent]; split <;> simp

@[simp] theorem freshnessExpired_time (s : State) : (freshnessExpired s).time = s.time := by
  simp only [freshnessExpired]; split <;> simp

@[simp] theorem lookWhereAsked_time (s : State) : (lookWhereAsked s).time = s.time := by
  simp only [lookWhereAsked]; split <;> simp

/-! ### The meanings of the deliveries -/

@[simp] theorem tryRelease_time (o : RetryOccasion) (s : State) : (tryRelease o s).time = s.time := by
  simp only [tryRelease]; split <;> simp

@[simp] theorem tryLift_time (o : RetryOccasion) (s : State) : (tryLift o s).time = s.time := by
  simp only [tryLift]; split <;> simp

@[simp] theorem admitPosture_time (s : State) : (admitPosture s).time = s.time := by
  simp [admitPosture]

@[simp] theorem tearPosture_time (s : State) : (tearPosture s).time = s.time := by
  simp [tearPosture]

@[simp] theorem resetToggles_time (s : State) : (resetToggles s).time = s.time := by
  simp [resetToggles]

/-! ### Commands answered -/

@[simp] theorem complete_time (code : Byte) (i : BufIdx) (a : Answer) :
    (complete code i a).time = a.state.time := by
  simp [complete]

/-- A command answered in place keeps the Time Count where its execution does. -/
theorem respond_time (code : Byte) (unit : List Byte) {run : State → Answer}
    (hr : ∀ t, (run t).state.time = t.time) (s : State) : (respond code unit run s).time = s.time := by
  rcases respond_cases code unit run s with ⟨-, i, p, -, h⟩ | h <;> simp [h, hr]

theorem mgmtEvent_time (code : Byte) (channel : Chan) (args : List Byte) {run : List Byte → State → Answer}
    (hr : ∀ t, (run args t).state.time = t.time) (s : State) :
    (mgmtEvent code channel args run s).time = s.time := by
  simp [mgmtEvent, respond_time code _ hr]

/-- The soft reset leaves the Time Count as it stands (R1, R172). -/
@[simp] theorem softResetState_time (s : State) : (softResetState s).time = s.time := rfl

@[simp] theorem placeResetResponse_time (s : State) : (placeResetResponse s).time = s.time := by
  simp only [placeResetResponse]; split <;> simp

@[simp] theorem runSoftReset_time (unit args : List Byte) (s : State) :
    (runSoftReset unit args s).time = s.time := by
  simp only [runSoftReset]
  split
  · split <;> simp
  · exact respond_time _ _ (by simp) s

/-- No command that a code names, SOFT_RESET aside, changes the Time Count in its execution. -/
theorem commandOf_time {code : Nat} {run : List Byte → State → Answer} (h : commandOf code = some run)
    (args : List Byte) (t : State) : (run args t).state.time = t.time := by
  unfold commandOf at h
  split at h <;> cases h <;> simp

/-! ### The S-port -/

@[simp] theorem manage_time (unit payload : List Byte) (s : State) : (manage unit payload s).time = s.time := by
  cases payload with
  | nil => exact respond_time _ _ (by simp) s
  | cons code args =>
    simp only [manage]
    split
    · simp
    · cases hc : commandOf code.toNat with
      | none => exact respond_time _ _ (by simp) s
      | some run => exact respond_time _ _ (commandOf_time hc args) s

@[simp] theorem placeDownstream_time (f : Frame) (s : State) : (placeDownstream f s).time = s.time := by
  have hp := placeReceived_frame .qd f.raw s
  simp only [placeDownstream]
  split <;> simp_all

@[simp] theorem takeHostFrame_time (f : Frame) (s : State) : (takeHostFrame f s).time = s.time := by
  simp only [takeHostFrame, badDest]; (repeat' split) <;> simp

@[simp] theorem receiveS_time (unit : List Byte) (s : State) : (receiveS unit s).time = s.time := by
  simp only [receiveS]; (repeat' split) <;> simp

/-! ### Every command -/

/-- An event that acts only under a condition keeps the Time Count where its act does. -/
theorem guarded_time {p : Prop} [Decidable p] {s t : State} (h : t.time = s.time) :
    (if p then t else s).time = s.time := by
  split
  · exact h
  · rfl

/-- Of all commands only POWER_ON_RESET and TIME_COUNT_TICK change the Time Count; every other command, taken by
the kind of its meaning, keeps it (R1). -/
theorem exec_time (c : Instr) (s : State) (hreset : c ≠ .powerOnReset) (htick : c ≠ .timeCountTick) :
    ∃ t, exec c s = .next t ∧ t.time = s.time := by
  cases c with
  | powerOnReset => exact absurd rfl hreset
  | timeCountTick => exact absurd rfl htick
  -- Lines, units and the ends of what the transmitters send.
  | hostReadyChange | presenceAsserted | presenceReleased | bPortUnitCompleted | bPortSymbolReceived
  | lPortUnitCompleted | pPortUnitCompleted | sPortUnitCompleted | handshakeWaitExpiry | sPortFrameEnd
  | bPortSymbolSent | partOriginatedFrameSent | downstreamFrameSent | baseFreshnessExpiry | drivePeriodEnd =>
    exact ⟨_, rfl, by simp⟩
  -- Timers that act where they are due.
  | contactDebounceExpiry | identTimeoutExpiry | aliveWindowExpiry | pingExpiry | probeWindowExpiry
  | penSilenceExpiry | topUpExpiry | cooldownExpiry | sleepDelayExpiry | idleTimerExpiry =>
    exact ⟨_, rfl, guarded_time (by simp)⟩
  -- Deliveries taken.
  | owedFrameEmission | pendingItemRetry | inputGateTeardown | postureAdmission | postureTeardown
  | toggleAndHaltReset | transmitterTeardown | railTeardown | activityEvent | wakeSourceEvent | eventDelivery =>
    exact ⟨_, rfl, takingOne_time _ (by simp) s⟩
  | admissionGrant => exact ⟨_, rfl, takingOne_time _ (fun t => by split <;> simp) s⟩
  | releaseRetry | liftRetry | gateUpdate | capChange | powerPostureChange | powerPolicyEvent =>
    exact ⟨_, rfl, taking_time _ _ (by simp) s⟩
  -- Management commands.
  | softReset => exact ⟨_, rfl, by simp⟩
  | getInfo | writeRoute | invalidateRoute | readRoute | setDefaultRoute | writePosture | invalidatePosture
  | readPostureEntry | writePolicy | writeAxisMap | writeAngleParams | readPostureRecord | setRotationLock
  | writeBaseClass | readBaseRecord | setLinkTiming | channelHalt | channelResume | setBudget | readBudget
  | writeDriveLevel | writeChargeCell | setChargeParams | chargeEnable | readChargeRecord | setHostState
  | writeWakeTable | readSleepRecord | setQueue | flushQueue | readQueues | readEvents | clearEvents
  | setEventEnable | readLog | clearLog | readCounters =>
    exact ⟨_, rfl, mgmtEvent_time _ _ _ (by simp) s⟩

/-- The Time Count wraps from 65535 to 0 (R1). -/
theorem tick_time_toNat (s : State) : (tick s).time.toNat = (s.time.toNat + 1) % 65536 := by
  simp [tick, BitVec.toNat_add]

/-- Settles O17, by the kind of each command's meaning. -/
theorem timeCountGainsOneEachMillisecond : Obligations.TimeCountGainsOneEachMillisecond :=
  ⟨rfl, fun s => ⟨powerOn s, rfl, rfl⟩, fun s => ⟨tick s, rfl, tick_time_toNat s⟩, exec_time⟩

end Sys2Proof.Machine
end

section
/-! PROOFS. The tick of the timers, and the commands that find nothing due or nothing to take (R1; assumptions 3
and 4). -/

namespace Sys2Proof.Machine

/-! ### Timers -/

theorem Timer.tick_eq_map (t : Timer) : t.tick = t.map (· - 1) := by
  cases t with
  | none => rfl
  | some n => cases n <;> rfl

theorem Timer.due_iff {t : Timer} : t.due = true ↔ t = some 0 := by simp [Timer.due]

/-- An event that acts only where its timer is due changes nothing while the timer is not. -/
theorem next_of_not_due {p : Prop} [Decidable p] {x : Timer} {s t : State} (hx : x ≠ some 0)
    (hp : p → x.due = true) :
    (.next (if p then t else s) : Host.Outcome State Fault Refusal) = .next s := by
  rw [if_neg fun h => hx (Timer.due_iff.1 (hp h))]

theorem handshakeExpired_of_not_due {s : State} (h : s.bport.handshakeWait ≠ some 0) :
    handshakeExpired s = s := by
  simp only [handshakeExpired]
  split
  · exact if_neg (mt Timer.due_iff.1 h)
  · rfl

/-! ### Deliveries that are not next on their route -/

/-- What is taken is the oldest delivery of its route. -/
theorem takeNext_eq_some {α : Type} {r : Block × Block} {sel : Delivery → Option α} {ds rest : List Delivery}
    {a : α} (h : takeNext r sel ds = some (a, rest)) :
    ∃ d before after, ds = before ++ d :: after ∧ (∀ e ∈ before, e.route ≠ r) ∧ d.route = r
      ∧ sel d = some a := by
  induction ds generalizing rest with
  | nil => simp [takeNext] at h
  | cons d ds ih =>
    by_cases hd : d.route = r
    · simp only [takeNext, hd, if_true, Option.map_eq_some_iff, Prod.mk.injEq] at h
      obtain ⟨b, hb, rfl, -⟩ := h
      exact ⟨d, [], ds, rfl, by simp, hd, hb⟩
    · simp only [takeNext, hd, if_false, Option.map_eq_some_iff, Prod.mk.injEq] at h
      obtain ⟨⟨b, rest'⟩, ht, rfl, -⟩ := h
      obtain ⟨e, before, after, rfl, hbefore, he, hsel⟩ := ih ht
      exact ⟨e, d :: before, after, rfl, by simpa [hd] using hbefore, he, hsel⟩

/-- Nothing changes where no delivery that `sel` accepts is the oldest on the route. -/
theorem taking_of_no_front {α : Type} {r : Block × Block} {sel : Delivery → Option α} {f : α → State → State}
    {s : State}
    (h : ∀ d a, sel d = some a → d.route = r → ∀ before after, ¬ Front d before after s) :
    taking r sel f s = s := by
  rcases taking_cases r sel f s with hs | ⟨a, ds, ht, -⟩
  · exact hs
  · obtain ⟨d, before, after, hds, hbefore, rfl, hsel⟩ := takeNext_eq_some ht
    exact absurd ⟨hds, hbefore⟩ (h d a hsel rfl before after)

theorem takingOne_of_no_front {d : Delivery} {f : State → State} {s : State}
    (h : ∀ before after, ¬ Front d before after s) : takingOne d f s = s := by
  refine taking_of_no_front fun e _ he _ => ?_
  obtain rfl : e = d := by by_contra hne; simp [hne] at he
  exact h

theorem releaseOccasion_eq_some {d : Delivery} {o : RetryOccasion} :
    releaseOccasion d = some o ↔ d = .releaseRetry o := by
  cases d <;> simp [releaseOccasion]

theorem liftOccasion_eq_some {d : Delivery} {o : RetryOccasion} :
    liftOccasion d = some o ↔ d = .liftRetry o := by
  cases d <;> simp [liftOccasion]

theorem gateMaskOf_eq_some {d : Delivery} {m : BitVec 8} :
    gateMaskOf d = some m ↔ ∃ e, d = .gateUpdate e m := by
  cases d <;> simp [gateMaskOf]

theorem capEventOf_eq_some {d : Delivery} {e : CapEvent} : capEventOf d = some e ↔ d = .capChange e := by
  cases d <;> simp [capEventOf]

theorem powerChangeOf_eq_some {d : Delivery} {c : Posture × PolicyRow} :
    powerChangeOf d = some c ↔ ∃ old, d = .powerPostureChange old c.1 c.2 := by
  cases d <;> simp [powerChangeOf, Prod.ext_iff]

theorem powerRowOf_eq_some {d : Delivery} {row : PolicyRow} :
    powerRowOf d = some row ↔ ∃ current, d = .powerPolicyEvent current row := by
  cases d <;> simp [powerRowOf]

/-- The route of a cap change tells its cause (R141). -/
theorem capRoute_inj {c c' : CapCause} : capRoute c = capRoute c' ↔ c = c' := by
  cases c <;> cases c' <;> decide

theorem CapEvent.cause_eq_rail {e : CapEvent} : e.cause = .rail ↔ e = .rail := by
  cases e <;> simp [CapEvent.cause]

theorem CapEvent.cause_eq_hostState {e : CapEvent} : e.cause = .hostState ↔ e = .hostState := by
  cases e <;> simp [CapEvent.cause]

theorem CapEvent.cause_eq_posture {e : CapEvent} : e.cause = .posture ↔ ∃ p, e = .posture p := by
  cases e <;> simp [CapEvent.cause]

/-- CAP_CHANGE changes nothing where no cap change of its cause is next on its route. -/
theorem exec_capChange_of_no_front {cause : CapCause} {s : State}
    (h : ∀ e, e.cause = cause → ∀ before after, ¬ Front (.capChange e) before after s) :
    exec (.capChange cause) s = .next s := by
  refine congrArg Host.Outcome.next (taking_of_no_front fun d e hd hr => ?_)
  obtain rfl := capEventOf_eq_some.1 hd
  exact h e (capRoute_inj.1 hr)

theorem next_takingOne_of_no_front {d : Delivery} {s : State} (h : ∀ before after, ¬ Front d before after s)
    (f : State → State) : (.next (takingOne d f s) : Host.Outcome State Fault Refusal) = .next s :=
  congrArg _ (takingOne_of_no_front h)

/-! ### The statement -/

/-- Settles O52: the tick field by field; each command that takes a delivery by what `taking` accepts; each expiry by
the timer it waits for. -/
theorem timersRunAndOnlyWhatIsDueActs : Obligations.TimersRunAndOnlyWhatIsDueActs := by
  intro s
  refine ⟨?tick, ?one, ?release, ?lift, ?gate, ?capChange, ?power, ?policy, ?presence, ?handshake, ?fresh,
    ?debounce, ?ident, ?alive, ?ping, ?probe, ?silence, ?topUp, ?cooldown, ?sleep, ?idle⟩
  case tick =>
    simp [exec, execTimeCountTick, tick, Link.tick, ChargeTimers.tick, Power.tick, Timer.tick_eq_map]
  case one =>
    intro d c hdc h
    have one := next_takingOne_of_no_front h
    rcases hdc with hmem | ⟨_, rfl, rfl⟩ | ⟨_, rfl, rfl⟩ | ⟨_, rfl, rfl⟩
    · simp only [List.mem_cons, Prod.mk.injEq, List.not_mem_nil, or_false] at hmem
      rcases hmem with ⟨rfl, rfl⟩ | ⟨rfl, rfl⟩ | ⟨rfl, rfl⟩ | ⟨rfl, rfl⟩ | ⟨rfl, rfl⟩ | ⟨rfl, rfl⟩
        | ⟨rfl, rfl⟩ | ⟨rfl, rfl⟩ | ⟨rfl, rfl⟩ | ⟨rfl, rfl⟩ | ⟨rfl, rfl⟩ | ⟨rfl, rfl⟩ | ⟨rfl, rfl⟩
      iterate 11 exact one _
      · exact exec_capChange_of_no_front fun e he => CapEvent.cause_eq_rail.1 he ▸ h
      · exact exec_capChange_of_no_front fun e he => CapEvent.cause_eq_hostState.1 he ▸ h
    iterate 3 exact one _
  case release =>
    exact fun h => congrArg _ (taking_of_no_front fun d o hd _ => releaseOccasion_eq_some.1 hd ▸ h o)
  case lift =>
    exact fun h => congrArg _ (taking_of_no_front fun d o hd _ => liftOccasion_eq_some.1 hd ▸ h o)
  case gate =>
    refine fun h padFirst => congrArg _ (taking_of_no_front fun d m hd _ => ?_)
    obtain ⟨e, rfl⟩ := gateMaskOf_eq_some.1 hd
    exact h e m
  case capChange =>
    refine fun h => exec_capChange_of_no_front fun e he => ?_
    obtain ⟨p, rfl⟩ := CapEvent.cause_eq_posture.1 he
    exact h p
  case power =>
    refine fun h => congrArg _ (taking_of_no_front fun d c hd _ => ?_)
    obtain ⟨old, rfl⟩ := powerChangeOf_eq_some.1 hd
    exact h old c.1 c.2
  case policy =>
    refine fun h => congrArg _ (taking_of_no_front fun d row hd _ => ?_)
    obtain ⟨current, rfl⟩ := powerRowOf_eq_some.1 hd
    exact h current row
  case presence =>
    intro hp h
    exact congrArg _ ((if_pos hp).trans (takingOne_of_no_front h))
  case handshake => exact fun h => congrArg _ (handshakeExpired_of_not_due h)
  case fresh | alive => exact fun h => next_of_not_due h id
  case debounce | ident | ping | probe | silence | topUp | cooldown | sleep | idle =>
    exact fun h => next_of_not_due h And.right

end Sys2Proof.Machine
end

section
/-! PROOFS. What the laws of the buffers, of the B-port transmitter and of the Link Monitor read of the state, and
the relation "the three laws are kept" (R16, R20, R24, R25, R111). -/

namespace Sys2Proof.Machine

/-! ### Every buffer in one place -/

/-- A list of buffers has length 48 and no member twice exactly when it holds every buffer once. -/
theorem length_nodup_iff_count (l : List BufIdx) : (l.length = 48 ∧ l.Nodup) ↔ ∀ i, l.count i = 1 := by
  constructor
  · rintro ⟨hlen, hnd⟩ i
    have huniv : l.toFinset = Finset.univ :=
      Finset.eq_univ_of_card _ (by rw [List.toFinset_card_of_nodup hnd, hlen]; rfl)
    exact List.count_eq_one_of_mem hnd (List.mem_toFinset.1 (huniv ▸ Finset.mem_univ i))
  · intro h
    have hperm : l.Perm (List.finRange 48) := List.perm_iff_count.2 fun i => by
      rw [h, List.count_eq_one_of_mem (List.nodup_finRange 48) (List.mem_finRange i)]
    exact ⟨by simpa using hperm.length_eq, hperm.nodup_iff.2 (List.nodup_finRange 48)⟩

/-- The law of the buffers, with "48 in all and none twice" as "each buffer once". -/
theorem poolLaw_iff {s : State} :
    PoolLaw s ↔ (∀ i, s.bufferPlaces.count i = 1) ∧ (∀ q, s.pool.withinLimit q)
      ∧ (s.bport.sending.isDownstream = true → s.bport.awaiting = none) := by
  have hq : (∀ q, s.pool.withinLimit q) ↔ s.pool.withinLimit .q0 ∧ s.pool.withinLimit .q1
      ∧ s.pool.withinLimit .q2 ∧ s.pool.withinLimit .q3 ∧ s.pool.withinLimit .qd :=
    ⟨fun h => ⟨h _, h _, h _, h _, h _⟩, fun ⟨h0, h1, h2, h3, hd⟩ q => by cases q <;> assumption⟩
  rw [← length_nodup_iff_count, hq, and_assoc]

/-- The places of a buffer are those of the pool, the S-port's, and the B-port transmitter's two. -/
theorem State.count_bufferPlaces (s : State) (i : BufIdx) :
    s.bufferPlaces.count i = s.pool.listed.count i + s.sport.sending.toList.count i
      + s.bport.sending.buffers.count i + s.bport.awaiting.toList.count i := by
  simp [State.bufferPlaces]; omega

/-! ### What a step of the pool keeps -/

/-- A step of the pool keeps the buffers it lists, each as often, and no queue comes to hold more than its limit. -/
structure PoolKept (p p' : Pool) : Prop where
  count : ∀ i, p'.listed.count i = p.listed.count i
  limits : (∀ q, p.withinLimit q) → ∀ q, p'.withinLimit q

@[refl] theorem PoolKept.refl (p : Pool) : PoolKept p p := ⟨fun _ => rfl, id⟩

theorem PoolKept.trans {p p' p'' : Pool} (h : PoolKept p p') (h' : PoolKept p' p'') : PoolKept p p'' :=
  ⟨fun i => (h'.count i).trans (h.count i), h'.limits ∘ h.limits⟩

/-- A step from a state that holds the same pool. -/
theorem PoolKept.congr {p q p' : Pool} (h : PoolKept q p') (hq : q = p) : PoolKept p p' := hq ▸ h

theorem PoolKept.of_eq {p p' : Pool} (h : p' = p) : PoolKept p p' := h ▸ .refl p

/-- The pool with new contents of its buffers, a new Free List and one new queue. -/
def Pool.moved (p : Pool) (bufs : Vector (List Byte) 48) (free : List BufIdx) (q : QueueId) (v : Queue) : Pool :=
  ({ p with bufs := bufs, free := free } : Pool).setQueue q v

/-- What a move lists: the old Free List and the old queue are listed no more, the new ones are. -/
theorem Pool.count_listed_moved (p : Pool) (bufs : Vector (List Byte) 48) (free : List BufIdx) (q : QueueId)
    (v : Queue) (i : BufIdx) :
    (p.moved bufs free q v).listed.count i + p.free.count i + (p.queue q).items.count i
      = p.listed.count i + free.count i + v.items.count i := by
  cases q <;> simp [Pool.listed, Pool.moved, Pool.setQueue, Pool.queue] <;> omega

/-- A move keeps the limits where the new queue is within its own. -/
theorem Pool.withinLimit_moved {p : Pool} {bufs : Vector (List Byte) 48} {free : List BufIdx} {q : QueueId}
    {v : Queue} (hv : p.withinLimit q → v.items.length ≤ v.limit ∧ q.leastLimit ≤ v.limit ∧ v.limit ≤ 48)
    (h : ∀ r, p.withinLimit r) (r : QueueId) : (p.moved bufs free q v).withinLimit r := by
  have hq := hv (h q)
  have hr := h r
  cases q <;> cases r <;> assumption

/-- A move that gives the Free List and the queue together what they held keeps the pool. -/
theorem Pool.moved_kept {p : Pool} {bufs : Vector (List Byte) 48} {free : List BufIdx} {q : QueueId} {v : Queue}
    (hcount : ∀ i, free.count i + v.items.count i = p.free.count i + (p.queue q).items.count i)
    (hv : p.withinLimit q → v.items.length ≤ v.limit ∧ q.leastLimit ≤ v.limit ∧ v.limit ≤ 48) :
    PoolKept p (p.moved bufs free q v) :=
  ⟨fun i => by have := p.count_listed_moved bufs free q v i; have := hcount i; omega, withinLimit_moved hv⟩

/-- A buffer joins a queue below its limit. -/
theorem Pool.join_kept {p p' : Pool} {q : QueueId} {frame : List Byte} {i : BufIdx}
    (hroom : (p.queue q).items.length < (p.queue q).limit) (h : p.join q frame = some (i, p')) :
    PoolKept p p' := by
  unfold Pool.join at h
  split at h
  · cases h
  · rename_i j rest hf
    cases h
    refine moved_kept (fun k => ?_) (fun h => ⟨by simpa [Queue.push] using hroom, h.2⟩)
    simp [Queue.push, hf, List.count_cons]
    omega

/-- A head that receives a new frame stays in its queue. -/
theorem Pool.recycle_kept {p p' : Pool} {q : QueueId} {frame : List Byte} (h : p.recycle q frame = some p') :
    PoolKept p p' := by
  unfold Pool.recycle at h
  split at h
  · cases h
  · rename_i j rest hv
    cases h
    refine moved_kept (fun k => ?_) (fun h => ⟨by simpa [hv] using h.1, h.2⟩)
    simp [hv, List.count_cons]

theorem Pool.placeReceived_kept (p : Pool) (q : QueueId) (frame : List Byte) :
    PoolKept p (p.placeReceived q frame).2 := by
  simp only [Pool.placeReceived]
  split
  case isTrue => -- the queue is full
    split
    · cases h : p.recycle q frame with
      | none => exact .refl p
      | some p' => exact recycle_kept h
    · exact .refl p
  case isFalse hroom =>
    split
    · cases h : p.join q frame with
      | none => exact .refl p
      | some r => exact join_kept (Nat.lt_of_not_le hroom) h
    · split
      · cases h : p.recycle q frame with
        | none => exact .refl p
        | some p' => exact recycle_kept h
      · exact .refl p

theorem Pool.placeSynthetic_kept {p p' : Pool} {q : HostQueue} {frame : List Byte}
    (h : p.placeSynthetic q frame = some p') : PoolKept p p' := by
  simp only [Pool.placeSynthetic] at h
  split at h
  case isTrue =>
    split at h
    · exact recycle_kept h
    · cases h
  case isFalse hroom =>
    cases hj : p.join q.id frame with
    | some r =>
      simp only [hj, Option.some.injEq] at h
      exact h ▸ join_kept (Nat.lt_of_not_le hroom) hj
    | none =>
      simp only [hj] at h
      split at h
      · exact recycle_kept h
      · cases h

/-- A queue whose items stay as they are. -/
theorem Pool.setQueue_kept (p : Pool) (q : QueueId) {v : Queue} (hi : v.items = (p.queue q).items)
    (hlimit : v.limit = (p.queue q).limit) : PoolKept p (p.setQueue q v) :=
  moved_kept (bufs := p.bufs) (free := p.free) (fun _ => by rw [hi]) (fun h => by rw [hi, hlimit]; exact h)

theorem Pool.flush_kept (p : Pool) (q : QueueId) : PoolKept p (p.flush q) :=
  moved_kept (bufs := p.bufs) (free := p.free ++ (p.queue q).items) (fun _ => by simp)
    (fun h => ⟨Nat.zero_le _, h.2⟩)

/-- The head a transmitter takes leaves the pool, and no queue grows. -/
theorem Pool.takeHead_some {p p' : Pool} {q : QueueId} {i : BufIdx} (h : p.takeHead q = some (i, p')) :
    (∀ k, p.listed.count k = p'.listed.count k + [i].count k)
      ∧ ((∀ r, p.withinLimit r) → ∀ r, p'.withinLimit r) := by
  unfold Pool.takeHead at h
  split at h
  · cases h
  · rename_i j rest hv
    cases h
    refine ⟨fun k => ?_, withinLimit_moved (bufs := p.bufs) (free := p.free) (fun h => ⟨?_, h.2⟩)⟩
    · have hm : (p.setQueue q { p.queue q with
          items := rest
          counters := { (p.queue q).counters with sent := satInc (p.queue q).counters.sent } }).listed.count k
          + _ + _ = _ := p.count_listed_moved p.bufs p.free q _ k
      simp only [hv, List.count_cons, List.count_nil] at hm ⊢
      omega
    · have := h.1
      simp only [hv, List.length_cons] at this ⊢
      omega

/-- With room on Q0 there is a head of the Free List, and it can join Q0. -/
theorem Pool.hasRoom_iff {p : Pool} :
    p.hasRoom = true ↔ p.q0.items.length < p.q0.limit ∧ p.free ≠ [] := by
  simp [Pool.hasRoom]

theorem Pool.join_q0_kept {p p' : Pool} {frame : List Byte} {i : BufIdx} (hroom : p.hasRoom = true)
    (h : p.join .q0 frame = some (i, p')) : PoolKept p p' :=
  join_kept (q := .q0) (hasRoom_iff.1 hroom).1 h

/-! ### What a step of the part keeps -/

/-- A step of the part keeps each of the three laws. -/
structure LawsKept (s t : State) : Prop where
  pool : PoolLaw s → PoolLaw t
  transmit : TransmitLaw s → TransmitLaw t
  link : LinkLaw s → LinkLaw t

@[refl] theorem LawsKept.refl (s : State) : LawsKept s s := ⟨id, id, id⟩

theorem LawsKept.trans {s t u : State} (h : LawsKept s t) (h' : LawsKept t u) : LawsKept s u :=
  ⟨h'.pool ∘ h.pool, h'.transmit ∘ h.transmit, h'.link ∘ h.link⟩

theorem LawsKept.after {s t u : State} (h : LawsKept t u) (h' : LawsKept s t) : LawsKept s u := h'.trans h

/-- The B-port with everything reset that the three laws do not read. -/
def BPort.bare (b : BPort) : BPort :=
  { b with
    staging := [], toggles := .replicate 16 false, halts := .replicate 16 false
    pendingGrant := none, counters := {} }

theorem BPort.bare_eq_iff {b c : BPort} :
    b.bare = c.bare ↔ b.owed = c.owed ∧ b.pendingIdent = c.pendingIdent ∧ b.sending = c.sending
      ∧ b.awaiting = c.awaiting ∧ b.handshakeWait = c.handshakeWait := by
  simp [BPort.bare]

/-- The pool changed alone, as far as the laws read the state. -/
theorem LawsKept.of_pool {s t : State} (hp : PoolKept s.pool t.pool) (hs : t.sport = s.sport)
    (hb : t.bport.bare = s.bport.bare) (hl : t.link = s.link) : LawsKept s t := by
  obtain ⟨howed, hident, hsending, hawaiting, hwait⟩ := BPort.bare_eq_iff.1 hb
  refine ⟨fun h => ?_, fun h => ?_, fun h => ?_⟩
  · obtain ⟨hc, hlim, hd⟩ := poolLaw_iff.1 h
    refine poolLaw_iff.2 ⟨fun i => ?_, hp.limits hlim, ?_⟩
    · have := hc i
      rw [State.count_bufferPlaces] at this ⊢
      rw [hp.count, hs, hsending, hawaiting, this]
    · rwa [hsending, hawaiting]
  · simpa [TransmitLaw, howed, hawaiting, hwait] using h
  · simpa [LinkLaw, hl, hident] using h

/-- Nothing changed of what the laws read. -/
theorem LawsKept.of_same {s t : State} (hp : t.pool = s.pool) (hs : t.sport = s.sport)
    (hb : t.bport.bare = s.bport.bare) (hl : t.link = s.link) : LawsKept s t :=
  .of_pool (.of_eq hp) hs hb hl

end Sys2Proof.Machine
end

section
/-! PROOFS. The shared operations and the two transmitters keep the laws of the buffers, of the B-port transmitter
and of the Link Monitor (R16, R20 to R22, R24, R25, R28 to R37). -/

namespace Sys2Proof.Machine

/-! ### Placements and requests -/

theorem countRefusal_kept (p : Pool) (q : QueueId) (r : Placement) :
    PoolKept p (p.setQueue q (countRefusal (p.queue q) r)) := by
  cases r <;> exact p.setQueue_kept q rfl rfl

theorem placeReceived_kept (q : QueueId) (frame : List Byte) (s : State) :
    PoolKept s.pool (placeReceived q frame s).2.pool := by
  have hp := s.pool.placeReceived_kept q frame
  simp only [placeReceived]
  split <;> simp_all
  exact hp.trans (countRefusal_kept _ _ _)

theorem placeOnQ0_kept {s : State} (hroom : s.pool.hasRoom = true) (frame : List Byte) :
    PoolKept s.pool (placeOnQ0 frame s).pool := by
  simp only [placeOnQ0]
  split
  · rename_i hj; exact Pool.join_q0_kept hroom hj
  · rfl

theorem placeState_kept {s : State} (hroom : s.pool.hasRoom = true) : PoolKept s.pool (placeState s).pool :=
  placeOnQ0_kept hroom _

theorem placeNote_kept {s : State} (hroom : s.pool.hasRoom = true) (c : EventCause) :
    PoolKept s.pool (placeNote c s).pool :=
  placeOnQ0_kept hroom _

theorem countOwed_kept (s : State) : PoolKept s.pool (countOwed s).pool :=
  s.pool.setQueue_kept .q0 rfl rfl

theorem requestState_kept (s : State) : PoolKept s.pool (requestState s).pool := by
  simp only [requestState]
  split
  · rename_i h
    exact placeState_kept (Bool.and_eq_true_iff.1 h).1
  · split
    · rfl
    · exact countOwed_kept _

theorem requestNote_kept (c : EventCause) (s : State) : PoolKept s.pool (requestNote c s).pool := by
  simp only [requestNote]
  split
  · rename_i h
    exact placeNote_kept (Bool.and_eq_true_iff.1 h).1 c
  · exact countOwed_kept _

theorem emitNotices_kept (cs : List EventCause) (s : State) : PoolKept s.pool (emitNotices cs s).pool := by
  induction cs generalizing s with
  | nil => rfl
  | cons c cs ih =>
    simp only [emitNotices]
    split
    · split
      · rename_i hroom
        refine .trans ?_ (ih _)
        exact (placeNote_kept (by exact hroom) c).congr rfl
      · rfl
    · exact ih s

theorem emitOwed_kept (s : State) : PoolKept s.pool (emitOwed s).pool := by
  simp only [emitOwed]
  split
  · split
    · rename_i hroom
      refine .trans ?_ (emitNotices_kept _ _)
      exact (placeState_kept (by exact hroom)).congr rfl
    · rfl
  · exact emitNotices_kept _ s

theorem takeManagementEvent_kept (e : ManagementEvent) (s : State) :
    PoolKept s.pool (takeManagementEvent e s).pool := by
  cases e with
  | stateRequest => exact requestState_kept s
  | cause c =>
    simp only [takeManagementEvent, takeEvent]
    split
    · exact (requestNote_kept c _).congr rfl
    · rfl

theorem announce_kept (fresh : BitVec 16) (cs : List EventCause) (s : State) :
    PoolKept s.pool (announce fresh cs s).pool := by
  induction cs generalizing s with
  | nil => rfl
  | cons c cs ih =>
    simp only [announce]
    split
    · exact (requestNote_kept c s).trans (ih _)
    · exact ih s

/-! ### The transmitters' looks -/

theorem sLook_lawsKept (s : State) : LawsKept s (sLook s) := by
  simp only [sLook]
  split
  case isFalse => rfl
  case isTrue hidle =>
    split
    · rfl
    · rename_i q _
      cases ht : s.pool.takeHead q with
      | none => rfl
      | some r =>
        obtain ⟨i, p⟩ := r
        obtain ⟨hcount, hlim⟩ := Pool.takeHead_some ht
        have hsend : s.sport.sending = none := by simpa using (Bool.and_eq_true_iff.1 hidle).1
        refine ⟨fun h => ?_, by simp [TransmitLaw], by simp [LinkLaw]⟩
        obtain ⟨hc, hl, hd⟩ := poolLaw_iff.1 h
        refine poolLaw_iff.2 ⟨fun k => ?_, by simpa using hlim hl, by simpa using hd⟩
        have h1 := hc k
        have h2 := hcount k
        simp only [State.count_bufferPlaces, hsend, Option.toList_none, List.count_nil] at h1
        simp [State.count_bufferPlaces]
        omega

/-- The transmitter takes a buffer from the Free List for a frame it builds. -/
theorem startPartOriginated_lawsKept {frame : List Byte} {s t : State} (hidle : s.bport.sending = .idle)
    (h : startPartOriginated frame s = some t) : LawsKept s t := by
  simp only [startPartOriginated] at h
  split at h
  · cases h
  · rename_i i rest hf
    cases h
    refine ⟨fun hl => ?_, id, id⟩
    obtain ⟨hc, hlim, -⟩ := poolLaw_iff.1 hl
    refine poolLaw_iff.2 ⟨fun k => ?_, fun q => ?_, by simp [BSending.isDownstream]⟩
    · have h1 := hc k
      simp only [State.count_bufferPlaces, Pool.listed, hidle, hf, BSending.buffers, List.count_append,
        List.count_cons, List.count_nil, beq_iff_eq] at h1
      simp [State.count_bufferPlaces, Pool.listed, BSending.buffers, List.count_cons]
      omega
    · have := hlim q
      cases q <;> exact this

theorem startSymbol_lawsKept {s t : State} (hidle : s.bport.sending = .idle) (h : startSymbol s = some t) :
    LawsKept s t := by
  simp only [startSymbol] at h
  split at h
  · cases h
  · rename_i o rest ho
    cases h
    refine ⟨fun hl => ?_, fun hl => ?_, id⟩
    · obtain ⟨hc, hlim, -⟩ := poolLaw_iff.1 hl
      refine poolLaw_iff.2 ⟨fun k => ?_, hlim, by simp [BSending.isDownstream]⟩
      simpa [State.count_bufferPlaces, hidle, BSending.buffers] using hc k
    · simpa [TransmitLaw, ho] using hl

theorem startDownstream_lawsKept {s t : State} (hidle : s.bport.sending = .idle)
    (h : startDownstream s = some t) : LawsKept s t := by
  simp only [startDownstream] at h
  split at h
  · cases h
  · rename_i hawait
    cases ht : s.pool.takeHead .qd with
    | none => simp [ht] at h
    | some r =>
      obtain ⟨i, p⟩ := r
      obtain ⟨hcount, hlim⟩ := Pool.takeHead_some ht
      simp only [ht, Option.some.injEq] at h
      subst h
      refine ⟨fun hl => ?_, id, id⟩
      obtain ⟨hc, hq, -⟩ := poolLaw_iff.1 hl
      refine poolLaw_iff.2 ⟨fun k => ?_, hlim hq, fun _ => by simpa using hawait⟩
      have h1 := hc k
      have h2 := hcount k
      simp only [State.count_bufferPlaces, hidle, BSending.buffers, List.count_nil] at h1
      simp [State.count_bufferPlaces, BSending.buffers]
      omega

/-- A cancelled IDENT_REQ and a cancelled GRANT take nothing from the laws. -/
theorem cancelIdent_lawsKept (s : State) : LawsKept s (cancelIdent s) :=
  ⟨id, id, fun ⟨h1, h2, h3, h4, h5, h6, h7, _⟩ => ⟨h1, h2, h3, h4, h5, h6, h7, by simp [cancelIdent]⟩⟩

theorem bLook_lawsKept (s : State) : LawsKept s (bLook s) := by
  cases hidle : s.bport.sending with
  | symbol | partOriginated | downstream => simp only [bLook, hidle]; rfl
  | idle =>
    simp only [bLook, hidle]
    cases hw : (((startSymbol s).or (startIdent s)).or (startGrant s)).or (startDownstream s) with
    | none => rfl
    | some t =>
      simp only [Option.or_eq_some_iff] at hw
      rcases hw with ((h | ⟨-, h⟩) | ⟨-, h⟩) | ⟨-, h⟩
      · exact startSymbol_lawsKept hidle h
      · simp only [startIdent] at h
        split at h
        · exact (cancelIdent_lawsKept s).trans (startPartOriginated_lawsKept hidle h)
        · cases h
      · simp only [startGrant] at h
        split at h
        · cases h
        · have hgrant : LawsKept s (s.setBport { s.bport with pendingGrant := none }) := ⟨id, id, id⟩
          exact hgrant.trans (startPartOriginated_lawsKept hidle h)
      · exact startDownstream_lawsKept hidle h

theorem bLookAfter_lawsKept (s t : State) : LawsKept t (bLookAfter s t) := by
  rcases bLookAfter_cases s t with h | h <;> rw [h]
  exact bLook_lawsKept t

theorem lookAfter_lawsKept (s t : State) : LawsKept t (lookAfter s t) :=
  (sLook_lawsKept t).trans (bLookAfter_lawsKept s _)

/-! ### Released buffers -/

/-- A released buffer is found once more. -/
theorem count_bufferPlaces_releaseBuffer (i k : BufIdx) (s : State) :
    (releaseBuffer i s).bufferPlaces.count k = s.bufferPlaces.count k + [i].count k := by
  simp [State.count_bufferPlaces, releaseBuffer, Pool.release, Pool.listed, List.count_cons]
  omega

theorem withinLimit_releaseBuffer {s : State} (i : BufIdx) (h : ∀ q, s.pool.withinLimit q) (q : QueueId) :
    (releaseBuffer i s).pool.withinLimit q := by
  have := h q
  simp only [releaseBuffer, (bufferAvailable_frame _).2.2.2.2.2.2.2.1]
  cases q <;> exact this

/-- A transmitter gives a buffer back: its places in `t`, with the buffer, are those of a lawful state. -/
theorem poolLaw_releaseBuffer {s t : State} {i : BufIdx} (h : PoolLaw s)
    (hcount : ∀ k, t.bufferPlaces.count k + [i].count k = s.bufferPlaces.count k)
    (hpool : t.pool = s.pool) (hd : t.bport.sending.isDownstream = true → t.bport.awaiting = none) :
    PoolLaw (releaseBuffer i t) := by
  obtain ⟨hc, hlim, -⟩ := poolLaw_iff.1 h
  refine poolLaw_iff.2 ⟨fun k => ?_, withinLimit_releaseBuffer i (hpool ▸ hlim), by simpa using hd⟩
  rw [count_bufferPlaces_releaseBuffer, hcount, hc]

/-! ### The ends of what the transmitters send -/

theorem hostFrameSent_lawsKept (s : State) : LawsKept s (hostFrameSent s) := by
  simp only [hostFrameSent]
  split
  · rename_i i hsend
    refine LawsKept.trans (t := releaseBuffer i (s.setSport { s.sport with sending := none })) ?_
      (sLook_lawsKept _)
    refine ⟨fun h => poolLaw_releaseBuffer h (fun k => ?_) rfl (poolLaw_iff.1 h).2.2, by simp [TransmitLaw],
      by simp [LinkLaw]⟩
    simp [State.count_bufferPlaces, hsend]
    omega
  · rfl

theorem partFrameSent_lawsKept (s : State) : LawsKept s (partFrameSent s) := by
  simp only [partFrameSent]
  split
  · rename_i i hsend
    refine LawsKept.trans (t := releaseBuffer i (s.setBport { s.bport with sending := .idle })) ?_
      (bLook_lawsKept _)
    refine ⟨fun h => poolLaw_releaseBuffer h (fun k => ?_) rfl (by simp [BSending.isDownstream]),
      by simp [TransmitLaw], by simp [LinkLaw]⟩
    simp [State.count_bufferPlaces, hsend, BSending.buffers]
    omega
  · rfl

/-- What is left of the owed-symbol list after a symbol was sent is part of it. -/
theorem afterSymbol_sublist (l : List OwedSymbol) : (afterSymbol l).Sublist l := by
  cases l with
  | nil => exact .refl _
  | cons o rest => simp only [afterSymbol]; split <;> simp

theorem symbolSent_lawsKept (s : State) : LawsKept s (symbolSent s) := by
  simp only [symbolSent]
  split
  · rename_i hsend
    refine LawsKept.trans (t := s.setBport { s.bport with
      sending := .idle, owed := afterSymbol s.bport.owed }) ?_ (bLook_lawsKept _)
    refine ⟨fun h => ?_, fun ⟨hnd, hw⟩ => ⟨hnd.sublist ((afterSymbol_sublist _).map _), hw⟩, id⟩
    obtain ⟨hc, hlim, -⟩ := poolLaw_iff.1 h
    refine poolLaw_iff.2 ⟨fun k => ?_, hlim, by simp [BSending.isDownstream]⟩
    simpa [State.count_bufferPlaces, hsend, BSending.buffers] using hc k
  · rfl

/-- The frame sent takes the place of the one awaited, of which there was none (R20, R21). -/
theorem downFrameSent_lawsKept (s : State) : LawsKept s (downFrameSent s) := by
  simp only [downFrameSent]
  split
  · rename_i i hsend
    refine LawsKept.trans (t := s.setBport { s.bport with
      sending := .idle, awaiting := some i, handshakeWait := some Config.handshakeWait }) ?_ (bLook_lawsKept _)
    refine ⟨fun h => ?_, fun ⟨hnd, _⟩ => ⟨hnd, rfl⟩, id⟩
    obtain ⟨hc, hlim, hd⟩ := poolLaw_iff.1 h
    have hawait : s.bport.awaiting = none := hd (by rw [hsend]; rfl)
    refine poolLaw_iff.2 ⟨fun k => ?_, hlim, by simp [BSending.isDownstream]⟩
    simpa [State.count_bufferPlaces, hsend, hawait, BSending.buffers] using hc k
  · rfl

/-! ### The downstream handshake -/

/-- The wait ends, the counters of the B-port take any values, and the awaited buffer is released. -/
theorem releaseAwaited_lawsKept {s : State} {i : BufIdx} (h : s.bport.awaiting = some i)
    (f : BCounters → BCounters) : LawsKept s (releaseBuffer i (countB f (endWait s))) := by
  refine ⟨fun hl => poolLaw_releaseBuffer hl (fun k => ?_) rfl (fun _ => rfl), fun ⟨hnd, _⟩ => ?_,
    by simp [LinkLaw, countB, endWait]⟩
  · simp [State.count_bufferPlaces, countB, endWait, h]
  · simpa [TransmitLaw, countB, endWait] using hnd

theorem acknowledge_lawsKept {s : State} {i : BufIdx} (h : s.bport.awaiting = some i) :
    LawsKept s (acknowledge i s) :=
  releaseAwaited_lawsKept h _

theorem dropAwaited_lawsKept {s : State} {i : BufIdx} (h : s.bport.awaiting = some i) :
    LawsKept s (dropAwaited i s) :=
  (releaseAwaited_lawsKept h _).trans ⟨id, id, id⟩

theorem takeSymbol_lawsKept (b : Byte) (s : State) : LawsKept s (takeSymbol b s) := by
  simp only [takeSymbol]
  split
  · exact ⟨id, id, id⟩
  · rename_i i hawait
    split
    · split
      · exact (acknowledge_lawsKept hawait).trans (bLook_lawsKept _)
      · exact (dropAwaited_lawsKept hawait).trans (bLook_lawsKept _)
      · exact (dropAwaited_lawsKept hawait).trans (bLook_lawsKept _)
      · exact ⟨id, id, id⟩
    · exact ⟨id, id, id⟩

theorem handshakeExpired_lawsKept (s : State) : LawsKept s (handshakeExpired s) := by
  simp only [handshakeExpired]
  split
  · rename_i i hawait
    split
    · exact (dropAwaited_lawsKept hawait).trans (bLook_lawsKept _)
    · rfl
  · rfl

/-! ### Owed symbols -/

/-- A symbol that becomes owed takes its channel's place, or a new one at the tail (R16). -/
theorem oweSymbol_lawsKept (y : SymbolType) (c : Chan) (s : State) : LawsKept s (oweSymbol y c s) := by
  refine ⟨id, fun ⟨hnd, hw⟩ => ⟨?_, hw⟩, id⟩
  simp only [oweSymbol, State.setBport_bport]
  split
  · have hmap : (s.bport.owed.map fun o => if o.channel = c then
          { type := y, channel := c, started := false } else o).map OwedSymbol.channel
        = s.bport.owed.map OwedSymbol.channel := by
      rw [List.map_map]
      refine List.map_congr_left fun o _ => ?_
      simp only [Function.comp]
      split <;> simp_all
    rwa [hmap]
  · rename_i hnone
    simp only [List.any_eq_true, beq_iff_eq, not_exists, not_and] at hnone
    rw [List.map_append, List.nodup_append]
    exact ⟨hnd, by simp, by simpa using hnone⟩

/-! ### The teardown of the B-port transmitter -/

/-- A flush keeps the pool. -/
theorem flushQueue_kept (q : QueueId) (s : State) : PoolKept s.pool (flushQueue q s).pool := by
  simp only [flushQueue]
  split <;> simp [Pool.flush_kept]

theorem flushQueue_lawsKept (q : QueueId) (s : State) : LawsKept s (flushQueue q s) :=
  .of_pool (flushQueue_kept q s) (by simp) (by simp) (by simp)

/-- What the two releases of a teardown give back: the unit cut short and the frame awaited. -/
theorem count_bufferPlaces_cutShort (b : BSending) (k : BufIdx) (s : State) :
    (cutShort b s).bufferPlaces.count k = s.bufferPlaces.count k + b.buffers.count k := by
  cases b with
  | idle | symbol => simp [cutShort, BSending.buffers]
  | partOriginated i => exact count_bufferPlaces_releaseBuffer i k s
  | downstream i => exact count_bufferPlaces_releaseBuffer i k (countB _ s)

theorem withinLimit_cutShort (b : BSending) {s : State} (h : ∀ q, s.pool.withinLimit q) :
    ∀ q, (cutShort b s).pool.withinLimit q := by
  cases b with
  | idle | symbol => exact h
  | partOriginated i => exact withinLimit_releaseBuffer i h
  | downstream i => exact withinLimit_releaseBuffer (s := countB _ s) i h

@[simp] theorem cutShort_bare (b : BSending) (s : State) : (cutShort b s).bport.bare = s.bport.bare := by
  cases b <;> simp [cutShort, abandon, countB, BPort.bare]

/-- The B-port transmitter with its work stopped and no frame awaited (R22). -/
def withoutWork (s : State) : State :=
  s.setBport { s.bport with
    owed := [], pendingGrant := none, sending := .idle, awaiting := none, handshakeWait := none }

/-- A transmitter that is stopped gives back the buffers of what it sent and, as `x`, of what it awaited. -/
theorem cutShort_lawsKept {s : State} {x : BSending} (hx : x.buffers = s.bport.awaiting.toList) :
    LawsKept s (cutShort x (cutShort s.bport.sending (withoutWork s))) := by
  have hbare : (cutShort x (cutShort s.bport.sending (withoutWork s))).bport.bare
      = (withoutWork s).bport.bare := by simp
  obtain ⟨howed, hident, hsending, hawaiting, hwait⟩ := BPort.bare_eq_iff.1 hbare
  refine ⟨fun h => ?_, fun _ => by rw [TransmitLaw, howed, hawaiting, hwait]; simp [withoutWork], fun h => ?_⟩
  · obtain ⟨hc, hlim, -⟩ := poolLaw_iff.1 h
    refine poolLaw_iff.2 ⟨fun k => ?_, ?_, fun _ => hawaiting⟩
    · have h1 := hc k
      simp only [count_bufferPlaces_cutShort, hx]
      simp [State.count_bufferPlaces, withoutWork, BSending.buffers] at h1 ⊢
      omega
    · exact withinLimit_cutShort x (withinLimit_cutShort (s := withoutWork s) _ hlim)
  · have hl : (cutShort x (cutShort s.bport.sending (withoutWork s))).link = s.link := by simp [withoutWork]
    rw [LinkLaw, hl, hident]
    exact h

theorem stopTransmitter_lawsKept (s : State) : LawsKept s (stopTransmitter s) := by
  refine LawsKept.trans ?_ (flushQueue_lawsKept .qd _)
  cases hawait : s.bport.awaiting with
  | none => exact cutShort_lawsKept (x := .idle) (by rw [hawait]; rfl)
  | some i => exact cutShort_lawsKept (x := .downstream i) (by rw [hawait]; rfl)

end Sys2Proof.Machine
end

section
/-! PROOFS. The blocks keep the laws of the buffers, of the B-port transmitter and of the Link Monitor: the Input
Gate places synthetic frames (R29, R103 to R109), the Rail Allocator and the Charge Controller request a GRANT alone
(R130, R131), and the Link Monitor moves its state with its timers (R111 to R122). -/

namespace Sys2Proof.Machine

/-! ### The Input Gate -/

theorem placeSynthetic_kept (q : HostQueue) (frame : List Byte) (s : State) :
    PoolKept s.pool (placeSynthetic q frame s).2.pool := by
  simp only [placeSynthetic]
  split
  · rename_i h; exact Pool.placeSynthetic_kept h
  · rfl

theorem makeRelease_kept (c : Chan) (q : HostQueue) (s : State) :
    PoolKept s.pool (makeRelease c q s).pool := by
  have h := placeSynthetic_kept q (releaseFrame c) s
  simp only [makeRelease]
  split <;> simp_all

theorem releaseIfForwarded_kept (s : State) : PoolKept s.pool (releaseIfForwarded s).pool := by
  simp only [releaseIfForwarded]
  split
  · rfl
  · split
    · rfl
    · exact makeRelease_kept _ _ s

theorem keyToGate_kept (v : Bool) (s : State) : PoolKept s.pool (keyToGate v s).pool := by
  simp only [keyToGate]
  split
  · rfl
  · split
    · rfl
    · exact (releaseIfForwarded_kept _).congr rfl

theorem keyBind_kept {c : Chan} {g : GateClass} {q : HostQueue} {s t : State} (h : keyBind c g q s = some t) :
    PoolKept s.pool t.pool := by
  simp only [keyBind] at h
  (repeat' split at h) <;> cases h
  · rfl
  · rfl
  · exact (keyToGate_kept _ _).congr rfl

theorem keyForward_kept (f : Frame) (q : HostQueue) (s : State) :
    PoolKept s.pool (keyForward f q s).2.pool := by
  simp only [keyForward]
  split
  · rfl
  · have h := placeReceived_kept q.id (buildFrame f.kind f.channel f.dest f.toggle s.gate.key.visible) s
    split <;> simp_all

theorem keyFilterFrame_kept (f : Frame) (d : GatedDecision) (s : State) :
    PoolKept s.pool (keyFilterFrame f d s).2.pool := by
  simp only [keyFilterFrame]
  split
  · rfl
  · rename_i t hbind
    refine (keyBind_kept hbind).trans ?_
    split
    · exact (keyForward_kept f _ _).congr rfl
    · rfl

theorem retryRelease_kept (s : State) : PoolKept s.pool (retryRelease s).pool := by
  simp only [retryRelease]
  split
  · rfl
  · rename_i w _
    have h := placeSynthetic_kept w.queue (releaseFrame w.channel) s
    split <;> simp_all

theorem liftIfContacts_kept (s : State) : PoolKept s.pool (liftIfContacts s).pool := by
  simp only [liftIfContacts]
  split
  · have h := placeSynthetic_kept s.gate.pad.queue (liftFrame s.gate.pad.channel) s
    split <;> simp_all
  · rfl

theorem padToGate_kept (v : Bool) (s : State) : PoolKept s.pool (padToGate v s).pool := by
  simp only [padToGate]
  split
  · rfl
  · split
    · rfl
    · exact (liftIfContacts_kept _).congr rfl

theorem padFollow_kept (c : Chan) (g : GateClass) (q : HostQueue) (s : State) :
    PoolKept s.pool (padFollow c g q s).pool := by
  simp only [padFollow]
  split
  · rfl
  · exact (padToGate_kept _ _).congr rfl

theorem padForward_kept (f : Frame) (q : HostQueue) (s : State) :
    PoolKept s.pool (padForward f q s).2.pool := by
  have h := placeReceived_kept q.id f.raw s
  simp only [padForward]
  split <;> simp_all

theorem padFilterFrame_kept (f : Frame) (d : GatedDecision) (s : State) :
    PoolKept s.pool (padFilterFrame f d s).2.pool := by
  refine (padFollow_kept f.channel d.gate d.queue s).trans ?_
  simp only [padFilterFrame]
  split
  · split
    · rfl
    · exact padForward_kept f d.queue _
  · rfl

theorem retryLift_kept (s : State) : PoolKept s.pool (retryLift s).pool := by
  simp only [retryLift]
  split
  · rfl
  · rename_i w _
    have h := placeSynthetic_kept w.queue (liftFrame w.channel) s
    split <;> simp_all

/-- Two actions of one event keep the pool in either order. -/
theorem inOrder_kept {key pad : State → State} (hkey : ∀ t, PoolKept t.pool (key t).pool)
    (hpad : ∀ t, PoolKept t.pool (pad t).pool) (padFirst : Bool) (s : State) :
    PoolKept s.pool (inOrder padFirst key pad s).pool := by
  cases padFirst
  · exact (hkey s).trans (hpad _)
  · exact (hpad s).trans (hkey _)

theorem updateGates_kept (mask : BitVec 8) (padFirst : Bool) (s : State) :
    PoolKept s.pool (updateGates mask padFirst s).pool := by
  refine (inOrder_kept (fun t => ?_) (fun t => ?_) padFirst _).congr rfl
  · split
    · exact keyToGate_kept _ t
    · rfl
  · split
    · exact padToGate_kept _ t
    · rfl

theorem gateTeardown_kept (padFirst : Bool) (s : State) : PoolKept s.pool (gateTeardown padFirst s).pool :=
  inOrder_kept (key := keyTeardown) (pad := padTeardown) releaseIfForwarded_kept liftIfContacts_kept padFirst s

/-! ### The Rail Allocator and the Charge Controller: at most a GRANT is requested -/

@[simp] theorem requestGrant_bare (v : Nat) (s : State) : (requestGrant v s).bport.bare = s.bport.bare := rfl

@[simp] theorem completeGrant_bare (s : State) : (completeGrant s).bport.bare = s.bport.bare := by
  simp only [completeGrant]; split <;> simp

@[simp] theorem completionTests_bare (s : State) : (completionTests s).bport.bare = s.bport.bare := by
  simp only [completionTests]; split <;> simp

@[simp] theorem levelRequest_bare (l : Level) (s : State) :
    (levelRequest l s).2.bport.bare = s.bport.bare := by
  simp [levelRequest]

@[simp] theorem swapReport_bare (s : State) : (swapReport s).bport.bare = s.bport.bare := by
  simp [swapReport]

@[simp] theorem stopReport_bare (s : State) : (stopReport s).bport.bare = s.bport.bare := by
  simp [stopReport]

@[simp] theorem putGrant_bare (g : Nat) (s : State) : (putGrant g s).bport.bare = s.bport.bare := by
  simp only [putGrant]; split <;> simp

@[simp] theorem admitLoad_bare (s : State) : (admitLoad s).bport.bare = s.bport.bare := by
  simp [admitLoad]

@[simp] theorem startCoil_bare (l : Level) (s : State) : (startCoil l s).2.bport.bare = s.bport.bare := by
  simp only [startCoil]; split <;> simp

@[simp] theorem stopCoil_bare (s : State) : (stopCoil s).bport.bare = s.bport.bare := by
  simp only [stopCoil]; split <;> simp

@[simp] theorem endPeriod_bare (s : State) : (endPeriod s).bport.bare = s.bport.bare := by
  simp only [endPeriod]; split <;> simp

@[simp] theorem enterHold_bare (s : State) : (enterHold s).bport.bare = s.bport.bare := by
  simp [enterHold]

/-- A probe's start requests at most a GRANT where what follows it leaves the B-port alone. -/
theorem startProbe_bare {started starved : State → State} (h1 : ∀ t, (started t).bport = t.bport)
    (h2 : ∀ t, (starved t).bport = t.bport) (s : State) :
    (startProbe started starved s).bport.bare = s.bport.bare := by
  have h := startCoil_bare 1 s
  simp only [startProbe]
  split <;> simp_all

@[simp] theorem changeLevel_bare (l : Level) (s : State) : (changeLevel l s).bport.bare = s.bport.bare := by
  simp only [changeLevel]; split <;> simp

@[simp] theorem driveAt_bare (l : Level) (s : State) : (driveAt l s).bport.bare = s.bport.bare := by
  have h := startCoil_bare l s
  simp only [driveAt]
  split
  · split <;> simp
  · split <;> simp_all

@[simp] theorem enterCharging_bare (s : State) : (enterCharging s).bport.bare = s.bport.bare := by
  simp [enterCharging]

@[simp] theorem stayCharging_bare (s : State) : (stayCharging s).bport.bare = s.bport.bare := by
  simp [stayCharging]

@[simp] theorem enterTopped_bare (s : State) : (enterTopped s).bport.bare = s.bport.bare := by
  simp [enterTopped]

@[simp] theorem enterFault_bare (s : State) : (enterFault s).bport.bare = s.bport.bare := by
  simp only [enterFault]; split <;> simp

@[simp] theorem recheckHold_bare (s : State) : (recheckHold s).bport.bare = s.bport.bare := by
  simp only [recheckHold]
  split
  · rfl
  · exact startProbe_bare (by simp [countPing]) (by simp) s

@[simp] theorem takePenFrame_bare (payload : List Byte) (s : State) :
    (takePenFrame payload s).bport.bare = s.bport.bare := by
  simp only [takePenFrame, probeFrame, chargingFrame, toppedFrame]
  (repeat' split) <;> simp

@[simp] theorem takeCapChange_bare (s : State) : (takeCapChange s).bport.bare = s.bport.bare := by
  simp only [takeCapChange]
  (repeat' split) <;> simp

@[simp] theorem pingExpired_bare (s : State) : (pingExpired s).bport.bare = s.bport.bare := by
  simp only [pingExpired]
  split
  · simp
  · exact startProbe_bare (by simp [countPing]) (by simp) s

@[simp] theorem probeExpired_bare (s : State) : (probeExpired s).bport.bare = s.bport.bare := by
  simp only [probeExpired]; split <;> simp

@[simp] theorem silenceExpired_bare (s : State) : (silenceExpired s).bport.bare = s.bport.bare := by
  simp [silenceExpired]

@[simp] theorem topUpExpired_bare (s : State) : (topUpExpired s).bport.bare = s.bport.bare := by
  simp only [topUpExpired]
  split
  · simp
  · exact startProbe_bare (by simp) (by simp) s

@[simp] theorem chargeOn_bare (s : State) : (chargeOn s).state.bport.bare = s.bport.bare := by
  simp only [chargeOn]; (repeat' split) <;> simp

@[simp] theorem chargeOff_bare (s : State) : (chargeOff s).state.bport.bare = s.bport.bare := by
  simp only [chargeOff, disableCharger]; split <;> simp

end Sys2Proof.Machine
end

section
/-! PROOFS. The Link Monitor keeps its law: each move sets the timers of the state it enters, a teardown clears the
Base Record before the move, an admission fills it after, and an IDENT_REQ is pending in IDENTIFY alone (R20, R111
to R122). -/

namespace Sys2Proof.Machine

/-! ### What the Link Monitor leaves of the B-port -/

/-- The B-port with everything reset that the laws of the buffers and of the transmitter do not read. -/
def BPort.books (b : BPort) : BPort := { b.bare with pendingIdent := false }

/-- An event of the Link Monitor: the pool and the transmitters stand, and the law of the link is kept. -/
theorem LawsKept.of_link {s t : State} (hp : t.pool = s.pool) (hs : t.sport = s.sport)
    (hb : t.bport.books = s.bport.books) (hl : LinkLaw s → LinkLaw t) : LawsKept s t := by
  have h : ∀ b c : BPort, b.books = c.books → b.owed = c.owed ∧ b.sending = c.sending
      ∧ b.awaiting = c.awaiting ∧ b.handshakeWait = c.handshakeWait := by
    simp [BPort.books, BPort.bare]
  obtain ⟨howed, hsending, hawaiting, hwait⟩ := h _ _ hb
  refine ⟨fun h => ?_, fun h => ?_, hl⟩
  · simpa [PoolLaw, State.bufferPlaces, hp, hs, hsending, hawaiting] using h
  · simpa [TransmitLaw, howed, hawaiting, hwait] using h

@[simp] theorem moveLink_books (x : LinkState) (t : LinkTimers) (s : State) :
    (moveLink x t s).bport.books = s.bport.books := by
  simp only [moveLink]; split <;> simp [cancelIdent, BPort.books, BPort.bare]

@[simp] theorem enterContact_books (s : State) : (enterContact s).bport.books = s.bport.books := by
  simp [enterContact]

@[simp] theorem enterRejected_books (r : RejectReason) (s : State) :
    (enterRejected r s).bport.books = s.bport.books := by
  simp [enterRejected]

@[simp] theorem askIdentity_books (n : Nat) (s : State) : (askIdentity n s).bport.books = s.bport.books :=
  moveLink_books .identify { ident := some s.link.timing.identTimeout } s

@[simp] theorem checkAdmission_books (i : Identity) (s : State) :
    (checkAdmission i s).bport.books = s.bport.books := by
  simp only [checkAdmission, admitBase]; split <;> simp

@[simp] theorem takeIdent_books (payload : List Byte) (s : State) :
    (takeIdent payload s).bport.books = s.bport.books := by
  simp only [takeIdent, takeIdentity, takeMalformed]
  (repeat' split) <;> simp

@[simp] theorem liveFrame_books (s : State) : (liveFrame s).bport.books = s.bport.books := by
  simp only [liveFrame]; split <;> simp

/-! ### Moves of the link state -/

@[simp] theorem moveLink_link (x : LinkState) (t : LinkTimers) (s : State) :
    (moveLink x t s).link = { s.link with
      state := x, debounce := t.debounce, identTimer := t.ident, alive := t.alive
      attempts := if x = .detached then 0 else s.link.attempts } := by
  simp only [moveLink]; split <;> simp

/-- A move of the link keeps the request of an identity in IDENTIFY. -/
theorem moveLink_pendingIdent {x : LinkState} {t : LinkTimers} {s : State}
    (h : s.bport.pendingIdent = true → s.link.state = .identify) :
    (moveLink x t s).bport.pendingIdent = true → x = .identify := by
  simp only [moveLink]
  split
  · simp [cancelIdent]
  · rename_i hstay
    intro hp
    by_contra hx
    exact hstay ⟨h hp, hx⟩

/-- What the law of the link says but for the state and its timers: the record is empty where it is not valid, the
attempts are at most three, and an IDENT_REQ is pending in IDENTIFY alone. -/
structure LinkReady (s : State) : Prop where
  record : s.link.record.valid = false → s.link.record = {}
  attempts : s.link.attempts ≤ Config.identAttempts
  ident : s.bport.pendingIdent = true → s.link.state = .identify

theorem LinkReady.of_law {s : State} (h : LinkLaw s) : LinkReady s := by
  obtain ⟨-, -, -, -, hrecord, hattempts, -, hident⟩ := h
  exact ⟨hrecord, hattempts, hident⟩

theorem record_valid_of_linkLaw {s : State} (h : LinkLaw s) :
    s.link.record.valid = s.link.state.attachedOrSuspect := h.2.2.2.1

/-- A move with the timers of the state it enters keeps the law where the Base Record fits that state. -/
theorem moveLink_linkLaw {x : LinkState} {t : LinkTimers} {s : State} (h : LinkReady s)
    (hvalid : s.link.record.valid = x.attachedOrSuspect) (hdebounce : t.debounce.isSome = (x == .contact))
    (hid : t.ident.isSome = (x == .identify)) (halive : t.alive.isSome = x.attachedOrSuspect) :
    LinkLaw (moveLink x t s) := by
  refine ⟨?_, ?_, ?_, ?_, ?_, ?_, ?_, fun hp => ?_⟩
  case refine_8 => rw [moveLink_link]; exact moveLink_pendingIdent h.ident hp
  all_goals simp only [moveLink_link]
  · exact hdebounce
  · exact hid
  · exact halive
  · exact hvalid
  · exact h.record
  · split
    · exact Nat.zero_le _
    · exact h.attempts
  · exact fun hx => if_pos hx

theorem enterContact_linkLaw {s : State} (h : LinkReady s) (hvalid : s.link.record.valid = false) :
    LinkLaw (enterContact s) :=
  moveLink_linkLaw (x := .contact) (t := { debounce := some s.link.timing.contactDebounce }) h hvalid rfl rfl rfl

theorem enterRejected_linkLaw (r : RejectReason) {s : State} (h : LinkReady s)
    (hvalid : s.link.record.valid = false) : LinkLaw (enterRejected r s) :=
  moveLink_linkLaw (x := .rejected) (t := {}) h hvalid rfl rfl rfl

theorem askIdentity_linkLaw {n : Nat} {s : State} (h : LinkReady s) (hvalid : s.link.record.valid = false)
    (hn : n ≤ Config.identAttempts) : LinkLaw (askIdentity n s) := by
  have hm := moveLink_linkLaw (x := .identify) (t := { ident := some s.link.timing.identTimeout }) h hvalid
    rfl rfl rfl
  obtain ⟨h1, h2, h3, h4, h5, -, -, -⟩ := hm
  have hstate : (askIdentity n s).link.state = .identify := by
    simp [askIdentity, countLink, requestIdent]
  exact ⟨h1, h2, h3, h4, h5, hn, fun hd => absurd (hstate.symm.trans hd) (by decide), fun _ => hstate⟩

/-- An admission fills the Base Record of the state it enters. -/
theorem admitBase_linkLaw {i : Identity} {cap : Nat} {s : State} (h : LinkReady s) :
    LinkLaw (admitBase i cap s) := by
  refine ⟨?_, ?_, ?_, ?_, ?_, ?_, ?_, fun hp => ?_⟩
  case refine_8 =>
    have := moveLink_pendingIdent (x := .attached) (t := { alive := some s.link.timing.aliveWindow }) h.ident
      (by simpa [admitBase, countLink] using hp)
    cases this
  all_goals simp [admitBase, countLink, LinkState.attachedOrSuspect, h.attempts]

theorem checkAdmission_linkLaw {i : Identity} {s : State} (h : LinkReady s)
    (hvalid : s.link.record.valid = false) : LinkLaw (checkAdmission i s) := by
  simp only [checkAdmission]
  split
  · exact admitBase_linkLaw h
  · exact enterRejected_linkLaw .cls h hvalid

/-- A teardown leaves an empty Base Record; the state is moved after it. -/
theorem teardown_linkReady (c : TeardownCause) {s : State} (h : LinkReady s) : LinkReady (teardown c s) :=
  ⟨fun _ => rfl, h.attempts, h.ident⟩

/-! ### The events of the Link Monitor -/

/-- No base's record is valid outside ATTACHED and SUSPECT. -/
theorem record_invalid {s : State} (h : LinkLaw s) (hx : s.link.state.attachedOrSuspect = false) :
    s.link.record.valid = false :=
  (record_valid_of_linkLaw h).trans hx

theorem presenceUp_lawsKept (s : State) : LawsKept s (presenceUp s) := by
  simp only [presenceUp]
  split
  · rename_i hx
    exact .of_link (by simp) (by simp) (by simp) fun h =>
      enterContact_linkLaw (.of_law h) (record_invalid h (by rw [hx]; rfl))
  · rename_i hx
    exact .of_link (by simp) (by simp) (by simp) fun h =>
      enterContact_linkLaw (.of_law h) (record_invalid h (by rw [hx]; rfl))
  · rfl

/-- DETACHED entered with no base attached. -/
theorem detach_linkLaw {s : State} (h : LinkReady s) (hvalid : s.link.record.valid = false) :
    LinkLaw (moveLink .detached {} s) :=
  moveLink_linkLaw h hvalid rfl rfl rfl

theorem presenceDown_lawsKept (s : State) : LawsKept s (presenceDown s) := by
  refine .of_link (by simp) (by simp) ?_ fun h => ?_
  · simp only [presenceDown]; split <;> simp
  · simp only [presenceDown]
    cases hx : s.link.state with
    | detached => exact h
    | contact | identify | rejected =>
      exact detach_linkLaw (.of_law h) (record_invalid h (by rw [hx]; rfl))
    | attached | suspect => exact detach_linkLaw (teardown_linkReady _ (.of_law h)) rfl

theorem debounceExpired_lawsKept {s : State} (hx : s.link.state = .contact) :
    LawsKept s (debounceExpired s) := by
  refine .of_link (by simp) (by simp) (by simp [debounceExpired]) fun h => ?_
  exact askIdentity_linkLaw (.of_law h) (record_invalid h (by rw [hx]; rfl)) (by decide)

theorem identExpired_lawsKept {s : State} (hx : s.link.state = .identify) : LawsKept s (identExpired s) := by
  simp only [identExpired]
  split
  · rename_i hn
    exact .of_link (by simp) (by simp) (by simp) fun h =>
      askIdentity_linkLaw (.of_law h) (record_invalid h (by rw [hx]; rfl)) hn
  · exact .of_link (by simp) (by simp) (by simp) fun h =>
      enterRejected_linkLaw _ (.of_law h) (record_invalid h (by rw [hx]; rfl))

theorem aliveExpired_lawsKept (s : State) : LawsKept s (aliveExpired s) := by
  refine .of_link (by simp) (by simp) ?_ fun h => ?_
  · simp only [aliveExpired]; (repeat' split) <;> simp
  · simp only [aliveExpired]
    cases hx : s.link.state with
    | detached | contact | identify | rejected => exact h
    | attached =>
      exact moveLink_linkLaw (x := .suspect) (t := { alive := some s.link.timing.aliveWindow }) (.of_law h)
        ((record_valid_of_linkLaw h).trans (by rw [hx]; rfl)) rfl rfl rfl
    | suspect =>
      have ht := teardown_linkReady .silence (.of_law h)
      dsimp only
      split
      · exact enterContact_linkLaw ht rfl
      · exact detach_linkLaw ht rfl

theorem liveFrame_lawsKept (s : State) : LawsKept s (liveFrame s) := by
  refine .of_link (by simp) (by simp) (by simp) fun h => ?_
  simp only [liveFrame]
  split
  · rename_i hx
    obtain ⟨h1, h2, -, h4, h5, h6, h7, h8⟩ := h
    exact ⟨h1, h2, by simp [hx, LinkState.attachedOrSuspect], h4, h5, h6, h7, h8⟩
  · rename_i hx
    exact moveLink_linkLaw (x := .attached) (t := { alive := some s.link.timing.aliveWindow }) (.of_law h)
      ((record_valid_of_linkLaw h).trans (by rw [hx]; rfl)) rfl rfl rfl
  · exact h

theorem takeIdentity_linkLaw (i : Identity) {s : State} (h : LinkLaw s) : LinkLaw (takeIdentity i s) := by
  simp only [takeIdentity]
  cases hx : s.link.state with
  | detached | contact => exact h
  | identify | rejected =>
    exact checkAdmission_linkLaw (.of_law h) (record_invalid h (by rw [hx]; rfl))
  | attached | suspect => exact checkAdmission_linkLaw (teardown_linkReady _ (.of_law h)) rfl

theorem takeMalformed_linkLaw {s : State} (h : LinkLaw s) : LinkLaw (takeMalformed s) := by
  simp only [takeMalformed]
  split
  · exact enterRejected_linkLaw _ (teardown_linkReady _ (.of_law h)) rfl
  · rename_i hx
    exact enterRejected_linkLaw _ (.of_law h) (record_invalid h (by simpa using hx))

theorem takeIdent_lawsKept (payload : List Byte) (s : State) : LawsKept s (takeIdent payload s) := by
  refine .of_link (by simp) (by simp) (by simp) fun h => ?_
  simp only [takeIdent]
  split
  · exact takeIdentity_linkLaw _ h
  · exact takeMalformed_linkLaw h

end Sys2Proof.Machine
end

section
/-! PROOFS. Every command keeps the laws of the buffers, of the B-port transmitter and of the Link Monitor: the
classifier and the ports, the management commands with their response places, the resets, and the dispatch (R16,
R20, R21, R24, R25, R30, R31, R111, R118, R172). -/

namespace Sys2Proof.Machine

/-! ### Classification -/

@[simp] theorem countShape_bare (port : UpPort) (s : State) : (countShape port s).bport.bare = s.bport.bare := by
  cases port <;> rfl

@[simp] theorem consume_bare (c : Consumer) (port : UpPort) (payload : List Byte) (s : State) :
    (consume c port payload s).bport.bare = s.bport.bare := by
  simp only [consume]
  split
  · cases c <;> simp [Consumer.take]
  · simp

@[simp] theorem consume_pool (c : Consumer) (port : UpPort) (payload : List Byte) (s : State) :
    (consume c port payload s).pool = s.pool := by
  simp only [consume]
  split
  · cases c <;> simp [Consumer.take]
  · simp

theorem forward_kept (q : Option HostQueue) (f : Frame) (s : State) :
    PoolKept s.pool (forward q f s).2.pool := by
  cases q with
  | none => rfl
  | some q => exact placeReceived_kept q.id f.raw s

theorem forwardDecided_kept (d : Decision) (f : Frame) (s : State) :
    PoolKept s.pool (forwardDecided d f s).2.pool := by
  simp only [forwardDecided]
  split
  · exact (keyFilterFrame_kept f _ _).congr rfl
  · exact (padFilterFrame_kept f _ _).congr rfl
  · exact forward_kept _ f s

theorem act_lawsKept (d : Decision) (port : UpPort) (f : Frame) (s : State) :
    LawsKept s (act d port f s).2 := by
  simp only [act]
  split
  · exact .of_pool (forwardDecided_kept d f s) (by simp) (by simp) (by simp)
  · exact .of_pool ((forward_kept d.queue f _).congr (by simp)) (by simp) (by simp) (by simp)
  · exact .of_pool (forward_kept d.queue f s) (by simp) (by simp) (by simp)
  · exact .of_same (by simp) (by simp) (by simp) (by simp)
  · exact .of_same (by simp) (by simp) (by simp) (by simp)
  · rfl

theorem classify_lawsKept (port : UpPort) (f : Frame) (s : State) : LawsKept s (classify port f s).2 :=
  (act_lawsKept _ port f _).after ⟨id, id, id⟩

/-! ### The ports -/

theorem reportError_lawsKept (r : LogReason) (port : Port) (unit : List Byte) (s : State) :
    LawsKept s (reportError r port unit s) :=
  .of_same (by simp) (by simp) (by simp) (by simp)

theorem countB_lawsKept (f : BCounters → BCounters) (s : State) : LawsKept s (countB f s) := ⟨id, id, id⟩

theorem countS_lawsKept (f : SCounters → SCounters) (s : State) : LawsKept s (countS f s) := ⟨id, id, id⟩

theorem answer_lawsKept (d : Descriptor) (y : SymbolType) (c : Chan) (s : State) :
    LawsKept s (answer d y c s) := by
  simp only [answer]
  split
  · exact oweSymbol_lawsKept y c s
  · rfl

theorem settle_lawsKept (d : Descriptor) (c : Chan) (accepted : Bool) (s : State) :
    LawsKept s (settle d c accepted s) := by
  simp only [settle]
  split
  · split
    · exact (oweSymbol_lawsKept .ack c s).trans ⟨id, id, id⟩
    · rfl
  · exact (countB_lawsKept _ s).trans (answer_lawsKept d .nak c _)

theorem checkDeclared_lawsKept (d : Descriptor) (f : Frame) (s : State) :
    LawsKept s (checkDeclared d f s) := by
  simp only [checkDeclared]
  split
  · exact (countB_lawsKept _ s).trans (answer_lawsKept d .halt _ _)
  · split
    · exact (countB_lawsKept _ s).trans (oweSymbol_lawsKept .ack _ _)
    · split
      · exact ((countB_lawsKept _ s).trans (answer_lawsKept d .nak _ _)).trans (reportError_lawsKept _ _ _ _)
      · exact (classify_lawsKept .b f s).trans (settle_lawsKept d _ _ _)

theorem checkAttached_lawsKept (f : Frame) (s : State) : LawsKept s (checkAttached f s) := by
  simp only [checkAttached]
  split
  · split
    · exact (countB_lawsKept _ s).trans (reportError_lawsKept _ _ _ _)
    · split
      · exact checkDeclared_lawsKept _ f s
      · exact (countB_lawsKept _ s).trans (reportError_lawsKept _ _ _ _)
  · exact (countB_lawsKept _ s).trans (reportError_lawsKept _ _ _ _)

theorem takeBaseFrame_lawsKept (f : Frame) (s : State) : LawsKept s (takeBaseFrame f s) := by
  refine (liveFrame_lawsKept s).trans ?_
  simp only [takeBaseFrame]
  split
  · exact (countB_lawsKept _ _).trans (takeIdent_lawsKept _ _)
  · exact countB_lawsKept _ _
  · exact checkAttached_lawsKept f _

theorem receiveB_lawsKept (unit : List Byte) (s : State) : LawsKept s (receiveB unit s) := by
  refine LawsKept.trans (t := countB (fun k => { k with received := satInc k.received })
    (s.setBport { s.bport with staging := stage unit })) ⟨id, id, id⟩ ?_
  simp only [receiveB]
  split
  · split
    · exact takeBaseFrame_lawsKept _ _
    · exact (countB_lawsKept _ _).trans (reportError_lawsKept _ _ _ _)
  · exact (countB_lawsKept _ _).trans (reportError_lawsKept _ _ _ _)

theorem receiveL_lawsKept (unit : List Byte) (s : State) : LawsKept s (receiveL unit s) := by
  simp only [receiveL]
  split
  · split
    · refine .trans ?_ (classify_lawsKept .l _ _)
      exact .of_same (by simp) (by simp) (by simp) (by simp)
    · exact .of_same (by simp) (by simp) (by simp) (by simp)
  · exact .of_same (by simp) (by simp) (by simp) (by simp)

theorem receiveP_lawsKept (unit : List Byte) (s : State) : LawsKept s (receiveP unit s) := by
  simp only [receiveP]
  split
  · split
    · exact (classify_lawsKept .p _ _).after ⟨id, id, id⟩
    · exact .of_same (by simp) (by simp) (by simp) (by simp)
  · exact .of_same (by simp) (by simp) (by simp) (by simp)

/-! ### The management commands -/

/-- A queue that takes a limit within its range and not below its length (R26). -/
theorem Pool.setLimit_kept {p : Pool} {q : QueueId} {limit : Nat} (policy : Option OverflowPolicy)
    (hrange : inRange q.leastLimit 48 limit = true) (hlen : (p.queue q).items.length ≤ limit) :
    PoolKept p (p.setQueue q { p.queue q with limit := limit, policy := policy }) := by
  simp only [inRange, Bool.and_eq_true, decide_eq_true_eq] at hrange
  exact moved_kept (bufs := p.bufs) (free := p.free) (fun _ => rfl) (fun _ => ⟨hlen, hrange⟩)

theorem cmdSetQueue_lawsKept (args : List Byte) (s : State) : LawsKept s (cmdSetQueue args s).state := by
  refine .of_pool ?_ (by simp) (by simp) (by simp)
  simp only [cmdSetQueue]
  split
  case h_2 => rfl
  split
  · rfl
  · split
    · rfl
    · rename_i hrange
      split
      · rfl
      · split
        · rfl
        · rename_i hlen
          exact Pool.setLimit_kept _ (by simpa using hrange) (Nat.le_of_not_lt hlen)

theorem cmdFlushQueue_lawsKept (args : List Byte) (s : State) : LawsKept s (cmdFlushQueue args s).state := by
  refine .of_pool ?_ (by simp) (by simp) (by simp)
  simp only [cmdFlushQueue]
  split
  case h_2 => rfl
  split
  · rfl
  · rename_i q _
    exact (flushQueue_kept q s).trans (.of_eq (by simp))

theorem cmdReadQueues_lawsKept (args : List Byte) (s : State) : LawsKept s (cmdReadQueues args s).state := by
  refine .of_pool ?_ (by simp) (by simp) (by simp)
  simp only [cmdReadQueues]
  split
  case h_2 => rfl
  split
  · rfl
  · split
    · rfl
    · rename_i q _ _ clear _
      cases clear
      · rfl
      · exact s.pool.setQueue_kept q rfl rfl

theorem cmdSetEventEnable_lawsKept (args : List Byte) (s : State) :
    LawsKept s (cmdSetEventEnable args s).state := by
  refine .of_pool ?_ (by simp) (by simp) (by simp)
  simp only [cmdSetEventEnable]
  split
  · exact (announce_kept _ _ _).congr rfl
  · rfl

theorem clearGroup_lawsKept (g : Fin 11) (s : State) : LawsKept s (clearGroup g s) := by
  fin_cases g <;> exact ⟨id, id, id⟩

theorem cmdReadCounters_lawsKept (args : List Byte) (s : State) :
    LawsKept s (cmdReadCounters args s).state := by
  simp only [cmdReadCounters]
  split
  case h_2 => rfl
  split
  · rfl
  · split
    · rfl
    · rename_i g _ _ clear _
      cases clear
      · rfl
      · exact clearGroup_lawsKept g s

@[simp] theorem cmdWriteChargeCell_bare (args : List Byte) (s : State) :
    (cmdWriteChargeCell args s).state.bport.bare = s.bport.bare := by
  simp only [cmdWriteChargeCell]; (repeat' split) <;> simp

@[simp] theorem cmdSetChargeParams_bare (args : List Byte) (s : State) :
    (cmdSetChargeParams args s).state.bport.bare = s.bport.bare := by
  simp only [cmdSetChargeParams]; (repeat' split) <;> simp

@[simp] theorem cmdChargeEnable_bare (args : List Byte) (s : State) :
    (cmdChargeEnable args s).state.bport.bare = s.bport.bare := by
  simp only [cmdChargeEnable]; (repeat' split) <;> simp

@[simp] theorem cmdChannelHalt_bare (args : List Byte) (s : State) :
    (cmdChannelHalt args s).state.bport.bare = s.bport.bare := by
  simp only [cmdChannelHalt]; (repeat' split) <;> rfl

@[simp] theorem cmdChannelResume_bare (args : List Byte) (s : State) :
    (cmdChannelResume args s).state.bport.bare = s.bport.bare := by
  simp only [cmdChannelResume]; (repeat' split) <;> rfl

theorem cmdWriteBaseClass_lawsKept (args : List Byte) (s : State) :
    LawsKept s (cmdWriteBaseClass args s).state := by
  simp only [cmdWriteBaseClass]; (repeat' split) <;> exact ⟨id, id, id⟩

theorem cmdSetLinkTiming_lawsKept (args : List Byte) (s : State) :
    LawsKept s (cmdSetLinkTiming args s).state := by
  simp only [cmdSetLinkTiming]; (repeat' split) <;> exact ⟨id, id, id⟩

/-- Every command that a code names, SOFT_RESET aside, keeps the laws in its execution: most leave alone what the
laws read. -/
theorem commandOf_lawsKept {code : Nat} {run : List Byte → State → Answer} (h : commandOf code = some run)
    (args : List Byte) (s : State) : LawsKept s (run args s).state := by
  unfold commandOf at h
  split at h <;> cases h
  case h_14 => exact cmdWriteBaseClass_lawsKept args s
  case h_16 => exact cmdSetLinkTiming_lawsKept args s
  case h_29 => exact cmdSetQueue_lawsKept args s
  case h_30 => exact cmdFlushQueue_lawsKept args s
  case h_31 => exact cmdReadQueues_lawsKept args s
  case h_34 => exact cmdSetEventEnable_lawsKept args s
  case h_37 => exact cmdReadCounters_lawsKept args s
  all_goals exact .of_same (by simp) (by simp) (by simp) (by simp)

theorem overrun_lawsKept (unit : List Byte) (s : State) : LawsKept s (overrun unit s) :=
  (reportError_lawsKept _ _ _ _).after (.of_pool (s.pool.setQueue_kept .q0 rfl rfl) rfl rfl rfl)

/-- A command with its response place taken keeps the laws where its execution does. -/
theorem respond_lawsKept (code : Byte) (unit : List Byte) {run : State → Answer}
    (hrun : ∀ t, LawsKept t (run t).state) (s : State) : LawsKept s (respond code unit run s) := by
  rcases respond_cases code unit run s with ⟨hroom, i, p, hj, h⟩ | h
  · rw [h]
    have hplace : LawsKept s (s.setPool p) := .of_pool (Pool.join_q0_kept hroom hj) rfl rfl rfl
    exact (hplace.trans (hrun _)).trans ⟨id, id, id⟩
  · rw [h]; exact overrun_lawsKept unit s

/-! ### The resets -/

theorem powerOn_lawsKept (s : State) : LawsKept s (powerOn s) :=
  ⟨fun _ => poolLaw_reset, fun _ => transmitLaw_reset, fun _ => linkLaw_reset⟩

/-- A soft reset puts every buffer on the Free List and keeps the limits (R24, R31). -/
theorem softResetState_lawsKept (s : State) : LawsKept s (softResetState s) := by
  refine ⟨fun h => ?_, fun _ => by simp [TransmitLaw, softResetState], fun _ => ?_⟩
  · obtain ⟨-, hlim, -⟩ := poolLaw_iff.1 h
    have hplaces : (softResetState s).bufferPlaces = List.finRange 48 := by
      simp [State.bufferPlaces, Pool.listed, softResetState, Pool.softReset, BSending.buffers]
    refine poolLaw_iff.2 ⟨fun i => ?_, fun q => ?_, fun _ => rfl⟩
    · rw [hplaces]
      exact List.count_eq_one_of_mem (List.nodup_finRange 48) (List.mem_finRange i)
    · have := (hlim q).2
      cases q <;> exact ⟨Nat.zero_le _, this⟩
  · simp [LinkLaw, softResetState, Link.softReset, LinkState.attachedOrSuspect]

/-- After a soft reset Q0 has room for the response (R172). -/
theorem hasRoom_softResetState {s : State} (h : PoolLaw s) : (softResetState s).pool.hasRoom = true := by
  have hlimit : 2 ≤ s.pool.q0.limit := ((poolLaw_iff.1 h).2.1 .q0).2.1
  exact Pool.hasRoom_iff.2 ⟨Nat.lt_of_lt_of_le Nat.two_pos hlimit, by simp [softResetState, Pool.softReset]⟩

/-- The response of a SOFT_RESET is placed within the limits where Q0 has room; it leaves the transmitters' lists and
the link alone in any case. -/
theorem placeResetResponse_lawsKept {s t : State} (h : LawsKept s t) (hroom : PoolLaw s → t.pool.hasRoom = true) :
    LawsKept s (placeResetResponse t) := by
  simp only [placeResetResponse]
  split
  · rename_i i p hj
    refine LawsKept.trans (t := t.setPool p) ⟨fun hs => ?_, h.transmit, h.link⟩ ⟨id, id, id⟩
    have hplace : LawsKept t (t.setPool p) := .of_pool (Pool.join_q0_kept (hroom hs) hj) rfl rfl rfl
    exact hplace.pool (h.pool hs)
  · exact h

theorem runSoftReset_lawsKept (unit args : List Byte) (s : State) : LawsKept s (runSoftReset unit args s) := by
  simp only [runSoftReset]
  split
  · split
    · exact placeResetResponse_lawsKept (softResetState_lawsKept s) hasRoom_softResetState
    · exact overrun_lawsKept unit s
  · exact respond_lawsKept 2 unit (fun _ => .refl _) s

/-! ### The S-port -/

theorem manage_lawsKept (unit payload : List Byte) (s : State) : LawsKept s (manage unit payload s) := by
  cases payload with
  | nil => exact respond_lawsKept 0 unit (fun _ => .refl _) s
  | cons code args =>
    simp only [manage]
    split
    · exact runSoftReset_lawsKept unit args s
    · split
      · rename_i run hrun
        exact respond_lawsKept code unit (commandOf_lawsKept hrun args) s
      · exact respond_lawsKept code unit (fun _ => .refl _) s

theorem placeDownstream_lawsKept (f : Frame) (s : State) : LawsKept s (placeDownstream f s) := by
  have hp : LawsKept s (placeReceived .qd f.raw s).2 :=
    .of_pool (placeReceived_kept .qd f.raw s) (by simp) (by simp) (by simp)
  simp only [placeDownstream]
  split
  · rename_i t hr
    rw [hr] at hp
    exact (hp.trans (countS_lawsKept _ t)).trans (bLook_lawsKept _)
  · rename_i t hr
    rwa [hr] at hp

theorem takeHostFrame_lawsKept (f : Frame) (s : State) : LawsKept s (takeHostFrame f s) := by
  have hbad : LawsKept s (badDest f s) := (countS_lawsKept _ s).trans (reportError_lawsKept _ _ _ _)
  simp only [takeHostFrame]
  split
  · split
    · exact (countS_lawsKept _ s).trans (manage_lawsKept _ _ _)
    · exact hbad
  · split
    · split
      · exact placeDownstream_lawsKept f s
      · exact hbad
    · exact hbad

theorem receiveS_lawsKept (unit : List Byte) (s : State) : LawsKept s (receiveS unit s) := by
  refine LawsKept.trans (t := countS (fun k => { k with received := satInc k.received })
    (s.setSport { s.sport with staging := staged s.sport.staging unit })) ⟨id, id, id⟩ ?_
  simp only [receiveS]
  split
  · split
    · exact takeHostFrame_lawsKept _ _
    · exact (countS_lawsKept _ _).trans (reportError_lawsKept _ _ _ _)
  · exact (countS_lawsKept _ _).trans (reportError_lawsKept _ _ _ _)

/-! ### The tick and the lines -/

theorem Timer.tick_isSome (t : Timer) : t.tick.isSome = t.isSome := by
  rw [Timer.tick_eq_map, Option.isSome_map]

theorem tick_lawsKept (s : State) : LawsKept s (tick s) := by
  refine ⟨id, fun ⟨hnd, hw⟩ => ⟨hnd, hw.trans (Timer.tick_isSome _).symm⟩, fun h => ?_⟩
  obtain ⟨h1, h2, h3, h4, h5, h6, h7, h8⟩ := h
  exact ⟨(Timer.tick_isSome _).trans h1, (Timer.tick_isSome _).trans h2, (Timer.tick_isSome _).trans h3,
    h4, h5, h6, h7, h8⟩

/-- A delivery taken keeps the laws where what is done with it does. -/
theorem taking_lawsKept {α : Type} (r : Block × Block) (sel : Delivery → Option α) {f : α → State → State}
    (hf : ∀ a t, LawsKept t (f a t)) (s : State) : LawsKept s (taking r sel f s) := by
  rcases taking_cases r sel f s with h | ⟨a, ds, -, h⟩ <;> rw [h]
  exact (hf a _).after ⟨id, id, id⟩

theorem takingOne_lawsKept (d : Delivery) {f : State → State} (hf : ∀ t, LawsKept t (f t)) (s : State) :
    LawsKept s (takingOne d f s) :=
  taking_lawsKept _ _ (fun _ => hf) s

theorem presenceAsserted_lawsKept (s : State) : LawsKept s (presenceAsserted s) := by
  simp only [presenceAsserted]
  split
  · exact takingOne_lawsKept _ presenceUp_lawsKept s
  · exact (presenceUp_lawsKept _).after ⟨id, id, id⟩

theorem presenceReleased_lawsKept (s : State) : LawsKept s (presenceReleased s) := by
  simp only [presenceReleased]
  split
  · exact (presenceDown_lawsKept _).after ⟨id, id, id⟩
  · rfl

/-! ### Every command -/

/-- An event that acts only under a condition keeps the laws where its act does. -/
theorem guarded_lawsKept {p : Prop} [Decidable p] {s t : State} (h : p → LawsKept s t) :
    LawsKept s (if p then t else s) := by
  split
  · exact h ‹_›
  · rfl

/-- A look of the S-port transmitter after a step that keeps the pool and leaves the transmitters and the link
alone. -/
theorem sLook_of_pool {s t : State} (hp : PoolKept s.pool t.pool) (hs : t.sport = s.sport)
    (hb : t.bport.bare = s.bport.bare) (hl : t.link = s.link) : LawsKept s (sLook t) :=
  (LawsKept.of_pool hp hs hb hl).trans (sLook_lawsKept t)

theorem mgmtEvent_lawsKept {code : Byte} {run : List Byte → State → Answer}
    (h : commandOf code.toNat = some run) (channel : Chan) (args : List Byte) (s : State) :
    LawsKept s (mgmtEvent code channel args run s) :=
  (respond_lawsKept code _ (commandOf_lawsKept h args) s).trans (lookAfter_lawsKept s _)

theorem lookWhereAsked_lawsKept (s : State) : LawsKept s (lookWhereAsked s) :=
  guarded_lawsKept fun _ => bLook_lawsKept s

theorem freshnessExpired_lawsKept (s : State) : LawsKept s (freshnessExpired s) :=
  guarded_lawsKept fun _ => ⟨id, id, id⟩

/-- The B-port transmitter's look after a step of the charger or of the rail. -/
theorem bLookAfter_of_bare {r s t : State} (hp : t.pool = s.pool) (hs : t.sport = s.sport)
    (hb : t.bport.bare = s.bport.bare) (hl : t.link = s.link) : LawsKept s (bLookAfter r t) :=
  (LawsKept.of_same hp hs hb hl).trans (bLookAfter_lawsKept r t)

/-- Every command keeps the three laws, taken by the kind of its meaning. -/
theorem exec_lawsKept (c : Instr) (s : State) : ∃ t, exec c s = .next t ∧ LawsKept s t := by
  cases c with
  | powerOnReset => exact ⟨_, rfl, powerOn_lawsKept s⟩
  | timeCountTick => exact ⟨_, rfl, tick_lawsKept s⟩
  -- Lines and units.
  | hostReadyChange level => exact ⟨_, rfl, (sLook_lawsKept _).after ⟨id, id, id⟩⟩
  | presenceAsserted => exact ⟨_, rfl, presenceAsserted_lawsKept s⟩
  | presenceReleased => exact ⟨_, rfl, presenceReleased_lawsKept s⟩
  | bPortUnitCompleted b0 b1 rest =>
    exact ⟨_, rfl, (receiveB_lawsKept _ s).trans (lookAfter_lawsKept s _)⟩
  | bPortSymbolReceived symbol => exact ⟨_, rfl, takeSymbol_lawsKept symbol s⟩
  | lPortUnitCompleted lidsw b0 rest =>
    exact ⟨_, rfl, ((receiveL_lawsKept _ _).trans (sLook_lawsKept _)).after ⟨id, id, id⟩⟩
  | pPortUnitCompleted b0 rest => exact ⟨_, rfl, (receiveP_lawsKept _ s).trans (lookAfter_lawsKept s _)⟩
  | sPortUnitCompleted b0 rest => exact ⟨_, rfl, (receiveS_lawsKept _ s).trans (lookAfter_lawsKept s _)⟩
  -- The ends of what the transmitters send.
  | handshakeWaitExpiry => exact ⟨_, rfl, handshakeExpired_lawsKept s⟩
  | sPortFrameEnd => exact ⟨_, rfl, hostFrameSent_lawsKept s⟩
  | bPortSymbolSent => exact ⟨_, rfl, symbolSent_lawsKept s⟩
  | partOriginatedFrameSent => exact ⟨_, rfl, partFrameSent_lawsKept s⟩
  | downstreamFrameSent => exact ⟨_, rfl, downFrameSent_lawsKept s⟩
  -- Timers.
  | baseFreshnessExpiry => exact ⟨_, rfl, freshnessExpired_lawsKept s⟩
  | contactDebounceExpiry =>
    exact ⟨_, rfl, guarded_lawsKept fun h => (debounceExpired_lawsKept h.1).trans (bLook_lawsKept _)⟩
  | identTimeoutExpiry =>
    exact ⟨_, rfl, guarded_lawsKept fun h => (identExpired_lawsKept h.1).trans (lookWhereAsked_lawsKept _)⟩
  | aliveWindowExpiry => exact ⟨_, rfl, guarded_lawsKept fun _ => aliveExpired_lawsKept s⟩
  | drivePeriodEnd => exact ⟨_, rfl, bLookAfter_of_bare (by simp) (by simp) (by simp) (by simp)⟩
  | pingExpiry | probeWindowExpiry | penSilenceExpiry | topUpExpiry =>
    exact ⟨_, rfl, guarded_lawsKept fun _ => bLookAfter_of_bare (by simp) (by simp) (by simp) (by simp)⟩
  | cooldownExpiry | sleepDelayExpiry | idleTimerExpiry =>
    exact ⟨_, rfl, guarded_lawsKept fun _ => .of_same (by simp) (by simp) (by simp) (by simp)⟩
  -- Retries, emissions and the Input Gate.
  | owedFrameEmission =>
    exact ⟨_, rfl, takingOne_lawsKept _
      (fun t => sLook_of_pool (emitOwed_kept t) (by simp) (by simp) (by simp)) s⟩
  | pendingItemRetry => exact ⟨_, rfl, takingOne_lawsKept _ bLook_lawsKept s⟩
  | releaseRetry =>
    exact ⟨_, rfl, taking_lawsKept _ _ (fun o t => (guarded_lawsKept fun _ =>
      .of_pool (retryRelease_kept t) (by simp) (by simp) (by simp)).trans (sLook_lawsKept _)) s⟩
  | liftRetry =>
    exact ⟨_, rfl, taking_lawsKept _ _ (fun o t => (guarded_lawsKept fun _ =>
      .of_pool (retryLift_kept t) (by simp) (by simp) (by simp)).trans (sLook_lawsKept _)) s⟩
  | gateUpdate padFirst =>
    exact ⟨_, rfl, taking_lawsKept _ _
      (fun m t => sLook_of_pool (updateGates_kept m padFirst t) (by simp) (by simp) (by simp)) s⟩
  | inputGateTeardown padFirst =>
    exact ⟨_, rfl, takingOne_lawsKept _
      (fun t => sLook_of_pool (gateTeardown_kept padFirst t) (by simp) (by simp) (by simp)) s⟩
  -- Admission and teardown.
  | postureAdmission =>
    exact ⟨_, rfl, takingOne_lawsKept _ (fun t => sLook_of_pool (.of_eq (by simp [admitPosture]))
      (by simp [admitPosture]) (by simp [admitPosture]) (by simp [admitPosture])) s⟩
  | postureTeardown =>
    exact ⟨_, rfl, takingOne_lawsKept _ (fun t => sLook_of_pool (.of_eq (by simp [tearPosture]))
      (by simp [tearPosture]) (by simp [tearPosture]) (by simp [tearPosture])) s⟩
  | toggleAndHaltReset => exact ⟨_, rfl, takingOne_lawsKept (f := resetToggles) _ (fun _ => ⟨id, id, id⟩) s⟩
  | transmitterTeardown =>
    exact ⟨_, rfl, takingOne_lawsKept _ (fun t => (stopTransmitter_lawsKept t).trans (bLook_lawsKept _)) s⟩
  | admissionGrant =>
    refine ⟨_, rfl, takingOne_lawsKept _ (fun t => ?_) s⟩
    have hadmit : LawsKept t (admitLoad t) := .of_same (by simp) (by simp) (by simp) (by simp)
    split
    · exact hadmit.trans (bLook_lawsKept _)
    · exact hadmit
  | railTeardown =>
    exact ⟨_, rfl, takingOne_lawsKept _ (fun _ => .of_same (by simp) (by simp) (by simp) (by simp)) s⟩
  -- The charger, the Power Policy Unit and the Management Unit.
  | capChange cause =>
    exact ⟨_, rfl, taking_lawsKept _ _
      (fun _ t => bLookAfter_of_bare (by simp) (by simp) (by simp) (by simp)) s⟩
  | powerPostureChange | powerPolicyEvent =>
    exact ⟨_, rfl, taking_lawsKept _ _ (fun _ _ => .of_same (by simp) (by simp) (by simp) (by simp)) s⟩
  | activityEvent | wakeSourceEvent =>
    exact ⟨_, rfl, takingOne_lawsKept _ (fun _ => .of_same (by simp) (by simp) (by simp) (by simp)) s⟩
  | eventDelivery event =>
    exact ⟨_, rfl, takingOne_lawsKept _
      (fun t => sLook_of_pool (takeManagementEvent_kept event t) (by simp) (by simp) (by simp)) s⟩
  -- Management commands.
  | softReset channel args => exact ⟨_, rfl, (runSoftReset_lawsKept _ args s).trans (lookAfter_lawsKept s _)⟩
  | getInfo | writeRoute | invalidateRoute | readRoute | setDefaultRoute | writePosture | invalidatePosture
  | readPostureEntry | writePolicy | writeAxisMap | writeAngleParams | readPostureRecord | setRotationLock
  | writeBaseClass | readBaseRecord | setLinkTiming | channelHalt | channelResume | setBudget | readBudget
  | writeDriveLevel | writeChargeCell | setChargeParams | chargeEnable | readChargeRecord | setHostState
  | writeWakeTable | readSleepRecord | setQueue | flushQueue | readQueues | readEvents | clearEvents
  | setEventEnable | readLog | clearLog | readCounters =>
    exact ⟨_, rfl, mgmtEvent_lawsKept rfl _ _ s⟩

/-- Every step keeps the three laws: it is the front command's effect, or the part idles. -/
theorem step_lawsKept {s t : State} (h : step s = .next t) : LawsKept s t := by
  simp only [step] at h
  split at h
  · cases h; rfl
  · rename_i c rest _
    obtain ⟨u, hu, hkept⟩ := exec_lawsKept c (s.setPending rest)
    rw [hu] at h
    cases h
    exact hkept.after ⟨id, id, id⟩

/-- Settles O3, command by command: each keeps the count of every buffer's places, the limits and the two lists of
the B-port transmitter. -/
theorem everyStepKeepsTheBufferLaws : Obligations.EveryStepKeepsTheBufferLaws :=
  fun _ _ h => ⟨(step_lawsKept h).pool, (step_lawsKept h).transmit⟩

/-- Settles O8, by the same walk through the commands: only the Link Monitor's events move the link, and each sets
the timers of the state it enters. -/
theorem everyStepKeepsTheLinkLaw : Obligations.EveryStepKeepsTheLinkLaw :=
  fun _ _ hs h => (step_lawsKept h).link hs

end Sys2Proof.Machine
end

section
/-! PROOFS. Frames read back as they were built, and the cases of the header check (R2, R4, R6). -/

namespace Sys2Proof.Machine

/-! ### The frame check of a closed frame -/

theorem highByte_append_lowByte (h : Half) : highByte h ++ lowByte h = h := by
  refine BitVec.eq_of_getLsbD_eq fun i hi => ?_
  simp only [highByte, lowByte, BitVec.getLsbD_append, BitVec.getLsbD_setWidth, BitVec.getLsbD_ushiftRight]
  by_cases h8 : i < 8
  · simp [h8]
  · have hlow : i - 8 < 8 := by omega
    have hsum : 8 + (i - 8) = i := by omega
    simp [h8, hlow, hsum]

/-- The two bytes behind a body are read at its length and one further. -/
theorem unitByte_behind (body : List Byte) (hi lo : Byte) :
    unitByte (body ++ [hi, lo]) body.length = hi ∧ unitByte (body ++ [hi, lo]) (body.length + 1) = lo := by
  simp [unitByte]

/-- A body of 3 to 35 bytes closed by its frame check passes it (R3, R4). -/
theorem frameCheckPasses_closeFrame {body : List Byte} (h3 : 3 ≤ body.length) (h35 : body.length ≤ 35) :
    frameCheckPasses (closeFrame body) = true := by
  have hlen : (closeFrame body).length = body.length + 2 := by simp [closeFrame]
  obtain ⟨hhi, hlo⟩ := unitByte_behind body (highByte (frameCheck body)) (lowByte (frameCheck body))
  have htake : (closeFrame body).take body.length = body := by simp [closeFrame]
  have hindex : body.length + 2 - 1 = body.length + 1 := rfl
  simp only [frameCheckPasses, hlen, Nat.add_sub_cancel, htake, hindex]
  simp only [closeFrame, hhi, hlo, highByte_append_lowByte]
  simp [Config.frameCapacity]
  omega

/-! ### The fields of a built frame -/

theorem Kind.code_le (k : Kind) : k.code ≤ 12 := by cases k <;> decide

@[simp] theorem Kind.ofCode_code (k : Kind) : Kind.ofCode k.code = some k := by cases k <;> rfl

theorem toNat_byteNat {n : Nat} (h : n < 256) : (byteNat n).toNat = n := by
  simpa [byteNat] using h

/-- A frame is its three header bytes, its payload and its frame check (R2). -/
theorem buildFrame_eq_cons (kind : Kind) (channel : Chan) (dest : Node) (toggle : Bool) (payload : List Byte) :
    ∃ check : List Byte, check.length = 2 ∧ buildFrame kind channel dest toggle payload
      = byteNat (kind.code * 16 + channel.val)
        :: byteNat (dest.val * 32 + (if toggle then 16 else 0)) :: byteNat payload.length
        :: (payload ++ check) :=
  ⟨_, rfl, rfl⟩

/-- The header fields of a unit that begins with the three bytes of a header (R2). -/
theorem headerFields (kind : Kind) (channel : Chan) (dest : Node) (toggle : Bool) (b2 : Byte)
    (rest : List Byte) :
    let unit := byteNat (kind.code * 16 + channel.val)
      :: byteNat (dest.val * 32 + (if toggle then 16 else 0)) :: b2 :: rest
    kindField unit = kind.code ∧ channelField unit = channel ∧ destField unit = dest
      ∧ toggleField unit = toggle ∧ zeroField unit = 0 ∧ lengthField unit = b2.toNat := by
  have hkind := kind.code_le
  have h0 : (byteNat (kind.code * 16 + channel.val)).toNat = kind.code * 16 + channel.val :=
    toNat_byteNat (by omega)
  have h1 : (byteNat (dest.val * 32 + (if toggle then 16 else 0))).toNat
      = dest.val * 32 + (if toggle then 16 else 0) := toNat_byteNat (by split <;> omega)
  have htoggle : ∀ (d : Node) (t : Bool), (byteNat (d.val * 32 + (if t then 16 else 0))).getLsbD 4 = t := by
    decide
  refine ⟨?_, ?_, ?_, htoggle dest toggle, ?_, rfl⟩
  · simp only [kindField, unitByte, List.getD_cons_zero, h0]; omega
  · simp only [channelField, unitByte, List.getD_cons_zero, h0]
    ext; simp
  · simp only [destField, unitByte, List.getD_cons_succ, List.getD_cons_zero, h1]
    ext; simp; split <;> omega
  · simp only [zeroField, unitByte, List.getD_cons_succ, List.getD_cons_zero, h1]
    split <;> omega

/-- The header check finds the fields of a frame built for a kind of the port (R6). -/
theorem headerCheck_buildFrame {port : Port} {kind : Kind} (channel : Chan) (dest : Node) (toggle : Bool)
    {payload : List Byte} (hlen : payload.length ≤ 32) (haccept : port.accepts kind = true) :
    headerCheck port (buildFrame kind channel dest toggle payload)
      = some { kind := kind, channel := channel, dest := dest, toggle := toggle, payload := payload
               raw := buildFrame kind channel dest toggle payload } := by
  obtain ⟨check, hcheck, hframe⟩ := buildFrame_eq_cons kind channel dest toggle payload
  rw [hframe]
  obtain ⟨hkind, hchannel, hdest, htoggle, hzero, hlength⟩ :=
    headerFields kind channel dest toggle (byteNat payload.length) (payload ++ check)
  rw [toNat_byteNat (by omega)] at hlength
  simp only [headerCheck, hkind, hchannel, hdest, htoggle, hzero, hlength, Kind.ofCode_code]
  rw [if_pos ⟨trivial, hlen, by simp [hcheck], haccept⟩]
  simp

/-- Settles O10: the frame check of a closed frame, then the header check field by field. -/
theorem builtFramePassesBothChecks : Obligations.BuiltFramePassesBothChecks := by
  intro port kind channel dest toggle payload hlen haccept
  refine ⟨frameCheckPasses_closeFrame ?_ ?_, headerCheck_buildFrame channel dest toggle hlen haccept⟩
  · simp [headerBytes]
  · simp [headerBytes]; omega

/-! ### The refusals of the header check -/

/-- The codes without a kind are 13 and above (R6). -/
theorem Kind.ofCode_eq_none_iff (n : Nat) : Kind.ofCode n = none ↔ 13 ≤ n := by
  constructor
  · intro h
    by_contra hn
    have : n < 13 := by omega
    interval_cases n <;> cases h
  · intro hn
    obtain ⟨m, rfl⟩ := Nat.exists_eq_add_of_le' hn
    rfl

/-- Settles O11: with no kind the check refuses, and with one it asks the four conditions. -/
theorem headerCheckRefusals : Obligations.HeaderCheckRefusals := by
  intro port unit hunit
  cases hk : Kind.ofCode (kindField unit) with
  | none => simp [headerCheck, hk, (Kind.ofCode_eq_none_iff _).1 hk]
  | some kind =>
    have h13 : ¬ 13 ≤ kindField unit := by
      rw [← Kind.ofCode_eq_none_iff, hk]; simp
    have hlen : lengthField unit + 5 = unit.length ↔ ¬ lengthField unit ≠ unit.length - 5 := by omega
    simp only [headerCheck, hk, ite_eq_right_iff, reduceCtorEq, imp_false, hlen, Config.maxPayload, h13, false_or,
      Option.some.injEq, exists_eq_left']
    simp only [← Nat.not_le, ← Bool.not_eq_true, ne_eq]
    tauto

end Sys2Proof.Machine
end

section
/-! PROOFS. The payloads of IDENT frames, the load cap of an admission and the live frame (R9, R116, R119). -/

namespace Sys2Proof.Machine

/-! ### Descriptors -/

@[simp] theorem DeclaredKind.ofCode_code (k : DeclaredKind) : DeclaredKind.ofCode k.kind.code = some k := by
  cases k <;> rfl

theorem DeclaredKind.ofCode_eq_some {n : Nat} {k : DeclaredKind} (h : DeclaredKind.ofCode n = some k) :
    n < 4 := by
  by_contra hn
  obtain ⟨m, rfl⟩ := Nat.exists_eq_add_of_le' (Nat.le_of_not_lt hn)
  cases h

/-- The three bytes of a descriptor, bit 6 of the third one set or not (R9). -/
def descriptorBytesWith (d : Descriptor × Bool) : List Byte :=
  [byteNat d.1.channel.val, byteNat d.1.kind.kind.code,
    byteNat ((if d.1.handshaked then 128 else 0) + (if d.2 then 64 else 0) + d.1.maxLength)]

theorem descriptorBytes_eq : descriptorBytes = fun d => descriptorBytesWith (d, false) := rfl

/-- A descriptor is read back from its bytes, whatever bit 6 is (R9). -/
theorem descriptorOf_bytes {d : Descriptor} (bit6 : Bool) (h : d.maxLength ≤ 32) :
    descriptorOf (byteNat d.channel.val) (byteNat d.kind.kind.code)
      (byteNat ((if d.handshaked then 128 else 0) + (if bit6 then 64 else 0) + d.maxLength)) = some d := by
  have hkind : d.kind.kind.code < 256 := by have := d.kind.kind.code_le; omega
  have hflags : ∀ (hs b : Bool) (n : Fin 33),
      (byteNat ((if hs then 128 else 0) + (if b then 64 else 0) + n.val)).toNat % 64 = n.val
      ∧ (byteNat ((if hs then 128 else 0) + (if b then 64 else 0) + n.val)).getLsbD 7 = hs := by
    decide
  obtain ⟨hlen, hbit⟩ := hflags d.handshaked bit6 ⟨d.maxLength, by omega⟩
  simp only at hlen hbit
  have hch : (byteNat d.channel.val).toNat = d.channel.val := toNat_byteNat (by omega)
  simp only [descriptorOf, hch, d.channel.isLt, dite_true, toNat_byteNat hkind, DeclaredKind.ofCode_code, hlen,
    hbit, Config.maxPayload, h, if_true]

theorem descriptorsOf_bytes {ds : List (Descriptor × Bool)} (h : ∀ d ∈ ds, d.1.maxLength ≤ 32) :
    descriptorsOf (ds.flatMap descriptorBytesWith) = some (ds.map Prod.fst) := by
  induction ds with
  | nil => rfl
  | cons d ds ih =>
    simp only [List.mem_cons, forall_eq_or_imp] at h
    simp [descriptorBytesWith, descriptorsOf, descriptorOf_bytes d.2 h.1, ih h.2]

theorem length_descriptorBytesWith (ds : List (Descriptor × Bool)) :
    (ds.flatMap descriptorBytesWith).length = 3 * ds.length := by
  induction ds with
  | nil => rfl
  | cons d ds ih => simp [ih, descriptorBytesWith]; omega

/-- What a descriptor that is read says of its bytes: each field is in its range (R9). -/
theorem descriptorOf_eq_some {b0 b1 b2 : Byte} {d : Descriptor} (h : descriptorOf b0 b1 b2 = some d) :
    b0.toNat = d.channel.val ∧ b1.toNat < 4 ∧ b2.toNat % 64 ≤ 32 := by
  simp only [descriptorOf] at h
  split at h
  · split at h
    · cases h
    · rename_i k hk
      split at h
      · cases h
        exact ⟨rfl, DeclaredKind.ofCode_eq_some hk, by assumption⟩
      · cases h
  · cases h

/-- What a list of descriptors that is read says of its bytes: three of them for each descriptor, in order. -/
theorem descriptorsOf_eq_some {bytes : List Byte} {ds : List Descriptor} (h : descriptorsOf bytes = some ds) :
    ∀ (j : Nat) (hj : j < ds.length),
      descriptorOf (unitByte bytes (3 * j)) (unitByte bytes (3 * j + 1)) (unitByte bytes (3 * j + 2))
        = some ds[j] := by
  induction bytes using descriptorsOf.induct generalizing ds with
  | case1 => cases h; intro j hj; cases hj
  | case2 b0 b1 b2 rest d ds' hds hd ih =>
    simp only [descriptorsOf, hd, hds, Option.some.injEq] at h
    subst h
    intro j hj
    cases j with
    | zero => exact hd
    | succ j => exact ih hds j (by simpa using hj)
  | case3 b0 b1 b2 rest hnone ih =>
    simp [descriptorsOf] at h
  | case4 bytes h1 h2 => simp [descriptorsOf] at h

theorem length_of_descriptorsOf {bytes : List Byte} {ds : List Descriptor} (h : descriptorsOf bytes = some ds) :
    bytes.length = 3 * ds.length := by
  induction bytes using descriptorsOf.induct generalizing ds with
  | case1 => cases h; rfl
  | case2 b0 b1 b2 rest d ds' hds hd ih =>
    simp only [descriptorsOf, hd, hds, Option.some.injEq] at h
    subst h
    simp [ih hds]; omega
  | case3 b0 b1 b2 rest hnone ih => simp [descriptorsOf] at h
  | case4 bytes h1 h2 => simp [descriptorsOf] at h

/-! ### Identities -/

/-- A well-formed payload is read back as its base, the load clamped and bit 6 of each descriptor ignored (R9). -/
theorem identityOf_bytes (cls revision layout load : Byte) {ds : List (Descriptor × Bool)} (h8 : ds.length ≤ 8)
    (hch : (ds.map fun d => d.1.channel).Nodup) (hmax : ∀ d ∈ ds, d.1.maxLength ≤ 32) :
    identityOf ([cls, revision, layout, load, byteNat ds.length] ++ ds.flatMap descriptorBytesWith)
      = some { cls := cls, revision := revision, layout := layout, requestedLoad := min load.toNat 40
               descriptors := ds.map Prod.fst } := by
  have hn : (byteNat ds.length).toNat = ds.length := toNat_byteNat (by omega)
  have hdistinct : channelsDistinct (ds.map Prod.fst) = true := by
    simpa [channelsDistinct, Function.comp_def] using hch
  simp only [List.cons_append, List.nil_append, identityOf, hn, length_descriptorBytesWith, h8, and_self, if_true,
    descriptorsOf_bytes hmax, hdistinct, Config.maxLoad]

/-- What a payload that is read says of its bytes: the count, the length, the descriptors and their channels. -/
theorem identityOf_eq_some {payload : List Byte} {i : Identity} (h : identityOf payload = some i) :
    payload.length = 5 + 3 * (unitByte payload 4).toNat ∧ (unitByte payload 4).toNat ≤ 8
      ∧ i.descriptors.length = (unitByte payload 4).toNat ∧ (i.descriptors.map Descriptor.channel).Nodup
      ∧ ∀ (j : Nat) (hj : j < i.descriptors.length),
        descriptorOf (unitByte payload (5 + 3 * j)) (unitByte payload (6 + 3 * j)) (unitByte payload (7 + 3 * j))
          = some i.descriptors[j] := by
  unfold identityOf at h
  split at h
  · rename_i cls revision layout load n rest
    split at h
    · rename_i hshape
      split at h
      · cases h
      · rename_i ds hds
        split at h
        · rename_i hdistinct
          cases h
          have hlen := length_of_descriptorsOf hds
          refine ⟨?_, hshape.1, ?_, by simpa [channelsDistinct] using hdistinct, fun j hj => ?_⟩
          · simp [unitByte, hshape.2]; omega
          · simp [unitByte]; omega
          · have hread := descriptorsOf_eq_some hds j hj
            have hshift : ∀ k, unitByte (cls :: revision :: layout :: load :: n :: rest) (k + 5)
                = unitByte rest k := fun _ => rfl
            rw [← hread, ← hshift, ← hshift, ← hshift]
            congr 2 <;> omega
        · cases h
    · cases h
  · cases h

/-- The cases in which the shape test refuses a payload (R9). -/
theorem identityOf_eq_none {payload : List Byte}
    (h : payload.length < 5 ∨ 8 < (unitByte payload 4).toNat
      ∨ payload.length ≠ 5 + 3 * (unitByte payload 4).toNat
      ∨ (∃ j k, j < k ∧ k < (unitByte payload 4).toNat
        ∧ unitByte payload (5 + 3 * j) = unitByte payload (5 + 3 * k))
      ∨ (∃ j, j < (unitByte payload 4).toNat ∧ (16 ≤ (unitByte payload (5 + 3 * j)).toNat
        ∨ 4 ≤ (unitByte payload (6 + 3 * j)).toNat
        ∨ 32 < (unitByte payload (7 + 3 * j)).toNat % 64))) :
    identityOf payload = none := by
  by_contra hne
  obtain ⟨i, hi⟩ := Option.ne_none_iff_exists'.1 hne
  obtain ⟨hlen, h8, hcount, hnodup, hread⟩ := identityOf_eq_some hi
  rcases h with h | h | h | ⟨j, k, hjk, hk, hsame⟩ | ⟨j, hj, hfield⟩
  · omega
  · omega
  · exact h hlen
  · -- two descriptors of one channel
    have hcj := (descriptorOf_eq_some (hread j (by omega))).1
    have hck := (descriptorOf_eq_some (hread k (by omega))).1
    have hch : (i.descriptors[j]'(by omega)).channel = (i.descriptors[k]'(by omega)).channel := by
      ext; rw [← hcj, ← hck, hsame]
    have hinj := hnodup.getElem_inj_iff (i := j) (j := k) (hi := by simp; omega) (hj := by simp; omega)
    simp only [List.getElem_map] at hinj
    exact absurd (hinj.1 hch) (by omega)
  · obtain ⟨hchannel, hkind, hmax⟩ := descriptorOf_eq_some (hread j (by omega))
    have := (i.descriptors[j]'(by omega)).channel.isLt
    omega

/-! ### The load cap of an admission -/

/-- The Base Class Table entries in order, each a member of the list that is searched. -/
theorem mem_classes {l : Link} {e : BaseClass} : e ∈ l.classes.toList ↔ ∃ i : Fin 4, l.classes[i] = e := by
  simp [Vector.mem_toList_iff, Vector.mem_iff_getElem, Fin.exists_iff]

/-- The condition under which an entry of the Base Class Table admits a base (R116). -/
def BaseClass.admits (e : BaseClass) (cls revision : Byte) : Bool :=
  e.valid && e.cls == cls && decide (e.minRevision.toNat ≤ revision.toNat)

theorem BaseClass.admits_iff {e : BaseClass} {cls revision : Byte} :
    e.admits cls revision = true
      ↔ e.valid = true ∧ e.cls = cls ∧ e.minRevision.toNat ≤ revision.toNat := by
  simp [BaseClass.admits, and_assoc]

theorem BaseClass.admits_eq_false_iff {e : BaseClass} {cls revision : Byte} :
    e.admits cls revision = false
      ↔ e.valid = false ∨ e.cls ≠ cls ∨ revision.toNat < e.minRevision.toNat := by
  cases hv : e.valid <;> simp [BaseClass.admits, hv, or_iff_not_imp_left]

/-- With a valid entry the first one that admits decides, and a base none admits is rejected (R116). -/
theorem admissionCap_of_valid {l : Link} {i : Fin 4} (hi : l.classes[i].valid = true) (cls revision : Byte) :
    l.admissionCap cls revision
      = (l.classes.toList.find? fun e => e.admits cls revision).map fun e => e.loadCap := by
  have hany : l.classes.toList.any (fun e => e.valid) = true :=
    List.any_eq_true.2 ⟨_, mem_classes.2 ⟨i, rfl⟩, hi⟩
  simp only [Link.admissionCap, hany, if_true]
  rfl

theorem admissionCap_of_none_valid {l : Link} (h : ∀ i : Fin 4, l.classes[i].valid = false)
    (cls revision : Byte) : l.admissionCap cls revision = some l.defaultLoad := by
  have hany : ¬ l.classes.toList.any (fun e => e.valid) = true := by
    simp only [List.any_eq_true, mem_classes, not_exists, not_and]
    rintro _ ⟨i, rfl⟩
    simpa using h i
  exact if_neg hany

theorem admissionCap_of_first {l : Link} {cls revision : Byte} {i : Fin 4}
    (hi : l.classes[i].admits cls revision = true)
    (hfirst : ∀ j : Fin 4, j < i → l.classes[j].admits cls revision = false) :
    l.admissionCap cls revision = some l.classes[i].loadCap := by
  have hvalid : l.classes[i].valid = true := (BaseClass.admits_iff.1 hi).1
  have hfind : l.classes.toList.find? (fun e => e.admits cls revision) = some l.classes[i] :=
    List.find?_eq_some_iff_getElem.2 ⟨hi, i.val, by simp, by simp, fun j hj => by
      have := hfirst ⟨j, by omega⟩ hj
      simpa using this⟩
  rw [admissionCap_of_valid hvalid, hfind]
  rfl

/-! ### The statement -/

/-- Settles O22: a payload's bytes against what is read of them, then the Base Class Table by its first entry that
admits, and the live frame by the state of the link. -/
theorem identityPayloadsAndAdmissionCaps : Obligations.IdentityPayloadsAndAdmissionCaps := by
  refine ⟨?read, ?clamped, fun _ => identityOf_eq_none, fun l cls revision => ⟨?none, ?first, ?rejected⟩,
    fun s => ⟨?attached, ?suspect, ?other⟩⟩
  case read =>
    intro i hload h8 hch hmax
    have hbytes := identityOf_bytes i.cls i.revision i.layout (byteNat i.requestedLoad)
      (ds := i.descriptors.map fun d => (d, false)) (by simpa using h8)
      (by simpa [Function.comp_def] using hch) (by simpa using hmax)
    rw [toNat_byteNat (by omega), Nat.min_eq_left hload] at hbytes
    rw [List.flatMap_map, List.map_map] at hbytes
    simpa [identityBytes, descriptorBytes_eq, Function.comp_def] using hbytes
  case clamped =>
    intro cls revision layout load ds h8 hch hmax
    have hmin : min load.toNat 40 = if 40 < load.toNat then 40 else load.toNat := by split <;> omega
    rw [← hmin]
    exact identityOf_bytes cls revision layout load h8 hch hmax
  case none => exact fun h => admissionCap_of_none_valid h cls revision
  case first =>
    intro i hvalid hcls hrev hfirst
    exact admissionCap_of_first (BaseClass.admits_iff.2 ⟨hvalid, hcls, hrev⟩)
      fun j hj => BaseClass.admits_eq_false_iff.2 (hfirst j hj)
  case rejected =>
    intro i hvalid hnone
    rw [admissionCap_of_valid hvalid, Option.map_eq_none_iff, List.find?_eq_none]
    intro e he
    obtain ⟨j, rfl⟩ := mem_classes.1 he
    simpa using BaseClass.admits_eq_false_iff.2 (hnone j)
  case attached => intro h; simp [liveFrame, h]
  case suspect => intro h; simp [liveFrame, h, moveLink, countLink, Link.at, State.setLink]
  case other =>
    intro ha hs
    simp only [liveFrame]

end Sys2Proof.Machine
end

section
/-! PROOFS. The two transmitters: their looks for work, the ends of what they send, the downstream handshake, the
teardown and the retries (R13, R14, R16, R20 to R22, R34 to R37, R104, R108). -/

namespace Sys2Proof.Machine

/-! ### Occasions -/

/-- A buffer-available event is the deliveries to the blocks that wait (R34). -/
theorem bufferAvailable_eq (s : State) :
    bufferAvailable s = { s with deliveries := s.deliveries ++ availableDeliveries s } :=
  congrArg (fun ds => { s with deliveries := ds }) (List.append_assoc s.deliveries _ _)

/-- A released buffer joins the tail of the Free List, with one buffer-available event (R34). -/
theorem releaseBuffer_eq_freed (i : BufIdx) (s : State) : releaseBuffer i s = freed i s :=
  bufferAvailable_eq _

/-- What a dequeue delivers: an emission occasion while a frame is owed, or the retries of a host-bound queue (R33,
R35, R37). -/
def dequeueDeliveries (q : QueueId) (s : State) : List Delivery :=
  match q with
  | .q0 => if s.mgmt.owesFrame then [.owedEmission] else []
  | .q1 => retryDeliveries (.dequeue .q1) s.gate
  | .q2 => retryDeliveries (.dequeue .q2) s.gate
  | .q3 => retryDeliveries (.dequeue .q3) s.gate
  | .qd => []

theorem dequeued_eq (q : QueueId) (s : State) :
    dequeued q s = { s with deliveries := s.deliveries ++ dequeueDeliveries q s } := by
  cases q with
  | q0 => simp only [dequeued, dequeueDeliveries]; split <;> simp [post, State.setDeliveries]
  | qd => simp [dequeued, dequeueDeliveries]
  | q1 | q2 | q3 => rfl

/-! ### The looks -/

theorem bGiven_iff {s t : State} :
    bGiven s t = true ↔ (t.bport.owed ≠ [] ∧ t.bport.owed ≠ s.bport.owed)
      ∨ (t.bport.pendingGrant ≠ none ∧ t.bport.pendingGrant ≠ s.bport.pendingGrant)
      ∨ (t.bport.pendingGrant ≠ none ∧ s.rail.grantPending = true ∧ t.rail.grantPending = false) := by
  simp [bGiven, and_or_left, Option.isSome_iff_ne_none]

/-- The S-port transmitter takes the head of the first queue that has one (R35). -/
theorem sLook_of_firstWaiting {s : State} {q : QueueId} {i : BufIdx} {rest : List BufIdx}
    (hsend : s.sport.sending = none) (hready : s.lines.hostReady = true)
    (hfirst : s.pool.firstWaiting = some q) (hitems : (s.pool.queue q).items = i :: rest) :
    sLook s = sendHead q i rest (dequeueDeliveries q s) s := by
  simp only [sLook, hsend, hready, Option.isNone_none, Bool.and_self, if_true, hfirst, Pool.takeHead, hitems,
    dequeued_eq]
  cases q <;> rfl

theorem sLook_of_nothing {s : State} (h : s.sport.sending ≠ none ∨ s.lines.hostReady = false
    ∨ (s.pool.q0.items = [] ∧ s.pool.q1.items = [] ∧ s.pool.q2.items = [] ∧ s.pool.q3.items = [])) :
    sLook s = s := by
  simp only [sLook]
  split
  · rename_i hidle
    simp only [Bool.and_eq_true, Option.isNone_iff_eq_none] at hidle
    rcases h with h | h | ⟨h0, h1, h2, h3⟩
    · exact absurd hidle.1 h
    · exact absurd (h.symm.trans hidle.2) (by decide)
    · have hnone : s.pool.firstWaiting = none := by simp [Pool.firstWaiting, Pool.queue, h0, h1, h2, h3]
      simp only [hnone]
  · rfl

theorem startPartOriginated_of_empty {frame : List Byte} {s : State} (h : s.pool.free = []) :
    startPartOriginated frame s = none := by
  simp only [startPartOriginated, h]

theorem bLook_of_busy {s : State} (h : s.bport.sending ≠ .idle) : bLook s = s := by
  simp only [bLook]

/-- An idle transmitter without an owed symbol tries the IDENT_REQ, the GRANT and the head of QD (R20). -/
theorem bLook_of_no_symbol {s : State} (hidle : s.bport.sending = .idle) (howed : s.bport.owed = []) :
    bLook s = (((startIdent s).or (startGrant s)).or (startDownstream s)).getD s := by
  simp [bLook, hidle, startSymbol, howed]

/-- Neither an IDENT_REQ nor a GRANT starts: none is pending, or there is no buffer for it (R20). -/
theorem startIdent_startGrant_none {s : State}
    (h : (s.bport.pendingIdent = false ∧ s.bport.pendingGrant = none) ∨ s.pool.free = []) :
    startIdent s = none ∧ startGrant s = none := by
  rcases h with ⟨hi, hg⟩ | hfree
  · simp [startIdent, startGrant, hi, hg]
  · have hf : (cancelIdent s).pool.free = [] := hfree
    simp only [startIdent, startGrant, startPartOriginated_of_empty hf]
    refine ⟨ite_self _, ?_⟩
    split
    · rfl
    · exact startPartOriginated_of_empty hfree

/-- Settles O14: the looks, item by item in the transmitters' order. -/
theorem transmittersLookForWork : Obligations.TransmittersLookForWork := by
  refine ⟨fun s t => ⟨?given, ?notGiven, rfl⟩, fun s => ⟨sLook_of_nothing, ?host, bLook_of_busy, ?base⟩⟩
  case given => exact fun h => if_pos (bGiven_iff.2 h)
  case notGiven => exact fun h => if_neg (mt bGiven_iff.1 h)
  case host =>
    intro hsend hready i rest
    refine ⟨fun h0 => ?_, fun h0 h1 => ?_, fun h0 h1 h2 => ?_, fun h0 h1 h2 h3 => ?_⟩
    · exact sLook_of_firstWaiting hsend hready (q := .q0) (by simp [Pool.firstWaiting, Pool.queue, h0]) h0
    · exact sLook_of_firstWaiting hsend hready (q := .q1) (by simp [Pool.firstWaiting, Pool.queue, h0, h1]) h1
    · exact sLook_of_firstWaiting hsend hready (q := .q2)
        (by simp [Pool.firstWaiting, Pool.queue, h0, h1, h2]) h2
    · exact sLook_of_firstWaiting hsend hready (q := .q3)
        (by simp [Pool.firstWaiting, Pool.queue, h0, h1, h2, h3]) h3
  case base =>
    intro hidle
    refine ⟨fun o rest howed => ?symbol, fun i rest howed hident hfree => ?ident,
      fun v i rest howed hident hgrant hfree => ?grant,
      fun howed hnone => ⟨fun hqd => ?nothing, fun i rest hawait hqd => ?downstream⟩⟩
    case symbol => simp [bLook, hidle, startSymbol, howed]
    case ident =>
      rw [bLook_of_no_symbol hidle howed]
      simp only [startIdent, hident, if_true, startPartOriginated, cancelIdent, State.setBport_pool, hfree]
      rfl
    case grant =>
      rw [bLook_of_no_symbol hidle howed]
      simp only [startIdent, hident, startGrant, hgrant, startPartOriginated, State.setBport_pool, hfree]
      rfl
    case nothing =>
      obtain ⟨hi, hg⟩ := startIdent_startGrant_none hnone
      rw [bLook_of_no_symbol hidle howed, hi, hg]
      rcases hqd with hawait | hqd
      · simp [startDownstream, Option.isSome_iff_ne_none, hawait]
      · simp [startDownstream, Pool.takeHead, Pool.queue, hqd]
    case downstream =>
      obtain ⟨hi, hg⟩ := startIdent_startGrant_none hnone
      rw [bLook_of_no_symbol hidle howed, hi, hg]
      simp only [startDownstream, hawait, Pool.takeHead, Pool.queue, hqd]
      rfl

/-! ### The ends of what the transmitters send -/

/-- Settles O18: each end by what the transmitter it concerns is sending. -/
theorem transmitterEvents : Obligations.TransmitterEvents := by
  intro s
  refine ⟨fun _ => rfl, fun i h => ?_, fun h => ?_, fun y c o rest h howed => ?_, fun h => ?_, fun i h => ?_,
    fun h => ?_, fun i h => ?_, fun h => ?_⟩ <;> refine congrArg Host.Outcome.next ?_
  · simp only [hostFrameSent, h, releaseBuffer_eq_freed]
  · simp only [hostFrameSent, h]
  · simp only [symbolSent, h, howed, afterSymbol]
  · simp only [symbolSent]
  · simp only [partFrameSent, h, releaseBuffer_eq_freed]
  · simp only [partFrameSent]
  · simp only [downFrameSent, h, Config.handshakeWait]
  · simp only [downFrameSent]

/-! ### The downstream handshake -/

theorem SymbolType.ofCode_eq_none_iff (n : Nat) : SymbolType.ofCode n = none ↔ n = 0 ∨ 4 ≤ n := by
  constructor
  · intro h
    by_contra hn
    have hlow : 1 ≤ n := by omega
    have hhigh : n ≤ 3 := by omega
    interval_cases n <;> cases h
  · rintro (rfl | hn)
    · rfl
    · obtain ⟨m, rfl⟩ := Nat.exists_eq_add_of_le' hn
      rfl

theorem symbolChannel_eq_iff (b : Byte) (c : Chan) : symbolChannel b = c ↔ b.toNat % 16 = c.val := by
  simp [symbolChannel, Fin.ext_iff]

section
variable {b : Byte} {i : BufIdx} {s : State}

/-- An ACK on the channel of the frame awaited (R21). -/
theorem takeSymbol_of_ack (hawait : s.bport.awaiting = some i)
    (hch : b.toNat % 16 = (channelField s.pool.bufs[i]).val) (h : SymbolType.ofCode (b.toNat / 16) = some .ack) :
    takeSymbol b s = bLook (acknowledge i s) := by
  simp only [takeSymbol, hawait, frameChannel, symbolChannel_eq_iff, hch, if_true, h]

/-- A NAK or HALT on the channel of the frame awaited (R21). -/
theorem takeSymbol_of_refusal (hawait : s.bport.awaiting = some i)
    (hch : b.toNat % 16 = (channelField s.pool.bufs[i]).val)
    (h : SymbolType.ofCode (b.toNat / 16) = some .nak ∨ SymbolType.ofCode (b.toNat / 16) = some .halt) :
    takeSymbol b s = bLook (dropAwaited i s) := by
  rcases h with h | h <;>
    simp only [takeSymbol, hawait, frameChannel, symbolChannel_eq_iff, hch, if_true, h]

/-- A symbol of no type, on another channel, or while no frame awaits its handshake, is a stray (R21). -/
theorem takeSymbol_of_stray (h : ∀ i, s.bport.awaiting = some i →
    b.toNat % 16 = (channelField s.pool.bufs[i]).val → SymbolType.ofCode (b.toNat / 16) = none) :
    takeSymbol b s = countStray s := by
  simp only [takeSymbol]
  split
  · rfl
  next i hawait =>
    split
    next hch => simp only [h i hawait ((symbolChannel_eq_iff b _).1 hch)]
    next => rfl

end

/-- Settles O19: the symbol's channel, then its type, against the frame awaited. -/
theorem downstreamHandshake : Obligations.DownstreamHandshake := by
  intro s b
  refine ⟨fun i hawait hch => ⟨fun h => ?ack, fun h => ?nak, fun h => ?other⟩, fun i hawait hch => ?channel,
    fun hawait => ?none, fun i hawait hdue => ?expiry⟩ <;> refine congrArg Host.Outcome.next ?_
  case ack =>
    rw [takeSymbol_of_ack hawait hch (congrArg SymbolType.ofCode h)]
    exact congrArg bLook (releaseBuffer_eq_freed i _)
  case nak =>
    have hdrop := releaseBuffer_eq_freed i (s.setBport { s.bport with
      awaiting := none, handshakeWait := none
      counters := { s.bport.counters with downFailed := satInc s.bport.counters.downFailed } })
    rw [takeSymbol_of_refusal hawait hch
      (h.imp (fun h => congrArg SymbolType.ofCode h) fun h => congrArg SymbolType.ofCode h)]
    exact congrArg (fun t => bLook (t.setDeliveries (t.deliveries ++ [.event .downFail]))) hdrop
  case other => exact takeSymbol_of_stray fun _ _ _ => (SymbolType.ofCode_eq_none_iff _).2 h
  case channel => exact takeSymbol_of_stray fun j hj hc => by cases hawait.symm.trans hj; exact absurd hc hch
  case none => exact takeSymbol_of_stray fun j hj => by cases hawait.symm.trans hj
  case expiry =>
    simp only [handshakeExpired, hawait, Timer.due_iff.2 hdue, if_true, dropAwaited, releaseBuffer_eq_freed]
    rfl

/-! ### Deliveries at the front of their route -/

/-- What is done with a delivery at the front of its route. -/
theorem taking_of_front {α : Type} {sel : Delivery → Option α} {d : Delivery} {a : α}
    {before after : List Delivery} {s : State} (h : Front d before after s) (hd : sel d = some a)
    (f : α → State → State) : taking d.route sel f s = f a (s.setDeliveries (before ++ after)) := by
  simp only [taking, h.1, takeNext_front sel d a before after hd h.2]

theorem takingOne_of_front {d : Delivery} {before after : List Delivery} {s : State}
    (h : Front d before after s) (f : State → State) :
    takingOne d f s = f (s.setDeliveries (before ++ after)) :=
  taking_of_front (a := ()) h (by simp) _

/-! ### Retries -/

theorem concerns_of_waiting {o : RetryOccasion} {w : PendingSynthetic}
    (h : o = .bufferAvailable ∨ o = .dequeue w.queue) : o.concerns (some w) = true := by
  rcases h with rfl | rfl <;> simp [RetryOccasion.concerns]

section
variable {o : RetryOccasion} {w : PendingSynthetic} {s : State}

theorem tryRelease_of_waiting (hw : s.gate.key.pending = some w) (ho : o = .bufferAvailable ∨ o = .dequeue w.queue) :
    tryRelease o s = retryRelease s :=
  if_pos ((congrArg o.concerns hw).trans (concerns_of_waiting ho))

theorem tryLift_of_waiting (hw : s.gate.pad.pending = some w) (ho : o = .bufferAvailable ∨ o = .dequeue w.queue) :
    tryLift o s = retryLift s :=
  if_pos ((congrArg o.concerns hw).trans (concerns_of_waiting ho))

/-- A placed release is no longer pending and is counted (R104). -/
theorem retryRelease_of_placed (hw : s.gate.key.pending = some w)
    (h : (placeSynthetic w.queue (releaseFrame w.channel) s).1 = true) :
    retryRelease s = setKey { s.gate.key with
      pending := none
      counters := { s.gate.key.counters with releases := satInc s.gate.key.counters.releases } }
        (placeSynthetic w.queue (releaseFrame w.channel) s).2 := by
  have hgate : (placeSynthetic w.queue (releaseFrame w.channel) s).2.gate = s.gate := by simp
  simp only [retryRelease, hw]
  split
  next t heq => rw [heq] at hgate ⊢; simp only [← hgate]
  next t heq => rw [heq] at h; cases h

/-- A placed lift is no longer pending and is counted (R108). -/
theorem retryLift_of_placed (hw : s.gate.pad.pending = some w)
    (h : (placeSynthetic w.queue (liftFrame w.channel) s).1 = true) :
    retryLift s = setPad { s.gate.pad with
      pending := none
      counters := { s.gate.pad.counters with lifts := satInc s.gate.pad.counters.lifts } }
        (placeSynthetic w.queue (liftFrame w.channel) s).2 := by
  have hgate : (placeSynthetic w.queue (liftFrame w.channel) s).2.gate = s.gate := by simp
  simp only [retryLift, hw]
  split
  next t heq => rw [heq] at hgate ⊢; simp only [← hgate]
  next t heq => rw [heq] at h; cases h

/-- A placement of a synthetic frame that fails leaves everything as it was (R29). -/
theorem placeSynthetic_of_failed {q : HostQueue} {frame : List Byte}
    (h : (placeSynthetic q frame s).1 = false) : placeSynthetic q frame s = (false, s) := by
  simp only [placeSynthetic] at h ⊢
  split <;> simp_all

theorem retryRelease_of_failed (hw : s.gate.key.pending = some w)
    (h : (placeSynthetic w.queue (releaseFrame w.channel) s).1 = false) : retryRelease s = s := by
  simp only [retryRelease, hw, placeSynthetic_of_failed h]

theorem retryLift_of_failed (hw : s.gate.pad.pending = some w)
    (h : (placeSynthetic w.queue (liftFrame w.channel) s).1 = false) : retryLift s = s := by
  simp only [retryLift, hw, placeSynthetic_of_failed h]

end

/-- Settles O39: each retry is the oldest delivery of its route, and acts where its occasion concerns what waits. -/
theorem retriesOfWaitingItems : Obligations.RetriesOfWaitingItems := by
  intro before after o s
  refine ⟨fun h => congrArg _ (takingOne_of_front h _), fun h => ?release, fun h => ?lift⟩
  case release =>
    have hexec : exec .releaseRetry s = .next (sLook (tryRelease o (s.setDeliveries (before ++ after)))) :=
      congrArg Host.Outcome.next (taking_of_front (sel := releaseOccasion) h rfl _)
    rw [hexec]
    refine ⟨fun hno => congrArg _ (congrArg sLook (if_neg (by simp [hno]))), fun w hw ho => ?_⟩
    rw [tryRelease_of_waiting (s := s.setDeliveries (before ++ after)) hw ho]
    exact ⟨fun hr => congrArg _ (congrArg sLook (retryRelease_of_placed hw hr)),
      fun hr => congrArg _ (congrArg sLook (retryRelease_of_failed hw hr))⟩
  case lift =>
    have hexec : exec .liftRetry s = .next (sLook (tryLift o (s.setDeliveries (before ++ after)))) :=
      congrArg Host.Outcome.next (taking_of_front (sel := liftOccasion) h rfl _)
    rw [hexec]
    refine ⟨fun hno => congrArg _ (congrArg sLook (if_neg (by simp [hno]))), fun w hw ho => ?_⟩
    rw [tryLift_of_waiting (s := s.setDeliveries (before ++ after)) hw ho]
    exact ⟨fun hr => congrArg _ (congrArg sLook (retryLift_of_placed hw hr)),
      fun hr => congrArg _ (congrArg sLook (retryLift_of_failed hw hr))⟩

/-! ### Admission and teardown -/

theorem abandon_eq (i : BufIdx) (s : State) : abandon i s = freed i (s.setBport { s.bport with counters :=
    { s.bport.counters with downAbandoned := satInc s.bport.counters.downAbandoned } }) :=
  releaseBuffer_eq_freed i _

/-- The flush of QD, whose buffers join the Free List with one buffer-available event if there are any (R37). -/
theorem flushQueue_qd (s : State) : flushQueue .qd s = { s with
    pool := { s.pool with
      free := s.pool.free ++ s.pool.qd.items
      qd := { s.pool.qd with
        items := []
        counters := { s.pool.qd.counters with
          flushed := satAdd s.pool.qd.counters.flushed s.pool.qd.items.length } } }
    deliveries := s.deliveries ++ if s.pool.qd.items = [] then [] else availableDeliveries s } := by
  by_cases hqd : s.pool.qd.items = []
  · rw [if_pos hqd, List.append_nil]
    exact if_pos hqd
  · rw [if_neg hqd]
    exact (if_neg hqd).trans (bufferAvailable_eq _)

/-- Settles O40: the two deliveries of an admission or teardown, the teardown by what was being sent and awaited. -/
theorem bPortAtAdmissionAndTeardown : Obligations.BPortAtAdmissionAndTeardown := by
  intro before after s
  refine ⟨fun h => congrArg _ (takingOne_of_front h _), fun h => ?_⟩
  refine (congrArg Host.Outcome.next (takingOne_of_front h _)).trans ?_
  refine congrArg (fun t => Host.Outcome.next (bLook t)) ((flushQueue_qd _).trans ?_)
  rw [State.setDeliveries_bport]
  cases s.bport.sending <;> cases s.bport.awaiting <;> simp only [cutShort, abandon_eq, releaseBuffer_eq_freed] <;> rfl

end Sys2Proof.Machine
end

section
/-! PROOFS. The Link Monitor: its moves written out, the expiries of its timers, and the identity frames it is handed
(R64, R111 to R122). -/

namespace Sys2Proof.Machine

/-! ### Moves of the link written out -/

/-- A move of the link: its state, its timers, and what it leaves of the IDENT_REQ (R20, R111). -/
theorem moveLink_eq (x : LinkState) (t : LinkTimers) (s : State) : moveLink x t s = { s with
    link := { s.link.at x t.debounce t.ident t.alive with
      attempts := if x = .detached then 0 else s.link.attempts }
    bport := { s.bport with pendingIdent :=
      if s.link.state = .identify ∧ x ≠ .identify then false else s.bport.pendingIdent } } := by
  simp only [moveLink]
  by_cases h : s.link.state = .identify ∧ x ≠ .identify
  · rw [if_pos h, if_pos h]; rfl
  · rw [if_neg h, if_neg h]; rfl

/-- A request of an identity (R113, R114). -/
theorem askIdentity_eq (n : Nat) (s : State) : askIdentity n s = { s with
    link := { s.link.at .identify none (some s.link.timing.identTimeout) none with
      attempts := n
      counters := { s.link.counters with identRequests := satInc s.link.counters.identRequests } }
    bport := { s.bport with pendingIdent := true } } := by
  simp only [askIdentity, moveLink_eq]; rfl

/-- REJECTED with its reason (R111, R114 to R116). -/
theorem enterRejected_eq (r : RejectReason) (s : State) : enterRejected r s = { s with
    link := { s.link.at .rejected none none none with
      lastReject := r
      counters := { s.link.counters with rejections := satInc s.link.counters.rejections } }
    bport := { s.bport with
      pendingIdent := if s.link.state = .identify then false else s.bport.pendingIdent }
    deliveries := s.deliveries ++ [.event .reject] } := by
  simp only [enterRejected, moveLink_eq, ne_eq, reduceCtorEq, not_false_eq_true, and_true]; rfl

/-- An admission (R117, R118). -/
theorem admitBase_eq (i : Identity) (cap : Nat) (s : State) : admitBase i cap s = { s with
    link := { s.link.at .attached none none (some s.link.timing.aliveWindow) with
      record := { valid := true, cls := i.cls, revision := i.revision, layout := i.layout
                  requestedLoad := i.requestedLoad, loadCap := cap, attachTime := s.time
                  descriptors := i.descriptors }
      counters := { s.link.counters with admissions := satInc s.link.counters.admissions } }
    bport := { s.bport with
      pendingIdent := if s.link.state = .identify then false else s.bport.pendingIdent }
    deliveries := s.deliveries ++
      [.toggleAndHaltReset, .postureAdmission, .admissionGrant, .event .attach, .wakeSource .attach] } := by
  simp only [admitBase, moveLink_eq, ne_eq, reduceCtorEq, not_false_eq_true, and_true]; rfl

/-- A move of the link out of another state than IDENTIFY leaves the B-port alone. -/
theorem moveLink_of_not_identify {s : State} (h : s.link.state ≠ .identify) (x : LinkState) (t : LinkTimers) :
    moveLink x t s = s.setLink { s.link.at x t.debounce t.ident t.alive with
      attempts := if x = .detached then 0 else s.link.attempts } := by
  rw [moveLink_eq, if_neg fun hm => h hm.1]; rfl

/-! ### Timers -/

/-- A tear down at the end of the Alive Window, then the state PRESENCE calls for (R119, R120). -/
theorem aliveExpired_of_suspect {s : State} (h : s.link.state = .suspect) :
    aliveExpired s = if s.lines.presence then enterContact (teardown .silence s)
      else moveLink .detached {} (teardown .silence s) := by
  simp only [aliveExpired, h, teardown_frame]

/-- Settles O21: each expiry in the state its timer runs in. -/
theorem linkTimerExpiries : Obligations.LinkTimerExpiries := by
  intro s
  refine ⟨fun h hdue => ?debounce, fun h hdue hless => ?again, fun h hdue hmost => ?noAnswer, fun h hdue => ?window,
    fun h hdue hp => ?contact, fun h hdue hp => ?detached, fun hdue => ?fresh⟩ <;>
    refine congrArg Host.Outcome.next ?_
  case debounce =>
    rw [if_pos ⟨h, Timer.due_iff.2 hdue⟩]
    exact congrArg bLook (askIdentity_eq 1 s)
  case again =>
    rw [if_pos ⟨h, Timer.due_iff.2 hdue⟩, identExpired,
      if_pos (show s.link.attempts < Config.identAttempts from hless), askIdentity_eq]
    rfl
  case noAnswer =>
    rw [if_pos ⟨h, Timer.due_iff.2 hdue⟩, identExpired,
      if_neg (show ¬ s.link.attempts < Config.identAttempts from Nat.not_lt.2 hmost), enterRejected_eq, if_pos h]
    rfl
  case window =>
    rw [if_pos (Timer.due_iff.2 hdue)]
    simp only [aliveExpired, h, moveLink_of_not_identify (s := s) (by simp [h])]
    rfl
  case contact =>
    rw [if_pos (Timer.due_iff.2 hdue), aliveExpired_of_suspect h, if_pos hp, enterContact,
      moveLink_of_not_identify (s := teardown .silence s) (by simp [teardown, countLink, postAll, h])]
    rfl
  case detached =>
    rw [if_pos (Timer.due_iff.2 hdue), aliveExpired_of_suspect h, if_neg (by simp [hp]),
      moveLink_of_not_identify (s := teardown .silence s) (by simp [teardown, countLink, postAll, h])]
    rfl
  case fresh => exact if_pos (Timer.due_iff.2 hdue)

/-! ### Live frames -/

theorem liveFrame_of_not_known {s : State} (ha : s.link.state ≠ .attached) (hs : s.link.state ≠ .suspect) :
    liveFrame s = s := by
  simp only [liveFrame]

/-- A live frame concerns the link alone, and of it the state, the timers and the recoveries (R119). -/
theorem liveFrame_bport (s : State) : (liveFrame s).bport = s.bport := by
  simp only [liveFrame]
  split
  · rfl
  next h => simp [moveLink_of_not_identify (s := s) (by simp [h])]
  · rfl

theorem liveFrame_link (s : State) :
    (liveFrame s).link.state = (if s.link.state = .suspect then .attached else s.link.state)
      ∧ (liveFrame s).link.timing = s.link.timing ∧ (liveFrame s).link.record = s.link.record
      ∧ (liveFrame s).link.classes = s.link.classes ∧ (liveFrame s).link.defaultLoad = s.link.defaultLoad := by
  simp only [liveFrame]
  split <;> simp_all [countLink]

/-! ### Units at the B-port -/

theorem receiveB_of_frame {unit : List Byte} {f : Frame} (hcheck : frameCheckPasses unit = true)
    (hheader : headerCheck .b unit = some f) (s : State) :
    receiveB unit s = takeBaseFrame f (stagedAtB unit s) := by
  simp only [receiveB, hcheck, hheader, if_true]; rfl

theorem bPortUnit_eq {b0 b1 : Byte} {rest : List Byte} {f : Frame} {s v : State}
    (hcheck : frameCheckPasses (b0 :: b1 :: rest) = true) (hheader : headerCheck .b (b0 :: b1 :: rest) = some f)
    (h : takeBaseFrame f (stagedAtB (b0 :: b1 :: rest) s) = v) :
    exec (.bPortUnitCompleted b0 b1 rest) s = .next (lookAfter s v) :=
  congrArg (fun x => Host.Outcome.next (lookAfter s x)) ((receiveB_of_frame hcheck hheader s).trans h)

/-! ### Identities by the state of the link -/

section
variable {i : Identity} {s : State}

theorem takeIdentity_of_unready (h : s.link.state = .detached ∨ s.link.state = .contact) :
    takeIdentity i s = countLink (fun c => { c with ignoredIdents := satInc c.ignoredIdents }) s := by
  rcases h with h | h <;> simp only [takeIdentity, h]

theorem takeIdentity_of_asked (h : s.link.state = .identify ∨ s.link.state = .rejected) :
    takeIdentity i s = checkAdmission i s := by
  rcases h with h | h <;> simp only [takeIdentity, h]

theorem takeIdentity_of_known (h : s.link.state = .attached ∨ s.link.state = .suspect) :
    takeIdentity i s = checkAdmission i (teardown .reident s) := by
  rcases h with h | h <;> simp only [takeIdentity, h]

theorem checkAdmission_of_some {cap : Nat} (h : s.link.admissionCap i.cls i.revision = some cap) :
    checkAdmission i s = admitBase i cap s := by
  simp only [checkAdmission, h]

theorem checkAdmission_of_none (h : s.link.admissionCap i.cls i.revision = none) :
    checkAdmission i s = enterRejected .cls s := by
  simp only [checkAdmission, h]

theorem takeMalformed_of_known (h : s.link.state = .attached ∨ s.link.state = .suspect) :
    takeMalformed s = enterRejected .shape (teardown .reident s) := by
  rcases h with h | h <;> simp [takeMalformed, h, LinkState.attachedOrSuspect]

theorem takeMalformed_of_not_known (h : ¬ (s.link.state = .attached ∨ s.link.state = .suspect)) :
    takeMalformed s = enterRejected .shape s := by
  have hknown : s.link.state.attachedOrSuspect = false := by
    cases hx : s.link.state <;> simp_all [LinkState.attachedOrSuspect]
  simp [takeMalformed, hknown]

end

/-- Settles O23: what the frame's kind and the link's state make of it. -/
theorem identityFramesAtTheBPort : Obligations.IdentityFramesAtTheBPort := by
  intro b0 b1 rest f s hcheck hheader u t gone admitted rejected known answer
  obtain ⟨hlive, htiming, -, hclasses, hload⟩ := liveFrame_link (stagedAtB (b0 :: b1 :: rest) s)
  have hstate : t.link.state = if s.link.state = .suspect then .attached else s.link.state := hlive
  have hcap : ∀ cls revision, t.link.admissionCap cls revision = s.link.admissionCap cls revision := fun _ _ => by
    simp only [Link.admissionCap, show t.link.classes = s.link.classes from hclasses,
      show t.link.defaultLoad = s.link.defaultLoad from hload]
  have hidentify : t.link.state = .identify ↔ s.link.state = .identify := by
    rw [hstate]; split <;> simp_all
  have hknown : known ↔ t.link.state = .attached ∨ t.link.state = .suspect := by
    rw [hstate]; split <;> simp_all [known]
  have htime : t.time = s.time := (liveFrame_frame (stagedAtB (b0 :: b1 :: rest) s)).1
  have hadmit : ∀ i cap v, v.link.timing = s.link.timing → v.time = s.time →
      (v.link.state = .identify ↔ s.link.state = .identify) → admitBase i cap v = admitted i cap v := by
    intro i cap v htiming htime hidentify
    simp only [admitBase_eq, htiming, htime, hidentify, admitted]
  have hreject : ∀ r v, (v.link.state = .identify ↔ s.link.state = .identify) →
      enterRejected r v = rejected r v := by
    intro r v hidentify
    simp only [enterRejected_eq, hidentify, rejected]
  refine ⟨fun hk => bPortUnit_eq hcheck hheader ?_, fun hk => ?_⟩
  · simp only [takeBaseFrame, hk]; rfl
  have htake : ∀ v, takeIdent f.payload t = v → answer v := fun v hv => bPortUnit_eq hcheck hheader (by
    simp only [takeBaseFrame, hk]; exact hv)
  refine ⟨fun i hi => ?wellShaped, fun hi => ?malformed⟩
  case malformed =>
    have htake' : ∀ v, takeMalformed t = v → answer v := fun v hv => htake v (by simp only [takeIdent, hi, hv])
    exact ⟨fun h => htake' _ ((takeMalformed_of_not_known (mt hknown.2 h)).trans (hreject .shape t hidentify)),
      fun h => htake' _ ((takeMalformed_of_known (hknown.1 h)).trans (hreject .shape gone hidentify))⟩
  case wellShaped =>
    have htake' : ∀ v, takeIdentity i t = v → answer v := fun v hv => htake v (by simp only [takeIdent, hi, hv])
    have hasked : s.link.state = .identify ∨ s.link.state = .rejected → takeIdentity i t = checkAdmission i t :=
      fun h => takeIdentity_of_asked (by rw [hstate]; rcases h with h | h <;> simp [h])
    have hgone : known → takeIdentity i t = checkAdmission i gone := fun h => takeIdentity_of_known (hknown.1 h)
    refine ⟨fun h => htake' _ (takeIdentity_of_unready (by rw [hstate]; rcases h with h | h <;> simp [h])),
      fun cap hsome => ⟨fun h => htake' _ ((hasked h).trans ?_), fun h => htake' _ ((hgone h).trans ?_)⟩,
      fun hnone => ⟨fun h => htake' _ ((hasked h).trans ?_), fun h => htake' _ ((hgone h).trans ?_)⟩⟩
    · exact (checkAdmission_of_some ((hcap _ _).trans hsome)).trans (hadmit i cap t htiming htime hidentify)
    · exact (checkAdmission_of_some (s := gone) ((hcap _ _).trans hsome)).trans
        (hadmit i cap gone htiming htime hidentify)
    · exact (checkAdmission_of_none ((hcap _ _).trans hnone)).trans (hreject .cls t hidentify)
    · exact (checkAdmission_of_none (s := gone) ((hcap _ _).trans hnone)).trans (hreject .cls gone hidentify)

end Sys2Proof.Machine
end

section
/-! PROOFS. Reception at the B-port: what is rejected and logged, the channel checks with the symbols they make
owed, and the outcome of classification (R11 to R16, R54, R55). -/

namespace Sys2Proof.Machine

/-! ### The log -/

/-- An error fills a clear log (R55). -/
theorem reportError_of_clear {s : State} (h : s.classifier.log.valid = false) (reason : LogReason) (port : Port)
    (unit : List Byte) : reportError reason port unit s = { s with
      classifier := { s.classifier with log :=
        { valid := true, reason := reason, port := port
          kind := BitVec.ofNat 4 ((unitByte unit 0).toNat / 16)
          channel := BitVec.ofNat 4 ((unitByte unit 0).toNat % 16)
          dest := BitVec.ofNat 3 ((unitByte unit 1).toNat / 32)
          length := unitByte unit 2, time := s.time, overflow := s.classifier.log.overflow } }
      deliveries := s.deliveries ++ [.event .log] } := by
  have hdest : (unitByte unit 1).toNat / 32 % 8 = (unitByte unit 1).toNat / 32 := by omega
  have hchannel : (channelField unit).val = (unitByte unit 0).toNat % 16 := by simp [channelField]
  have hnode : (destField unit).val = (unitByte unit 1).toNat / 32 := by simp [destField, hdest]
  simp only [reportError, h, hchannel, hnode]
  rfl

/-- With the log filled an error is counted alone (R55). -/
theorem reportError_of_filled {s : State} (h : s.classifier.log.valid = true) (reason : LogReason) (port : Port)
    (unit : List Byte) : reportError reason port unit s = s.setClassifier { s.classifier with log :=
      { s.classifier.log with overflow := min (s.classifier.log.overflow + 1) 255 } } := by
  simp only [reportError, h, if_true]; rfl

/-! ### Units refused by the two checks -/

theorem receiveB_of_checkFailure {unit : List Byte} (h : frameCheckPasses unit = false) (s : State) :
    receiveB unit s = reportError .crc .b unit
      (countB (fun k => { k with checkFailures := satInc k.checkFailures }) (stagedAtB unit s)) := by
  simp only [receiveB, h]; rfl

theorem receiveB_of_headerError {unit : List Byte} (hcheck : frameCheckPasses unit = true)
    (hheader : headerCheck .b unit = none) (s : State) :
    receiveB unit s = reportError .header .b unit
      (countB (fun k => { k with headerErrors := satInc k.headerErrors }) (stagedAtB unit s)) := by
  simp only [receiveB, hcheck, hheader, if_true]; rfl

/-- A frame the header check finds keeps the unit it came in (R2, R6). -/
theorem headerCheck_raw {port : Port} {unit : List Byte} {f : Frame} (h : headerCheck port unit = some f) :
    f.raw = unit := by
  simp only [headerCheck] at h
  split at h
  · cases h
  · split at h
    · cases h; rfl
    · cases h

/-! ### The attached base -/

theorem takeBaseFrame_of_other {f : Frame} (hi : f.kind ≠ .ident) (ha : f.kind ≠ .alive) (s : State) :
    takeBaseFrame f s = checkAttached f (liveFrame s) := by
  simp only [takeBaseFrame]

/-- A live frame leaves the link attached where it was attached or suspect, with the descriptors of its base. -/
theorem liveFrame_known {s : State} (h : s.link.state = .attached ∨ s.link.state = .suspect) :
    (liveFrame s).link.state.attachedOrSuspect = true := by
  rw [(liveFrame_link s).1]
  rcases h with h | h <;> simp [h, LinkState.attachedOrSuspect]

theorem liveFrame_descriptor (s : State) (c : Chan) :
    (liveFrame s).link.descriptor c = s.link.descriptor c := by
  obtain ⟨-, -, hrecord, -, -⟩ := liveFrame_link s
  simp only [Link.descriptor, hrecord]

section
variable {f : Frame} {s : State}

theorem checkAttached_of_not_known (ha : s.link.state ≠ .attached) (hs : s.link.state ≠ .suspect) :
    checkAttached f s = reportError .notAttached .b f.raw
      (countB (fun k => { k with notAttached := satInc k.notAttached }) s) := by
  have hknown : s.link.state.attachedOrSuspect = false := by
    cases hx : s.link.state <;> simp_all [LinkState.attachedOrSuspect]
  simp [checkAttached, hknown]

theorem checkAttached_of_undeclared (hknown : s.link.state.attachedOrSuspect = true)
    (h : s.link.descriptor f.channel = none) :
    checkAttached f s = reportError .undeclared .b f.raw
      (countB (fun k => { k with undeclared := satInc k.undeclared }) s) := by
  simp only [checkAttached, hknown, h, if_true]

theorem checkAttached_of_mismatch {d : Descriptor} (hknown : s.link.state.attachedOrSuspect = true)
    (h : s.link.descriptor f.channel = some d) (hkind : f.kind ≠ d.kind.kind) :
    checkAttached f s = reportError .kindMismatch .b f.raw
      (countB (fun k => { k with kindMismatch := satInc k.kindMismatch }) s) := by
  simp only [checkAttached, hknown, h, hkind, if_true, if_false]

theorem checkAttached_of_declared {d : Descriptor} (hknown : s.link.state.attachedOrSuspect = true)
    (h : s.link.descriptor f.channel = some d) (hkind : f.kind = d.kind.kind) :
    checkAttached f s = checkDeclared d f s := by
  simp only [checkAttached, hknown, h, hkind, if_true]

end

/-- The B-port's count of a rejected unit after a live frame, whose counters are those of the unit staged. -/
theorem countB_liveFrame (g : BCounters → BCounters) (s : State) : countB g (liveFrame s) =
    (liveFrame s).setBport { (liveFrame s).bport with counters := g s.bport.counters } := by
  simp only [countB, liveFrame_bport]

/-- Settles O24: the log clear and filled, then the checks in their order. -/
theorem bPortRejectionsAndTheLog : Obligations.BPortRejectionsAndTheLog := by
  refine ⟨fun reason port unit s => ⟨fun h => reportError_of_clear h reason port unit,
    fun h => reportError_of_filled h reason port unit⟩, ?_⟩
  intro b0 b1 rest s unit t k logged
  refine ⟨fun h => congrArg (fun x => Host.Outcome.next (lookAfter s x)) (receiveB_of_checkFailure h s),
    fun hcheck hheader => congrArg (fun x => Host.Outcome.next (lookAfter s x))
      (receiveB_of_headerError hcheck hheader s), fun f hcheck hheader hi ha => ?_⟩
  have hchecked : ∀ v, checkAttached f (liveFrame t) = v →
      exec (.bPortUnitCompleted b0 b1 rest) s = .next (lookAfter s v) := fun v hv =>
    bPortUnit_eq hcheck hheader ((takeBaseFrame_of_other hi ha t).trans hv)
  refine ⟨fun hna hns => hchecked _ ?_, fun hknown => ⟨fun hnone => hchecked _ ?_,
    fun d hd hk => hchecked _ ?_⟩⟩
  · rw [liveFrame_of_not_known (s := t) hna hns, checkAttached_of_not_known (s := t) hna hns, headerCheck_raw hheader]
    rfl
  · rw [checkAttached_of_undeclared (liveFrame_known (s := t) hknown) ((liveFrame_descriptor t _).trans hnone),
      countB_liveFrame, headerCheck_raw hheader]
  · rw [checkAttached_of_mismatch (liveFrame_known (s := t) hknown) ((liveFrame_descriptor t _).trans hd) hk,
      countB_liveFrame, headerCheck_raw hheader]

/-! ### Owed symbols -/

section
variable {y : SymbolType} {c : Chan} {s : State}

/-- A symbol of a channel with none in the list joins its tail (R16). -/
theorem oweSymbol_of_none (h : ∀ o ∈ s.bport.owed, o.channel ≠ c) :
    oweSymbol y c s = s.setBport { s.bport with owed :=
      s.bport.owed ++ [{ type := y, channel := c, started := false }] } := by
  have hany : s.bport.owed.any (fun o => o.channel == c) = false := by simpa using h
  simp [oweSymbol, hany]

/-- A symbol takes the place of its channel's symbol in the list (R16; assumption 5). -/
theorem oweSymbol_of_one {before after : List OwedSymbol} {o : OwedSymbol}
    (howed : s.bport.owed = before ++ o :: after) (ho : o.channel = c)
    (h : ∀ x ∈ before ++ after, x.channel ≠ c) :
    oweSymbol y c s = s.setBport { s.bport with owed :=
      before ++ { type := y, channel := c, started := false } :: after } := by
  have hkeep : ∀ l : List OwedSymbol, (∀ x ∈ l, x.channel ≠ c) →
      l.map (fun x => if x.channel = c then { type := y, channel := c, started := false } else x) = l :=
    fun l hl => (List.map_congr_left fun x hx => if_neg (hl x hx)).trans (List.map_id' l)
  simp only [oweSymbol, howed, List.any_append, List.any_cons, ho, BEq.rfl, Bool.true_or, Bool.or_true, if_true,
    List.map_append, List.map_cons, hkeep before fun x hx => h x (List.mem_append_left _ hx),
    hkeep after fun x hx => h x (List.mem_append_right _ hx)]

end

/-! ### Frames of a declared channel -/

/-- A descriptor's kind is none of the Link Monitor's (R9, R11). -/
theorem DeclaredKind.kind_ne (k : DeclaredKind) : k.kind ≠ .ident ∧ k.kind ≠ .alive := by
  cases k <;> decide

/-- A frame of a declared channel and kind goes to the channel checks (R12). -/
theorem bPortUnit_of_declared {b0 b1 : Byte} {rest : List Byte} {f : Frame} {d : Descriptor} {s v : State}
    (hcheck : frameCheckPasses (b0 :: b1 :: rest) = true) (hheader : headerCheck .b (b0 :: b1 :: rest) = some f)
    (hknown : s.link.state = .attached ∨ s.link.state = .suspect) (hd : s.link.descriptor f.channel = some d)
    (hk : f.kind = d.kind.kind)
    (h : checkDeclared d f (liveFrame (stagedAtB (b0 :: b1 :: rest) s)) = v) :
    exec (.bPortUnitCompleted b0 b1 rest) s = .next (lookAfter s v) := by
  obtain ⟨hi, ha⟩ := d.kind.kind_ne
  refine bPortUnit_eq hcheck hheader ((takeBaseFrame_of_other (hk ▸ hi) (hk ▸ ha) _).trans ?_)
  rw [checkAttached_of_declared (liveFrame_known (s := stagedAtB _ s) hknown)
    ((liveFrame_descriptor (stagedAtB _ s) _).trans hd) hk, h]

section
variable {d : Descriptor} {f : Frame} {s : State}

theorem checkDeclared_of_halted (h : s.bport.halts[f.channel] = true) : checkDeclared d f s =
    answer d .halt f.channel (countB (fun k => { k with halted := satInc k.halted }) s) :=
  if_pos h

theorem checkDeclared_of_duplicate (h : s.bport.halts[f.channel] = false) (hd : d.handshaked = true)
    (ht : f.toggle ≠ s.bport.toggles[f.channel]) : checkDeclared d f s =
    oweSymbol .ack f.channel (countB (fun k => { k with duplicates := satInc k.duplicates }) s) :=
  (if_neg (by simp [h])).trans (if_pos (by simpa [hd] using ht))

theorem checkDeclared_of_overlength (h : s.bport.halts[f.channel] = false)
    (ht : d.handshaked = false ∨ f.toggle = s.bport.toggles[f.channel]) (hlen : d.maxLength < f.payload.length) :
    checkDeclared d f s = reportError .overlength .b f.raw
      (answer d .nak f.channel (countB (fun k => { k with overlength := satInc k.overlength }) s)) := by
  rcases ht with ht | ht <;> simp [checkDeclared, h, ht, hlen]

theorem checkDeclared_of_fitting (h : s.bport.halts[f.channel] = false)
    (ht : d.handshaked = false ∨ f.toggle = s.bport.toggles[f.channel]) (hlen : f.payload.length ≤ d.maxLength) :
    checkDeclared d f s = settle d f.channel (classify .b f s).1 (classify .b f s).2 := by
  rcases ht with ht | ht <;> simp [checkDeclared, h, ht, Nat.not_lt.2 hlen]

end

/-- Settles O25: the list of owed symbols by whether the channel has one there, then the channel checks in order. -/
theorem bPortChannelChecks : Obligations.BPortChannelChecks := by
  refine ⟨fun y c s => ⟨fun h => oweSymbol_of_none h, fun before after o howed ho h =>
    ⟨fun _ => oweSymbol_of_one howed ho h, fun _ => ⟨oweSymbol_of_one howed ho h, rfl⟩⟩⟩, ?_⟩
  intro b0 b1 rest f d s hcheck hheader hknown hd hk t k counted owing answer
  have hbport := liveFrame_bport (stagedAtB (b0 :: b1 :: rest) s)
  have hhalts := congrArg BPort.halts hbport
  have htoggles := congrArg BPort.toggles hbport
  refine ⟨fun h => bPortUnit_of_declared hcheck hheader hknown hd hk (checkDeclared_of_halted (hhalts ▸ h)),
    fun h hs ht => bPortUnit_of_declared hcheck hheader hknown hd hk ?_,
    fun h ht hlen => bPortUnit_of_declared hcheck hheader hknown hd hk ?_⟩
  · exact (checkDeclared_of_duplicate (hhalts ▸ h) hs (htoggles ▸ ht)).trans (if_pos hs).symm
  · rw [checkDeclared_of_overlength (hhalts ▸ h) (htoggles ▸ ht) hlen, headerCheck_raw hheader]
    rfl

/-! ### The outcome of classification -/

theorem consumerOf_b {k : Kind} {c : Consumer} (h : consumerOf .b k = some c) : c = .baseSample := by
  cases k <;> cases h; rfl

/-- No frame of the B-port changes a toggle by its classification. -/
theorem classify_b_toggles (f : Frame) (s : State) :
    (classify .b f s).2.bport.toggles = s.bport.toggles := by
  have hconsume : ∀ c t, consumerOf .b f.kind = some c →
      (consume c .b f.payload t).bport.toggles = t.bport.toggles := by
    intro c t hc
    rw [consumerOf_b hc, consume]
    split
    · simp [Consumer.take]
    · rfl
  simp only [classify, act]
  split
  · simp
  next hc => simp [hconsume _ _ hc]
  · simp
  next hc => simp [hconsume _ _ hc]
  · simp [countUnconsumed]
  · rfl

/-- Settles O26: the outcome of classification, on a handshaked and on a streaming channel. -/
theorem bPortAcceptanceAndRefusal : Obligations.BPortAcceptanceAndRefusal := by
  intro b0 b1 rest f d s hcheck hheader hknown hd hk hh ht hlen r answer refused
  have hbport := liveFrame_bport (stagedAtB (b0 :: b1 :: rest) s)
  have hhalts := congrArg BPort.halts hbport
  have htoggles := congrArg BPort.toggles hbport
  have hstand : r.2.bport.toggles = s.bport.toggles := (classify_b_toggles f _).trans htoggles
  have hsettle : ∀ v, settle d f.channel r.1 r.2 = v → answer v := fun v hv =>
    bPortUnit_of_declared hcheck hheader hknown hd hk
      ((checkDeclared_of_fitting (hhalts ▸ hh) (htoggles ▸ ht) hlen).trans hv)
  refine ⟨fun hr hs => hsettle _ ?_, fun hr hs => hsettle _ ?_, fun hr hs => hsettle _ ?_,
    fun hr hs => hsettle _ ?_⟩
  · simp only [settle, hr, hs, if_true, ← hstand]
    rfl
  · simp [settle, hr, hs]
  · simp only [settle, hr, hs, Machine.answer, if_true]
    rfl
  · simp only [settle, hr, hs, Machine.answer]
    rfl

end Sys2Proof.Machine
end

section
/-! PROOFS. Units at the L-port, the P-port and the S-port, and how the Management Unit answers a command: with room
the response takes its place first, without it the command is an overrun (R17 to R19, R30, R168). -/

namespace Sys2Proof.Machine

/-! ### L-port and P-port -/

theorem gapTest_of_other {payload : List Byte} (h : payload.length ≠ 8) (s : State) : gapTest payload s = s :=
  if_neg h

/-- A gap is counted where the last counter is valid and another value than its successor arrives (R17). -/
theorem gapTest_of_gap {payload : List Byte} {s : State} (hlen : payload.length = 8) (hvalid : s.lport.lastValid = true)
    (hgap : unitByte payload 1 ++ unitByte payload 0 ≠ s.lport.lastCounter + 1) :
    gapTest payload s = s.setLport { s.lport with
      lastCounter := unitByte payload 1 ++ unitByte payload 0
      lastValid := true
      counters := { s.lport.counters with gaps := satInc s.lport.counters.gaps } } := by
  have hbool : (s.lport.lastValid && word16 (unitByte payload 0) (unitByte payload 1) != s.lport.lastCounter + 1)
      = true := by simpa [hvalid, word16] using hgap
  simp only [gapTest, hlen, if_true, hbool]
  rfl

theorem gapTest_of_no_gap {payload : List Byte} {s : State} (hlen : payload.length = 8)
    (h : s.lport.lastValid = false ∨ unitByte payload 1 ++ unitByte payload 0 = s.lport.lastCounter + 1) :
    gapTest payload s = s.setLport { s.lport with
      lastCounter := unitByte payload 1 ++ unitByte payload 0, lastValid := true } := by
  have hbool : (s.lport.lastValid && word16 (unitByte payload 0) (unitByte payload 1) != s.lport.lastCounter + 1)
      = false := by
    rcases h with h | h <;> simp [h, word16]
  simp only [gapTest, hlen, if_true, hbool]
  rfl

/-- Settles O27: the two checks, then the gap test of the L-port. -/
theorem lidAndPenPorts : Obligations.LidAndPenPorts := by
  intro b0 rest s unit
  refine ⟨?lid, ?pen⟩
  case lid =>
    intro lidsw t k answer
    have hanswer : ∀ v, receiveL unit (s.setLines { s.lines with lidsw := lidsw }) = v → answer v :=
      fun v hv => congrArg (fun x => Host.Outcome.next (sLook x)) hv
    refine ⟨fun h => hanswer _ ?_, fun hcheck hheader => hanswer _ ?_, fun f hcheck hheader => ?_⟩
    · simp only [receiveL, h]; rfl
    · simp only [receiveL, hcheck, hheader, if_true]; rfl
    have hframe : ∀ v, gapTest f.payload t = v → answer (classify .l f v).2 := fun v hv => hanswer _ (by
      simp only [receiveL, hcheck, hheader, if_true, ← hv]; rfl)
    exact ⟨fun hlen => hframe _ (gapTest_of_other hlen t), fun hlen =>
      ⟨fun hvalid hgap => hframe _ (gapTest_of_gap hlen hvalid hgap),
        fun h => hframe _ (gapTest_of_no_gap hlen h)⟩⟩
  case pen =>
    intro t k answer
    have hanswer : ∀ v, receiveP unit s = v → answer v :=
      fun v hv => congrArg (fun x => Host.Outcome.next (lookAfter s x)) hv
    refine ⟨fun h => hanswer _ ?_, fun hcheck hheader => hanswer _ ?_, fun f hcheck hheader => hanswer _ ?_⟩
    · simp only [receiveP, h]; rfl
    · simp only [receiveP, hcheck, hheader, if_true]; rfl
    · simp only [receiveP, hcheck, hheader, if_true]; rfl

/-! ### Commands -/

/-- The response of a command with room: the head of the Free List joins Q0 first (R30). -/
theorem respond_of_room {s : State} (hroom : s.pool.hasRoom = true) (code : Byte) (unit : List Byte)
    (run : State → Answer) :
    ∃ i rest, s.pool.free = i :: rest ∧ respond code unit run s = complete code i (run (withPlace s)) := by
  obtain ⟨-, hfree⟩ := Pool.hasRoom_iff.1 hroom
  obtain ⟨i, rest, hi⟩ := List.exists_cons_of_ne_nil hfree
  refine ⟨i, rest, hi, ?_⟩
  simp only [respond, hroom, if_true, withPlace, Pool.join, hi]

theorem respond_of_no_room {s : State} (hroom : s.pool.hasRoom = false) (code : Byte) (unit : List Byte)
    (run : State → Answer) : respond code unit run s = overrun unit s := by
  simp [respond, hroom]

/-- A command with room leaves what its answer says of it (R30, R168). -/
theorem lookAfter_respond {s : State} (hroom : s.pool.hasRoom = true) (code : Byte) (unit : List Byte)
    {run : State → Answer} {a : Answer} (h : run (withPlace s) = a) :
    lookAfter s (respond code unit run s) = answered code a.status a.data a.state s := by
  obtain ⟨i, rest, hi, hrespond⟩ := respond_of_room hroom code unit run
  simp only [hrespond, answered, hi, h]

/-- A refused command with room has no effect and no data (R168). -/
theorem lookAfter_respond_refuse {s : State} (hroom : s.pool.hasRoom = true) (code : Byte) (unit : List Byte)
    {run : State → Answer} {st : Status} (h : run (withPlace s) = refuse st (withPlace s)) :
    lookAfter s (respond code unit run s) = answered code st [] (withPlace s) s :=
  lookAfter_respond (a := refuse st (withPlace s)) hroom code unit h

theorem mgmtEvent_of_room {s : State} (hroom : s.pool.hasRoom = true) {code : Byte} {ch : Chan} {args : List Byte}
    {run : List Byte → State → Answer} {a : Answer} (h : run args (withPlace s) = a) :
    mgmtEvent code ch args run s = answered code a.status a.data a.state s :=
  lookAfter_respond hroom code _ h

/-- A command without room is not executed, logged and counted (R30). -/
theorem lookAfter_overrun (unit : List Byte) (s : State) : lookAfter s (overrun unit s) = sLook (overrun unit s) :=
  lookAfter_of_same (by simp [overrun]) (by simp [overrun])

theorem byteNat_toNat (b : Byte) : byteNat b.toNat = b := by simp [byteNat]

/-- A command of the opcode table runs the command of its code, SOFT_RESET aside (R169). -/
theorem exec_of_commandOfCode {ch : Chan} {args : List Byte} {n : Nat} {c : Instr}
    (h : commandOfCode ch args n = some c) (hn : n ≠ 2) :
    ∃ run, commandOf n = some run ∧ ∀ s, exec c s = .next (mgmtEvent (byteNat n) ch args run s) := by
  unfold commandOfCode at h
  split at h
  case h_2 => exact absurd rfl hn
  all_goals cases h
  all_goals exact ⟨_, rfl, fun _ => rfl⟩

/-- The codes without a command are 0 and those above 38 (R169). -/
theorem commandOf_of_none {ch : Chan} {args : List Byte} {n : Nat} (h : commandOfCode ch args n = none) :
    commandOf n = none ∧ n ≠ 2 := by
  have hrange : n = 0 ∨ 39 ≤ n := by
    by_contra hn
    have hlow : 1 ≤ n := by omega
    have hhigh : n ≤ 38 := by omega
    interval_cases n <;> cases h
  rcases hrange with rfl | hn
  · exact ⟨rfl, by decide⟩
  · obtain ⟨m, rfl⟩ := Nat.exists_eq_add_of_le' hn
    exact ⟨rfl, by omega⟩

/-- The unit of a SOFT_RESET with room is not read. -/
theorem runSoftReset_unit {s : State} (hroom : s.pool.hasRoom = true) (unit unit' args : List Byte) :
    runSoftReset unit args s = runSoftReset unit' args s := by
  cases args with
  | nil => simp only [runSoftReset, hroom, if_true]
  | cons arg args =>
    obtain ⟨i, _, hi, h⟩ := respond_of_room hroom 2 unit (refuse .badLength)
    obtain ⟨j, _, hj, h'⟩ := respond_of_room hroom 2 unit' (refuse .badLength)
    cases hi.symm.trans hj
    exact h.trans h'.symm

/-- A management frame in the model's own row, on the state a frame of the S-port left, is the frame of the S-port
(R168, R169). -/
theorem manage_of_command {f : Frame} {s : State} {unit args : List Byte} {code : Byte} {c : Instr}
    (hroom : s.pool.hasRoom = true) (h : commandOfCode f.channel args code.toNat = some c) :
    Host.Outcome.next (lookAfter s (manage unit (code :: args) s)) = exec c s := by
  by_cases hn : code.toNat = 2
  · rw [hn] at h
    cases h
    cases BitVec.eq_of_toNat_eq (x := code) (y := 2) hn
    exact congrArg (fun x => Host.Outcome.next (lookAfter s x)) (runSoftReset_unit hroom unit _ args)
  · obtain ⟨run, hrun, hexec⟩ := exec_of_commandOfCode h hn
    rw [hexec, byteNat_toNat, mgmtEvent_of_room hroom rfl]
    simp only [manage, hn, if_false, hrun]
    rw [lookAfter_respond hroom code unit rfl]

/-! ### The S-port -/

theorem receiveS_of_frame {unit : List Byte} {f : Frame} (hcheck : frameCheckPasses unit = true)
    (hheader : headerCheck .s unit = some f) (s : State) :
    receiveS unit s = takeHostFrame f (stagedAtS unit s) := by
  simp only [receiveS, hcheck, hheader, if_true]; rfl

section
variable {f : Frame} {s : State}

theorem attachedOrSuspect_iff {x : LinkState} : x.attachedOrSuspect = true ↔ x = .attached ∨ x = .suspect := by
  cases x <;> simp [LinkState.attachedOrSuspect]

theorem takeHostFrame_of_bad (h : (f.dest = 0 ∧ f.kind ≠ .mgmt) ∨ (f.dest ≠ 0 ∧ f.dest ≠ 2)
    ∨ (f.dest = 2 ∧ ¬ (s.link.state = .attached ∨ s.link.state = .suspect))) :
    takeHostFrame f s = badDest f s := by
  rcases h with ⟨hd, hk⟩ | ⟨h0, h2⟩ | ⟨hd, hk⟩
  · simp [takeHostFrame, hd, hk]
  · simp [takeHostFrame, h0, h2]
  · simp [takeHostFrame, hd, attachedOrSuspect_iff, hk]

theorem takeHostFrame_of_mgmt (hd : f.dest = 0) (hk : f.kind = .mgmt) : takeHostFrame f s =
    manage f.raw f.payload (countS (fun k => { k with mgmtFrames := satInc k.mgmtFrames }) s) := by
  simp [takeHostFrame, hd, hk]

theorem takeHostFrame_of_downstream (hd : f.dest = 2) (hk : s.link.state = .attached ∨ s.link.state = .suspect) :
    takeHostFrame f s = placeDownstream f s := by
  simp [takeHostFrame, hd, attachedOrSuspect_iff.2 hk]

/-- A downstream frame placed on QD is counted, and the B-port transmitter looks (R19, R20). -/
theorem placeDownstream_of_placed {r : Bool × State} (hr : placeReceived .qd f.raw s = r) (h : r.1 = true) :
    placeDownstream f s = bLook (r.2.setSport { r.2.sport with counters :=
      { s.sport.counters with downAccepted := satInc s.sport.counters.downAccepted } }) := by
  have hsport : r.2.sport = s.sport := by simp [← hr]
  obtain ⟨placed, t⟩ := r
  cases h
  simp only [placeDownstream, hr]
  rw [← hsport]
  rfl

theorem placeDownstream_of_refused {r : Bool × State} (hr : placeReceived .qd f.raw s = r) (h : r.1 = false) :
    placeDownstream f s = r.2 := by
  obtain ⟨placed, t⟩ := r
  cases h
  simp only [placeDownstream, hr]

theorem manage_of_unknown {ch : Chan} {unit args : List Byte} {code : Byte}
    (h : commandOfCode ch args code.toNat = none) :
    manage unit (code :: args) s = respond code unit (refuse .badCommand) s := by
  obtain ⟨hcommand, hn⟩ := commandOf_of_none h
  simp only [manage, hn, if_false, hcommand]

/-- A management frame without room, whatever it carries, is an overrun (R30). -/
theorem manage_of_no_room (hroom : s.pool.hasRoom = false) (unit payload : List Byte) :
    manage unit payload s = overrun unit s := by
  simp only [manage]
  split
  · exact respond_of_no_room hroom _ _ _
  next code args =>
    split
    · simp only [runSoftReset]
      split
      · simp [hroom]
      · exact respond_of_no_room hroom _ _ _
    · split <;> exact respond_of_no_room hroom _ _ _

end

/-- Settles O28: the two checks, then the destination, the kind and the room. -/
theorem hostPort : Obligations.HostPort := by
  intro b0 rest s unit t k counted answer managed bad
  have hanswer : ∀ v, receiveS unit s = v → answer v :=
    fun v hv => congrArg (fun x => Host.Outcome.next (lookAfter s x)) hv
  refine ⟨fun h => hanswer _ ?_, fun hcheck hheader => hanswer _ ?_, fun f hcheck hheader => ?_⟩
  · simp only [receiveS, h]; rfl
  · simp only [receiveS, hcheck, hheader, if_true]; rfl
  have hraw := headerCheck_raw hheader
  intro known placed
  have hplaced : placeReceived .qd f.raw t = placed := by rw [hraw]
  have hframe : ∀ v, takeHostFrame f t = v → answer v := fun v hv =>
    hanswer v ((receiveS_of_frame hcheck hheader s).trans hv)
  have hbad : takeHostFrame f t = badDest f t → answer bad := fun h => hframe _ (h.trans (by rw [badDest, hraw]; rfl))
  have hmanage : f.dest = 0 → f.kind = .mgmt →
      exec (.sPortUnitCompleted b0 rest) s = .next (lookAfter managed (manage f.raw f.payload managed)) :=
    fun hd hk => hframe _ (takeHostFrame_of_mgmt hd hk)
  refine ⟨fun hd hk => hbad (takeHostFrame_of_bad (.inl ⟨hd, hk⟩)),
    fun h0 h2 => hbad (takeHostFrame_of_bad (.inr (.inl ⟨h0, h2⟩))),
    fun hd hk => hbad (takeHostFrame_of_bad (.inr (.inr ⟨hd, hk⟩))),
    fun hd hk hp => hframe _ ((takeHostFrame_of_downstream (s := t) hd hk).trans ?_),
    fun hd hk hp => hframe _ ((takeHostFrame_of_downstream (s := t) hd hk).trans ?_),
    fun hd hk hroom code args c hpayload hc => (hmanage hd hk).trans ?_,
    fun hd hk hroom hpayload => (hmanage hd hk).trans ?_,
    fun hd hk hroom code args hpayload hc => (hmanage hd hk).trans ?_,
    fun hd hk hroom => (hmanage hd hk).trans ?_⟩
  · exact placeDownstream_of_placed hplaced hp
  · exact placeDownstream_of_refused hplaced hp
  · rw [hpayload]
    exact manage_of_command (s := managed) hroom hc
  · rw [hpayload]
    exact congrArg Host.Outcome.next
      (lookAfter_respond_refuse (s := managed) hroom 0 _ rfl)
  · rw [hpayload, manage_of_unknown hc]
    exact congrArg Host.Outcome.next
      (lookAfter_respond_refuse (s := managed) hroom code _ rfl)
  · rw [manage_of_no_room (s := managed) hroom, hraw]
    rfl

end Sys2Proof.Machine
end

section
/-! PROOFS. SOFT_RESET, the argument lengths of the commands, and commands that find no room (R30, R31, R168, R169,
R172). -/

namespace Sys2Proof.Machine

/-! ### Argument lengths -/

/-- A command with another number of arguments than its row says is refused as BAD_LENGTH (R168, R169). -/
theorem run_of_badLength {n : Nat} {run : List Byte → State → Answer} {args : List Byte}
    (hrun : commandOf n = some run) (h : argumentBytes n ≠ some args.length) (s : State) :
    run args s = refuse .badLength s := by
  unfold commandOf at hrun
  split at hrun <;> cases hrun
  all_goals simp only [cmdGetInfo, cmdWriteRoute, cmdInvalidateRoute, cmdReadRoute, cmdSetDefaultRoute, cmdWritePosture,
    cmdInvalidatePosture, cmdReadPostureEntry, cmdWritePolicy, cmdWriteAxisMap, cmdWriteAngleParams,
    cmdReadPostureRecord, cmdSetRotationLock, cmdWriteBaseClass, cmdReadBaseRecord, cmdSetLinkTiming, cmdChannelHalt,
    cmdChannelResume, cmdSetBudget, cmdReadBudget, cmdWriteDriveLevel, cmdWriteChargeCell, cmdSetChargeParams,
    cmdChargeEnable, cmdReadChargeRecord, cmdSetHostState, cmdWriteWakeTable, cmdReadSleepRecord, cmdSetQueue,
    cmdFlushQueue, cmdReadQueues, cmdReadEvents, cmdClearEvents, cmdSetEventEnable, cmdReadLog, cmdClearLog,
    cmdReadCounters]
  all_goals
    split
    · exact (h rfl).elim
    · rfl

/-- A command of the opcode table with the wrong number of arguments and room for its answer (R168, R169). -/
theorem exec_of_badLength {ch : Chan} {code : Byte} {args : List Byte} {c : Instr} {s : State}
    (hroom : s.pool.hasRoom = true) (hc : commandOfCode ch args code.toNat = some c)
    (h : argumentBytes code.toNat ≠ some args.length) :
    exec c s = .next (answered code .badLength [] (withPlace s) s) := by
  by_cases hn : code.toNat = 2
  · rw [hn] at hc h
    cases hc
    cases BitVec.eq_of_toNat_eq (x := code) (y := 2) hn
    cases args with
    | nil => exact (h rfl).elim
    | cons arg args =>
      exact congrArg Host.Outcome.next (lookAfter_respond_refuse (run := refuse .badLength) hroom 2 _ rfl)
  · obtain ⟨run, hrun, hexec⟩ := exec_of_commandOfCode hc hn
    rw [hexec, byteNat_toNat]
    exact congrArg Host.Outcome.next (lookAfter_respond_refuse hroom code _ (run_of_badLength hrun h _))

/-- A command of the opcode table without room for its answer (R30). -/
theorem exec_of_no_room {ch : Chan} {code : Byte} {args : List Byte} {c : Instr} {s : State}
    (hroom : s.pool.hasRoom = false) (hc : commandOfCode ch args code.toNat = some c) :
    exec c s = .next (sLook (overrun (mgmtUnit ch code args) s)) := by
  rw [← lookAfter_overrun]
  by_cases hn : code.toNat = 2
  · rw [hn] at hc
    cases hc
    cases BitVec.eq_of_toNat_eq (x := code) (y := 2) hn
    rw [← manage_of_no_room hroom (mgmtUnit ch 2 args) (2 :: args)]
    rfl
  · obtain ⟨run, hrun, hexec⟩ := exec_of_commandOfCode hc hn
    rw [hexec, byteNat_toNat, mgmtEvent, respond_of_no_room hroom]

/-! ### SOFT_RESET -/

/-- A look of the S-port transmitter gives the B-port transmitter nothing. -/
theorem bGiven_sLook (s t : State) : bGiven s (sLook t) = bGiven s t := by
  simp [bGiven]

/-- SOFT_RESET gives the B-port transmitter nothing. -/
theorem bGiven_placeResetResponse (s : State) : bGiven s (placeResetResponse (softResetState s)) = false := rfl

/-- Settles O60: the soft reset block by block, then the commands by the number of their arguments and by the room. -/
theorem softResetArgumentsAndRoom : Obligations.SoftResetArgumentsAndRoom := by
  intro ch s
  refine ⟨fun hroom => ⟨placeResetResponse (softResetState s), ?exec, ?reset⟩,
    fun code args c hroom hc h => exec_of_badLength hroom hc h, fun code args c hroom hc => exec_of_no_room hroom hc⟩
  case exec =>
    have hrun : runSoftReset (mgmtUnit ch 2 []) [] s = placeResetResponse (softResetState s) := if_pos hroom
    refine congrArg Host.Outcome.next ?_
    rw [hrun]
    exact if_neg (by rw [bGiven_sLook, bGiven_placeResetResponse]; decide)
  case reset =>
    refine ⟨?_, rfl, rfl, rfl, rfl, rfl, rfl, rfl, rfl, rfl, rfl, rfl, rfl, rfl, rfl, rfl⟩
    have hset : ((s.pool.bufs.set 0 []).set 0 (respFrame 2 .ok [])) = s.pool.bufs.set 0 (respFrame 2 .ok []) := by
      simp
    exact congrArg (fun b => { (placeResetResponse (softResetState s)).pool with bufs := b }) hset

end Sys2Proof.Machine
end

section
/-! PROOFS. What the internal consumers take: samples, the evaluation a lid sample starts, and shape errors (R8, R51,
R63 to R65, R73, R74, R84, R89, R95, R96). -/

namespace Sys2Proof.Machine

/-! ### Consumers -/

theorem consume_of_length {c : Consumer} {payload : List Byte} (h : payload.length = c.payloadLength) (port : UpPort)
    (s : State) : consume c port payload s = c.take payload s :=
  if_pos h

/-- A payload of another length than its consumer requires is a shape error of its port (R8). -/
theorem consume_of_other_length {c : Consumer} {payload : List Byte} (h : payload.length ≠ c.payloadLength)
    (port : UpPort) (s : State) : consume c port payload s = countShape port s :=
  if_neg h

/-! ### The evaluation -/

/-- The hinge work, and posture selection on a resolved outcome; without hinge work the hold flags alone (R65, R74). -/
theorem PostureEngine.hingeStep_eq (p : PostureEngine) (attached moving : Bool) (time : Half) :
    p.hingeStep attached moving time =
      if attached then
        if (p.hingeWork moving).1 = .resolved then (p.hingeWork moving).2.select time else (p.hingeWork moving).2
      else { p with degenerate := false, stale := false, motion := moving } := by
  simp only [hingeStep]
  rcases p.hingeWork moving with ⟨outcome, q⟩
  cases outcome <;> rfl

/-- Settles O30: the samples, the evaluation in its order with the reporting of what it changed, and shape errors. -/
theorem consumersTakeWellShapedFrames : Obligations.ConsumersTakeWellShapedFrames := by
  intro port payload s b sample old y screen moving turned work chosen still new row v told
  have hchosen : turned.hingeStep s.link.state.attachedOrSuspect moving s.time = chosen := by
    rw [PostureEngine.hingeStep_eq]
    simp only [attachedOrSuspect_iff]
    rfl
  have hmode : chosen.applyMode = new := by
    simp only [PostureEngine.applyMode, PostureEngine.effectiveMode, PostureEngine.currentRow,
      PostureEngine.clearRotCandidate, still, new]
    cases chosen.policy[chosen.posture.code].rotation <;> cases chosen.rotLock <;> rfl
  have hevaluate : { s.posture with lid := sampleOf payload s.time }.evaluate s.lines.lidsw
      s.link.state.attachedOrSuspect s.time = new :=
    (congrArg PostureEngine.applyMode hchosen).trans hmode
  refine ⟨fun hlen => ⟨(consume_of_length (c := .lidSample) hlen port s).trans ?lid,
    consume_of_length (c := .baseSample) hlen port s⟩, fun hlen c hc => ?shapes,
    fun hlen => consume_of_other_length (c := .penFrame) hlen .p s⟩
  case lid => exact congrArg (fun p => reportPosture s.posture (s.setPosture p)) hevaluate
  case shapes =>
    rcases hc with rfl | rfl <;>
      exact ⟨consume_of_other_length hlen .l s, consume_of_other_length hlen .b s⟩

end Sys2Proof.Machine
end

section
/-! PROOFS. The reads: the place a response takes leaves every record as it stands, and each read answers the bytes of
its record (R38, R43, R53, R56, R78, R94, R125, R134, R153, R167, R170, R175, R176). -/

namespace Sys2Proof.Machine

/-! ### The place of a response -/

/-- The place a response takes concerns the pool alone (R30). -/
theorem withPlace_eq (s : State) : ∃ p, withPlace s = s.setPool p := by
  simp only [withPlace]
  split
  · exact ⟨_, rfl⟩
  · exact ⟨s.pool, rfl⟩

/-! ### Argument bytes -/

theorem finOf_byteNat {n : Nat} (i : Fin n) (h : n ≤ 256) : finOf n (byteNat i.val) = some i := by
  have hi : (byteNat i.val).toNat = i.val := toNat_byteNat (by omega)
  simp [finOf, hi]

theorem finOf_of_le {n : Nat} {b : Byte} (h : n ≤ b.toNat) : finOf n b = none :=
  dif_neg (Nat.not_lt.2 h)

theorem finOf_of_lt {n : Nat} {b : Byte} (h : b.toNat < n) : finOf n b = some ⟨b.toNat, h⟩ :=
  dif_pos h

theorem flagOf_of_two_le {b : Byte} (h : 2 ≤ b.toNat) : flagOf b = none := by
  rw [flagOf, if_neg (by omega), if_neg (by omega)]

theorem QueueId.ofCode_byteNat_code (q : QueueId) : QueueId.ofCode (byteNat q.code).toNat = some q := by
  cases q <;> rfl

theorem QueueId.ofCode_eq_none_iff (n : Nat) : QueueId.ofCode n = none ↔ 5 ≤ n := by
  constructor
  · intro h
    by_contra hn
    have hlow : n < 5 := by omega
    interval_cases n <;> cases h
  · intro hn
    obtain ⟨m, rfl⟩ := Nat.exists_eq_add_of_le' hn
    rfl

/-! ### Bytes of the records -/

theorem le16Nat_eq (n : Nat) : le16Nat n = [byteNat n, byteNat (n / 256)] := by
  have hlow : lowByte (BitVec.ofNat 16 n) = byteNat n :=
    BitVec.eq_of_toNat_eq (by simp [lowByte, byteNat])
  have hhigh : highByte (BitVec.ofNat 16 n) = byteNat (n / 256) :=
    BitVec.eq_of_toNat_eq (by simp [highByte, byteNat, Nat.shiftRight_eq_div_pow]; omega)
  simp [le16Nat, le16, hlow, hhigh]

theorem maskByte_two : ∀ a b : Bool, maskByte [a, b] = byteNat ((if a then 1 else 0) + (if b then 2 else 0)) := by
  decide

theorem maskByte_four : ∀ a b c d : Bool, maskByte [a, b, c, d] = byteNat
    ((if a then 1 else 0) + (if b then 2 else 0) + (if c then 4 else 0) + (if d then 8 else 0)) := by
  decide

theorem maskByte_six : ∀ a b c d e f : Bool, maskByte [a, b, c, d, e, f] = byteNat
    ((if a then 1 else 0) + (if b then 2 else 0) + (if c then 4 else 0) + (if d then 8 else 0)
      + (if e then 16 else 0) + (if f then 32 else 0)) := by
  decide

theorem byteNat_add (m n : Nat) : byteNat (m + n) = byteNat m + byteNat n := BitVec.ofNat_add m n

theorem descriptorBytes_form (d : Descriptor) : descriptorBytes d = [byteNat d.channel.val, byteNat d.kind.kind.code,
    if d.handshaked then 128 + byteNat d.maxLength else byteNat d.maxLength] := by
  simp only [descriptorBytes]
  split
  · rw [byteNat_add]; rfl
  · rw [Nat.zero_add]

/-- The bytes of a log that shows nothing but its overflow count (R56). -/
theorem logBytes_empty (n : Nat) :
    logBytes { overflow := n } = [0, 0, 0, 0, 0, 0, 0, 0, 0, byteNat n] := by
  simp [logBytes, le16, lowByte, highByte, byteBool, byteNat, LogReason.code, Port.code]

/-! ### Answers -/

section
variable {c : Instr} {code : Byte} {ch : Chan} {args : List Byte} {run : List Byte → State → Answer} {s : State}

theorem exec_of_answer {a : Answer} (hroom : s.pool.hasRoom = true)
    (hc : exec c s = .next (mgmtEvent code ch args run s)) (h : run args (withPlace s) = a) :
    exec c s = .next (answered code a.status a.data a.state s) :=
  hc.trans (congrArg _ (mgmtEvent_of_room hroom h))

/-- A read that answers OK from any record but the pool and changes nothing. -/
theorem exec_of_okay {data : List Byte} (hroom : s.pool.hasRoom = true)
    (hc : exec c s = .next (mgmtEvent code ch args run s))
    (h : ∀ p, run args (s.setPool p) = okay data (s.setPool p)) :
    exec c s = .next (answered code .ok data (withPlace s) s) := by
  obtain ⟨p, hp⟩ := withPlace_eq s
  exact exec_of_answer (a := okay data (withPlace s)) hroom hc (hp ▸ h p)

theorem exec_of_refusal {st : Status} (hroom : s.pool.hasRoom = true)
    (hc : exec c s = .next (mgmtEvent code ch args run s)) (h : ∀ t, run args t = refuse st t) :
    exec c s = .next (answered code st [] (withPlace s) s) :=
  exec_of_answer (a := refuse st (withPlace s)) hroom hc (h _)

end

/-- Settles O54: each read by the bytes of its record, then the clear options, the codes and the refusals. -/
theorem readsAnswerTheRecords : Obligations.ReadsAnswerTheRecords := by
  intro ch s hroom p read refused
  refine ⟨fun i => exec_of_okay hroom rfl fun q => ?entry, exec_of_okay hroom rfl fun q => ?posture,
    ⟨exec_of_okay hroom rfl fun q => rfl, exec_of_okay hroom rfl fun q => ?descriptors,
      exec_of_okay hroom rfl fun q => rfl⟩,
    exec_of_okay hroom rfl fun q => ?budget, exec_of_okay hroom rfl fun q => ?charge,
    exec_of_okay hroom rfl fun q => ?sleep, exec_of_okay hroom rfl fun q => rfl,
    fun h => exec_of_okay hroom rfl fun q => ?log, fun h => exec_of_okay hroom rfl fun q => ?noLog,
    ?routes, ?dflt, ?queues, ?counters, ?codes, ?refusals⟩
  case entry =>
    simp only [cmdReadPostureEntry, finOf_byteNat i (by decide), postureEntryBytes, le16Nat_eq]
    rfl
  case posture =>
    simp only [cmdReadPostureRecord, postureReadout, postureRecord, maskByte_six, le16Nat_eq, indexByte, candidateByte,
      State.setPool_posture]
    cases s.posture.entry <;> cases s.posture.rotCandidate <;> rfl
  case descriptors =>
    exact congrArg (fun f => okay (byteNat s.link.record.descriptors.length :: s.link.record.descriptors.flatMap f)
      (s.setPool q)) (funext descriptorBytes_form)
  case budget =>
    simp only [cmdReadBudget, railBytes, maskByte_two]
    rfl
  case charge =>
    simp only [cmdReadChargeRecord, chargeBytes, maskByte_two, maskByte_four, driveTarget, State.setPool_charge]
    cases s.charge.session <;> rfl
  case sleep =>
    simp only [cmdReadSleepRecord, sleepBytes, maskByte_four]
    rfl
  case log =>
    have hshown : s.classifier.log.shown = s.classifier.log := if_pos h
    simp only [cmdReadLog, State.setPool_classifier, hshown, logBytes, h]
    rfl
  case noLog =>
    have hshown : s.classifier.log.shown = { overflow := s.classifier.log.overflow } := if_neg (by simp [h])
    simp only [cmdReadLog, State.setPool_classifier, hshown, logBytes_empty]
  case routes =>
    intro i r zeroed
    refine ⟨exec_of_okay hroom rfl fun q => ?_, ?_⟩
    · simp only [cmdReadRoute, finOf_byteNat i (by decide)]
      rfl
    · refine exec_of_answer (a := okay (routeBytes r) (p.setClassifier { s.classifier with routes := zeroed }))
        hroom rfl ?_
      obtain ⟨q, hq⟩ := withPlace_eq s
      simp only [cmdReadRoute, finOf_byteNat i (by decide), p, hq]
      rfl
  case dflt =>
    intro d data
    refine ⟨exec_of_okay hroom rfl fun q => rfl, ?_⟩
    refine exec_of_answer (a := okay data (p.setClassifier
      { s.classifier with dflt := { d with matchCount := 0 } })) hroom rfl ?_
    obtain ⟨q, hq⟩ := withPlace_eq s
    simp only [p, hq]
    rfl
  case queues =>
    intro i v data
    have hdata : queueBytes p.pool i = data := by
      simp only [queueBytes, data]
      rcases v.policy with _ | _ | _ <;> rfl
    refine ⟨exec_of_answer (a := okay data p) hroom rfl ?_,
      exec_of_answer (a := okay data (p.setPool (p.pool.setQueue i v.cleared))) hroom rfl ?_⟩
    · simp only [cmdReadQueues, QueueId.ofCode_byteNat_code]
      exact congrArg (fun x => okay x p) hdata
    · simp only [cmdReadQueues, QueueId.ofCode_byteNat_code]
      exact congrArg (fun x => okay x (p.setPool (p.pool.setQueue i v.cleared))) hdata
  case counters =>
    intro g b l n h k d m r c w u count counters cleared data
    obtain ⟨q, hq⟩ : ∃ q, p = s.setPool q := withPlace_eq s
    have hcounters : groupCounters g s = counters := by
      fin_cases g <;> rfl
    have hcount : counters.length = count := by
      fin_cases g <;> rfl
    have hzero : groupCounters g (clearGroup g s) = List.replicate count 0 := by
      fin_cases g <;> rfl
    have hcleared : clearGroup g p = cleared := by
      fin_cases g <;> simp only [clearGroup, cleared, hq] <;> rfl
    have hdata : groupBytes g p = data := by
      have hstand : groupCounters g p = counters := by rw [hq]; exact hcounters
      simp only [groupBytes, hstand, hcount, data]
    refine ⟨hcount, exec_of_answer (a := okay data p) hroom rfl ?_,
      exec_of_answer (a := okay data cleared) hroom rfl ?_, hcounters, hzero⟩
    · simp only [cmdReadCounters, finOf_byteNat g (by decide)]
      exact congrArg (fun x => okay x p) hdata
    · simp only [cmdReadCounters, finOf_byteNat g (by decide)]
      exact congrArg₂ okay hdata hcleared
  case codes => decide
  case refusals =>
    intro b o
    refine ⟨fun h => exec_of_refusal hroom rfl fun t => ?_, fun h => exec_of_refusal hroom rfl fun t => ?_,
      fun h => exec_of_refusal hroom rfl fun t => ?_, fun h => exec_of_refusal hroom rfl fun t => ?_,
      fun h => exec_of_refusal hroom rfl fun t => ?_, fun h ho => exec_of_refusal hroom rfl fun t => ?_,
      fun h ho => exec_of_refusal hroom rfl fun t => ?_, fun h ho => exec_of_refusal hroom rfl fun t => ?_⟩
    · simp only [cmdReadPostureEntry, finOf_of_le h]
    · simp only [cmdReadBaseRecord, if_neg (show ¬ b.toNat = 0 by omega), if_neg (show ¬ b.toNat = 1 by omega),
        if_neg (show ¬ b.toNat = 2 by omega)]
    · simp only [cmdReadRoute, finOf_of_le (show 24 ≤ b.toNat by omega), if_neg (show ¬ b.toNat = 24 by omega)]
    · simp only [cmdReadQueues, (QueueId.ofCode_eq_none_iff _).2 h]
    · simp only [cmdReadCounters, finOf_of_le h]
    · rcases Nat.lt_or_eq_of_le h with hlt | heq
      · simp only [cmdReadRoute, finOf_of_lt hlt, flagOf_of_two_le ho]
      · simp only [cmdReadRoute, finOf_of_le heq.ge, if_pos heq, flagOf_of_two_le ho]
    · cases hq : QueueId.ofCode b.toNat with
      | none => have := (QueueId.ofCode_eq_none_iff _).1 hq; omega
      | some q => simp only [cmdReadQueues, hq, flagOf_of_two_le ho]
    · simp only [cmdReadCounters, finOf_of_lt (Nat.lt_succ_of_le h), flagOf_of_two_le ho]

end Sys2Proof.Machine
end

section
/-! PROOFS. The placement of received and of synthetic frames, by the queue's room, its policy and the Free List (R27
to R29). -/

namespace Sys2Proof.Machine

/-! ### The two ways to a buffer -/

/-- The pool after the buffer `i`, taken from the head of the Free List, joined the tail of a queue (R28). -/
def Pool.joined (p : Pool) (q : QueueId) (frame : List Byte) (i : BufIdx) (rest : List BufIdx) : Pool :=
  ({ p with free := rest, bufs := p.bufs.set i frame }).setQueue q ((p.queue q).push i)

/-- The pool after the buffer `i`, taken from the head of a queue, received a frame and joined the tail (R28). -/
def Pool.recycled (p : Pool) (q : QueueId) (frame : List Byte) (i : BufIdx) (rest : List BufIdx) : Pool :=
  ({ p with bufs := p.bufs.set i frame }).setQueue q
    { p.queue q with
      items := rest ++ [i]
      counters := { (p.queue q).counters with
        placed := satInc (p.queue q).counters.placed
        evicted := satInc (p.queue q).counters.evicted } }

section
variable {p : Pool} {q : QueueId} {i : BufIdx} {rest : List BufIdx}

theorem Pool.join_of_free (h : p.free = i :: rest) (q : QueueId) (frame : List Byte) :
    p.join q frame = some (i, p.joined q frame i rest) := by
  simp only [Pool.join, h, Pool.joined]

theorem Pool.join_of_empty (h : p.free = []) (q : QueueId) (frame : List Byte) : p.join q frame = none := by
  simp only [Pool.join, h]

theorem Pool.recycle_of_items (h : (p.queue q).items = i :: rest) (frame : List Byte) :
    p.recycle q frame = some (p.recycled q frame i rest) := by
  simp only [Pool.recycle, h, Pool.recycled]

theorem Pool.recycle_of_empty (h : (p.queue q).items = []) (frame : List Byte) : p.recycle q frame = none := by
  simp only [Pool.recycle, h]

/-! ### Received frames -/

/-- Below the limit, with more than the reserve free, the head of the Free List is placed (R28). -/
theorem Pool.placeReceived_of_free (hroom : (p.queue q).items.length < (p.queue q).limit)
    (hspare : 5 ≤ p.free.length) (hfree : p.free = i :: rest) (frame : List Byte) :
    p.placeReceived q frame = (.placed, p.joined q frame i rest) := by
  simp only [Pool.placeReceived, if_neg (Nat.not_le.2 hroom), if_pos (show Config.reserve < _ from hspare),
    join_of_free hfree]

/-- A DROP_OLD queue that is full, or below its limit with no more than the reserve free, gives its head (R28). -/
theorem Pool.placeReceived_of_dropOld (hpolicy : (p.queue q).policy = some .dropOld)
    (hitems : (p.queue q).items = i :: rest)
    (h : (p.queue q).items.length = (p.queue q).limit
      ∨ ((p.queue q).items.length < (p.queue q).limit ∧ p.free.length ≤ 4)) (frame : List Byte) :
    p.placeReceived q frame = (.placed, p.recycled q frame i rest) := by
  rcases h with hfull | ⟨hroom, hscarce⟩
  · simp only [Pool.placeReceived, if_pos hfull.ge, if_pos hpolicy, recycle_of_items hitems]
  · simp only [Pool.placeReceived, if_neg (Nat.not_le.2 hroom),
      if_neg (show ¬ Config.reserve < _ from Nat.not_lt.2 hscarce), if_pos hpolicy, recycle_of_items hitems]

theorem Pool.placeReceived_of_full (hpolicy : (p.queue q).policy = some .dropNew)
    (hfull : (p.queue q).items.length = (p.queue q).limit) (frame : List Byte) :
    p.placeReceived q frame = (.full, p) := by
  simp only [Pool.placeReceived, if_pos hfull.ge, if_neg (show ¬ (p.queue q).policy = some .dropOld by simp [hpolicy])]

/-- Below the limit, with no more than the reserve free, a queue without a head to give refuses (R28). -/
theorem Pool.placeReceived_of_scarce (hroom : (p.queue q).items.length < (p.queue q).limit)
    (hscarce : p.free.length ≤ 4) (h : (p.queue q).policy = some .dropNew ∨ (p.queue q).items = [])
    (frame : List Byte) : p.placeReceived q frame = (.noBuffer, p) := by
  simp only [Pool.placeReceived, if_neg (Nat.not_le.2 hroom),
    if_neg (show ¬ Config.reserve < _ from Nat.not_lt.2 hscarce)]
  rcases h with hpolicy | hitems
  · exact if_neg (by simp [hpolicy])
  · simp only [recycle_of_empty hitems, ite_self]

/-! ### Synthetic frames -/

variable {r : HostQueue}

/-- Below the limit the head of the Free List is placed, without regard to the reserve (R29). -/
theorem Pool.placeSynthetic_of_free (hroom : (p.queue r.id).items.length < (p.queue r.id).limit)
    (hfree : p.free = i :: rest) (frame : List Byte) :
    p.placeSynthetic r frame = some (p.joined r.id frame i rest) := by
  simp only [Pool.placeSynthetic, if_neg (Nat.not_le.2 hroom), join_of_free hfree]

/-- A DROP_OLD queue that is full, or finds the Free List empty, gives its head (R29). -/
theorem Pool.placeSynthetic_of_dropOld (hpolicy : (p.queue r.id).policy = some .dropOld)
    (hitems : (p.queue r.id).items = i :: rest)
    (h : (p.queue r.id).items.length = (p.queue r.id).limit ∨ p.free = []) (frame : List Byte) :
    p.placeSynthetic r frame = some (p.recycled r.id frame i rest) := by
  by_cases hlimit : (p.queue r.id).limit ≤ (p.queue r.id).items.length
  · simp only [Pool.placeSynthetic, if_pos hlimit, if_pos hpolicy, recycle_of_items hitems]
  · have hfree : p.free = [] := h.resolve_left fun hfull => hlimit hfull.ge
    simp only [Pool.placeSynthetic, if_neg hlimit, join_of_empty hfree, if_pos hpolicy, recycle_of_items hitems]

theorem Pool.placeSynthetic_of_full (hpolicy : (p.queue r.id).policy = some .dropNew)
    (hfull : (p.queue r.id).items.length = (p.queue r.id).limit) (frame : List Byte) :
    p.placeSynthetic r frame = none := by
  simp only [Pool.placeSynthetic, if_pos hfull.ge,
    if_neg (show ¬ (p.queue r.id).policy = some .dropOld by simp [hpolicy])]

/-- Below the limit, with the Free List empty, a queue without a head to give refuses (R29). -/
theorem Pool.placeSynthetic_of_empty (hroom : (p.queue r.id).items.length < (p.queue r.id).limit)
    (hfree : p.free = []) (h : (p.queue r.id).policy = some .dropNew ∨ (p.queue r.id).items = [])
    (frame : List Byte) : p.placeSynthetic r frame = none := by
  simp only [Pool.placeSynthetic, if_neg (Nat.not_le.2 hroom), join_of_empty hfree]
  rcases h with hpolicy | hitems
  · exact if_neg (by simp [hpolicy])
  · simp only [recycle_of_empty hitems, ite_self]

end

/-! ### The part -/

theorem placeReceived_of_placed {q : QueueId} {frame : List Byte} {s : State} {p : Pool}
    (h : s.pool.placeReceived q frame = (.placed, p)) : placeReceived q frame s = (true, s.setPool p) := by
  simp only [placeReceived, h]

/-- A refusal is counted by its reason and delivers QUEUE_DROP (R28). -/
theorem placeReceived_of_refused {q : QueueId} {frame : List Byte} {s : State} {p : Pool} {r : Placement}
    (hr : r ≠ .placed) (h : s.pool.placeReceived q frame = (r, p)) :
    placeReceived q frame s = (false, { s with
      pool := p.setQueue q (countRefusal (p.queue q) r)
      deliveries := s.deliveries ++ [.event .queueDrop] }) := by
  cases r with
  | placed => exact absurd rfl hr
  | full | noBuffer => simp only [placeReceived, h]; rfl

theorem placeSynthetic_of_some {q : HostQueue} {frame : List Byte} {s : State} {p : Pool}
    (h : s.pool.placeSynthetic q frame = some p) : placeSynthetic q frame s = (true, s.setPool p) := by
  simp only [placeSynthetic, h]

theorem placeSynthetic_of_none {q : HostQueue} {frame : List Byte} {s : State}
    (h : s.pool.placeSynthetic q frame = none) : placeSynthetic q frame s = (false, s) := by
  simp only [placeSynthetic, h]

/-- Settles O13: the table of R28 row by row, then that of R29. -/
theorem framePlacement : Obligations.FramePlacement := by
  refine ⟨fun q frame s _ _ _ => ⟨?dropOld, ?free, ?full, ?scarce⟩,
    fun q frame s _ _ _ => ⟨?dropOldSynthetic, ?freeSynthetic, ?fullSynthetic, ?emptySynthetic⟩⟩
  case dropOld =>
    exact fun i rest hpolicy hitems h => placeReceived_of_placed (Pool.placeReceived_of_dropOld hpolicy hitems h frame)
  case free =>
    exact fun i rest hroom hspare hfree =>
      placeReceived_of_placed (Pool.placeReceived_of_free hroom hspare hfree frame)
  case full =>
    exact fun hpolicy hfull => placeReceived_of_refused (by decide) (Pool.placeReceived_of_full hpolicy hfull frame)
  case scarce =>
    rintro ⟨hroom, hscarce⟩ h
    exact placeReceived_of_refused (by decide) (Pool.placeReceived_of_scarce hroom hscarce h frame)
  case dropOldSynthetic =>
    exact fun i rest hpolicy hitems h => placeSynthetic_of_some (Pool.placeSynthetic_of_dropOld hpolicy hitems h frame)
  case freeSynthetic =>
    exact fun i rest hroom hfree => placeSynthetic_of_some (Pool.placeSynthetic_of_free hroom hfree frame)
  case fullSynthetic =>
    exact fun hpolicy hfull => placeSynthetic_of_none (Pool.placeSynthetic_of_full hpolicy hfull frame)
  case emptySynthetic =>
    exact fun hroom hfree h => placeSynthetic_of_none (Pool.placeSynthetic_of_empty hroom hfree h frame)

end Sys2Proof.Machine
end

section
/-! PROOFS. The event causes and their masks; the frames requested of the Management Unit, the emission of those it
owes, and the events delivered to it (R30, R32, R33, R94, R95, R142, R162, R173, R174). -/

namespace Sys2Proof.Machine

/-! ### Causes in ascending number -/

theorem map_causeIndex_allCauses : allCauses.map causeIndex = List.finRange 16 := by decide

theorem mem_allCauses (c : EventCause) : c ∈ allCauses := by cases c <;> decide

theorem nodup_allCauses : allCauses.Nodup := by decide

theorem causeIndex_injective : Function.Injective causeIndex := fun c d h =>
  List.inj_on_of_nodup_map (map_causeIndex_allCauses ▸ List.nodup_finRange 16) (mem_allCauses c) (mem_allCauses d) h

theorem causeIndex_surjective : Function.Surjective causeIndex := fun i => by
  obtain ⟨c, -, hc⟩ := List.mem_map.1 (map_causeIndex_allCauses ▸ List.mem_finRange i)
  exact ⟨c, hc⟩

theorem pairwise_allCauses : (allCauses.map causeIndex).Pairwise (· < ·) :=
  map_causeIndex_allCauses ▸ List.pairwise_lt_finRange 16

/-- The causes before and after one of them. -/
theorem allCauses_split (c : EventCause) :
    ∃ before after, allCauses = before ++ c :: after ∧ ∀ d ∈ before, causeIndex d < causeIndex c := by
  obtain ⟨before, after, h⟩ := List.append_of_mem (mem_allCauses c)
  have hpair : (before ++ c :: after).Pairwise (fun d e => causeIndex d < causeIndex e) :=
    h ▸ List.pairwise_map.1 pairwise_allCauses
  exact ⟨before, after, h, fun d hd => (List.pairwise_append.1 hpair).2.2 d hd c (List.mem_cons_self ..)⟩

/-! ### Masks of causes -/

theorem hasCause_eq_true_iff {m : BitVec 16} {c : EventCause} :
    hasCause m c = true ↔ m &&& BitVec.twoPow 16 (causeIndex c).val ≠ 0 := by
  have hpow : BitVec.twoPow 16 (causeIndex c).val ≠ 0 := by cases c <;> decide
  rw [hasCause, BitVec.and_twoPow]
  split <;> simp_all

theorem hasCause_eq_false_iff {m : BitVec 16} {c : EventCause} :
    hasCause m c = false ↔ m &&& BitVec.twoPow 16 (causeIndex c).val = 0 := by
  rw [← Bool.not_eq_true, hasCause_eq_true_iff, not_not]

@[simp] theorem hasCause_setCause_same (m : BitVec 16) (c : EventCause) (b : Bool) :
    hasCause (setCause m c b) c = b := by
  cases b <;> simp [hasCause, setCause, setBit]

theorem hasCause_setCause_other (m : BitVec 16) {c d : EventCause} (h : d ≠ c) (b : Bool) :
    hasCause (setCause m c b) d = hasCause m d := by
  have hne : (causeIndex d).val ≠ (causeIndex c).val := fun heq => h (causeIndex_injective (Fin.ext heq))
  cases b <;> simp [hasCause, setCause, setBit, hne]

theorem hasCause_twoPow {c d : EventCause} : hasCause (BitVec.twoPow 16 (causeIndex c).val) d = true ↔ d = c := by
  simp [hasCause, ← Fin.ext_iff, causeIndex_injective.eq_iff, eq_comm]

theorem eq_zero_iff_no_cause {m : BitVec 16} : m = 0 ↔ ∀ c, hasCause m c = false := by
  refine ⟨fun h c => by simp [h, hasCause], fun h => BitVec.eq_of_getLsbD_eq fun i hi => ?_⟩
  obtain ⟨c, hc⟩ := causeIndex_surjective ⟨i, hi⟩
  have hbit := h c
  rw [hasCause, hc] at hbit
  simpa using hbit

theorem attnOf_eq_decide (flags enables : BitVec 16) : attnOf flags enables = decide (flags &&& enables ≠ 0) := by
  simp [attnOf, bne, Bool.beq_eq_decide_eq]

/-! ### Requests -/

theorem Mgmt.owesFrame_eq_false_iff {m : Mgmt} : m.owesFrame = false ↔ m.owedState = false ∧ m.owedNotices = 0 := by
  simp [Mgmt.owesFrame]

/-- A requested frame is placed at once: Q0 has room and no frame is owed (R32). -/
abbrev State.placesAtOnce (s : State) : Bool := s.pool.hasRoom && !s.mgmt.owesFrame

theorem State.placesAtOnce_iff {s : State} : s.placesAtOnce = true ↔
    s.pool.q0.items.length < s.pool.q0.limit ∧ s.pool.free ≠ [] ∧ s.mgmt.owedState = false
      ∧ s.mgmt.owedNotices = 0 := by
  simp [State.placesAtOnce, Pool.hasRoom_iff, Mgmt.owesFrame_eq_false_iff, and_assoc]

theorem State.placesAtOnce_eq_false_iff {s : State} : s.placesAtOnce = false ↔
    s.pool.q0.limit ≤ s.pool.q0.items.length ∨ s.pool.free = [] ∨ s.mgmt.owedState = true
      ∨ s.mgmt.owedNotices ≠ 0 := by
  rw [← Bool.not_eq_true, State.placesAtOnce_iff]
  simp only [not_and_or, not_lt, not_not, Bool.not_eq_false, ne_eq]

section
variable {s : State} {i : BufIdx} {rest : List BufIdx}

/-- A STATE frame takes the head of the Free List and is counted (R32, R176). -/
theorem placeState_of_free (h : s.pool.free = i :: rest) : placeState s = { s with
    pool := s.pool.joined .q0 (stateFrame s) i rest
    mgmt := { s.mgmt with counters := { s.mgmt.counters with
      stateReports := satInc s.mgmt.counters.stateReports } } } := by
  simp only [placeState, placeOnQ0, Pool.join_of_free h]
  rfl

/-- A NOTE frame takes the head of the Free List and is counted (R32, R176). -/
theorem placeNote_of_free (h : s.pool.free = i :: rest) (c : EventCause) : placeNote c s = { s with
    pool := s.pool.joined .q0 (noteFrame c s) i rest
    mgmt := { s.mgmt with counters := { s.mgmt.counters with notices := satInc s.mgmt.counters.notices } } } := by
  simp only [placeNote, placeOnQ0, Pool.join_of_free h]
  rfl

theorem requestState_of_placed (h : s.placesAtOnce = true) : requestState s = placeState s := if_pos h

theorem requestNote_of_placed (h : s.placesAtOnce = true) (c : EventCause) : requestNote c s = placeNote c s :=
  if_pos h

/-- A STATE frame already owed is not owed twice (R32). -/
theorem requestState_of_owed (h : s.mgmt.owedState = true) : requestState s = s := by
  have hnot : s.placesAtOnce = false := State.placesAtOnce_eq_false_iff.2 (.inr (.inr (.inl h)))
  exact (if_neg (Bool.eq_false_iff.1 hnot)).trans (if_pos h)

theorem requestState_of_owing (h : s.placesAtOnce = false) (howed : s.mgmt.owedState = false) :
    requestState s = countOwed (s.setMgmt { s.mgmt with owedState := true }) :=
  (if_neg (Bool.eq_false_iff.1 h)).trans (if_neg (Bool.eq_false_iff.1 howed))

theorem requestNote_of_owing (h : s.placesAtOnce = false) (c : EventCause) :
    requestNote c s = countOwed (s.setMgmt { s.mgmt with owedNotices := setCause s.mgmt.owedNotices c true }) :=
  if_neg (Bool.eq_false_iff.1 h)

end

/-! ### Payloads -/

/-- The Posture Record byte by byte (R94). -/
theorem postureRecord_eq (e : PostureEngine) : postureRecord e =
    [byteNat e.posture.code.val, (match e.entry with | none => 255 | some i => byteNat i.val),
      byteNat e.hinge, byteNat (e.hinge / 256),
      byteNat ((if e.hingeValid then 1 else 0) + (if e.lidsw then 2 else 0) + (if e.degenerate then 4 else 0)
        + (if e.motion then 8 else 0) + (if e.stale then 16 else 0) + (if e.flat then 32 else 0)),
      byteNat e.face.code, byteNat e.orientation.code, lowByte e.changeCount, highByte e.changeCount,
      lowByte e.changeTime, highByte e.changeTime] := by
  simp only [postureRecord, maskByte_six, le16Nat_eq, indexByte]
  cases e.entry <;> rfl

/-- The body of a LOG notice (R56, R174). -/
theorem noticeBody_log (s : State) : noticeBody .log s =
    if s.classifier.log.valid then
      [1, byteNat s.classifier.log.reason.code, byteNat s.classifier.log.port.code, byteNat s.classifier.log.overflow]
    else [0, 0, 0, byteNat s.classifier.log.overflow] := by
  simp only [noticeBody, ErrorLog.shown]
  split
  case isTrue h => rw [h]; rfl
  case isFalse => rfl

/-- The body of a DOWN_FAIL notice (R174). -/
theorem noticeBody_downFail (s : State) : noticeBody .downFail s =
    [byteNat s.bport.counters.downFailed, byteNat (s.bport.counters.downFailed / 256),
      byteNat s.pool.qd.items.length] := by
  simp only [noticeBody, le16Nat_eq]
  rfl

/-- Settles O15: a request by whether it is placed at once, with the payload of each cause. -/
theorem requestedFramesArePlacedOrOwed : Obligations.RequestedFramesArePlacedOrOwed := by
  intro s q owing e record base link pen vote host sleep log body
  have hbody (c : EventCause) : noticeBody c s = body c := by
    cases c
    case log => exact noticeBody_log s
    case downFail => exact noticeBody_downFail s
    all_goals rfl
  refine ⟨fun i rest hroom hfree hstate hnotices => ?placed, fun h => ?owing⟩
  case placed =>
    have honce : s.placesAtOnce = true :=
      State.placesAtOnce_iff.2 ⟨hroom, by rw [hfree]; exact List.cons_ne_nil i rest, hstate, hnotices⟩
    refine ⟨?_, fun c => ?_⟩
    · rw [requestState_of_placed honce, placeState_of_free hfree, stateFrame, postureRecord_eq]
      rfl
    · rw [requestNote_of_placed honce, placeNote_of_free hfree, noteFrame, hbody]
      rfl
  case owing =>
    have hnot : s.placesAtOnce = false := State.placesAtOnce_eq_false_iff.2 h
    exact ⟨requestState_of_owed, requestState_of_owing hnot, requestNote_of_owing hnot⟩

/-! ### Emission -/

/-- The state after the owed notice of a cause was placed (R33). -/
def emitNotice (c : EventCause) (s : State) : State :=
  placeNote c (s.setMgmt { s.mgmt with owedNotices := setCause s.mgmt.owedNotices c false })

theorem emitNotice_owedNotices (c : EventCause) (s : State) :
    (emitNotice c s).mgmt.owedNotices = setCause s.mgmt.owedNotices c false := by
  simp [emitNotice]

theorem emitNotice_owedState (c : EventCause) (s : State) : (emitNotice c s).mgmt.owedState = s.mgmt.owedState := by
  simp [emitNotice]

section
variable {s : State} {c d : EventCause} {cs : List EventCause}

/-- An emission makes no cause owed. -/
theorem hasCause_emitNotice (h : hasCause s.mgmt.owedNotices d = false) :
    hasCause (emitNotice c s).mgmt.owedNotices d = false := by
  rw [emitNotice_owedNotices]
  by_cases hd : d = c
  · rw [hd, hasCause_setCause_same]
  · rwa [hasCause_setCause_other _ hd]

theorem emitNotices_of_not_owed (h : hasCause s.mgmt.owedNotices c = false) :
    emitNotices (c :: cs) s = emitNotices cs s :=
  if_neg (Bool.eq_false_iff.1 h)

theorem emitNotices_of_owed (h : hasCause s.mgmt.owedNotices c = true) (hroom : s.pool.hasRoom = true) :
    emitNotices (c :: cs) s = emitNotices cs (emitNotice c s) :=
  (if_pos h).trans (if_pos hroom)

theorem emitNotices_of_no_room (hroom : s.pool.hasRoom = false) : emitNotices cs s = s := by
  induction cs with
  | nil => rfl
  | cons c cs ih =>
    cases h : hasCause s.mgmt.owedNotices c with
    | true => exact (if_pos h).trans (if_neg (Bool.eq_false_iff.1 hroom))
    | false => exact (emitNotices_of_not_owed h).trans ih

/-- Causes that are not owed are passed over. -/
theorem emitNotices_append_of_not_owed {before : List EventCause}
    (h : ∀ d ∈ before, hasCause s.mgmt.owedNotices d = false) :
    emitNotices (before ++ cs) s = emitNotices cs s := by
  induction before with
  | nil => rfl
  | cons d before ih =>
    exact (emitNotices_of_not_owed (h d (List.mem_cons_self ..))).trans
      (ih fun e he => h e (List.mem_cons_of_mem d he))

theorem hasCause_emitNotices (h : hasCause s.mgmt.owedNotices d = false) :
    hasCause (emitNotices cs s).mgmt.owedNotices d = false := by
  induction cs generalizing s with
  | nil => exact h
  | cons c cs ih =>
    simp only [emitNotices]
    split
    · split
      · exact ih (hasCause_emitNotice h)
      · exact h
    · exact ih h

theorem emitNotices_owedState (cs : List EventCause) (s : State) :
    (emitNotices cs s).mgmt.owedState = s.mgmt.owedState := by
  induction cs generalizing s with
  | nil => rfl
  | cons c cs ih =>
    simp only [emitNotices]
    split
    · split
      · exact (ih (emitNotice c s)).trans (emitNotice_owedState c s)
      · rfl
    · exact ih s

/-- An emission ends with no room, or with none of its causes owed (R33). -/
theorem emitNotices_ends (cs : List EventCause) (s : State) :
    (emitNotices cs s).pool.hasRoom = false ∨ ∀ c ∈ cs, hasCause (emitNotices cs s).mgmt.owedNotices c = false := by
  induction cs generalizing s with
  | nil => exact .inr (by simp)
  | cons c cs ih =>
    cases hroom : s.pool.hasRoom with
    | false => exact .inl (by rwa [emitNotices_of_no_room hroom])
    | true =>
      have hrest : ∃ t, emitNotices (c :: cs) s = emitNotices cs t ∧ hasCause t.mgmt.owedNotices c = false := by
        cases h : hasCause s.mgmt.owedNotices c with
        | true => exact ⟨_, emitNotices_of_owed h hroom, by rw [emitNotice_owedNotices, hasCause_setCause_same]⟩
        | false => exact ⟨s, emitNotices_of_not_owed h, h⟩
      obtain ⟨t, ht, hc⟩ := hrest
      rw [ht]
      exact (ih t).imp_right fun hall => List.forall_mem_cons.2 ⟨hasCause_emitNotices hc, hall⟩

theorem emitOwed_of_no_state (h : s.mgmt.owedState = false) : emitOwed s = emitNotices allCauses s :=
  if_neg (Bool.eq_false_iff.1 h)

theorem emitOwed_of_state (h : s.mgmt.owedState = true) (hroom : s.pool.hasRoom = true) :
    emitOwed s = emitNotices allCauses (placeState (s.setMgmt { s.mgmt with owedState := false })) :=
  (if_pos h).trans (if_pos hroom)

theorem emitOwed_of_no_room (hroom : s.pool.hasRoom = false) : emitOwed s = s := by
  cases h : s.mgmt.owedState with
  | true => exact (if_pos h).trans (if_neg (Bool.eq_false_iff.1 hroom))
  | false => exact (emitOwed_of_no_state h).trans (emitNotices_of_no_room hroom)

/-- The owed STATE frame is emitted first, and the emission goes on (R33). -/
theorem emitOwed_state_first (h : s.mgmt.owedState = true) (hroom : s.pool.hasRoom = true) :
    emitOwed s = emitOwed (placeState (s.setMgmt { s.mgmt with owedState := false })) := by
  rw [emitOwed_of_state h hroom, emitOwed_of_no_state]
  simp

/-- The owed notice of the least cause is emitted first, and the emission goes on (R33). -/
theorem emitOwed_least_first (hroom : s.pool.hasRoom = true) (hstate : s.mgmt.owedState = false)
    (hc : hasCause s.mgmt.owedNotices c = true)
    (hleast : ∀ d, causeIndex d < causeIndex c → hasCause s.mgmt.owedNotices d = false) :
    emitOwed s = emitOwed (emitNotice c s) := by
  obtain ⟨before, after, hsplit, hbefore⟩ := allCauses_split c
  have hclear : hasCause (emitNotice c s).mgmt.owedNotices c = false := by
    rw [emitNotice_owedNotices, hasCause_setCause_same]
  have hpassed (d : EventCause) (hd : d ∈ before) : hasCause s.mgmt.owedNotices d = false := hleast d (hbefore d hd)
  calc emitOwed s = emitNotices (before ++ c :: after) s := hsplit ▸ emitOwed_of_no_state hstate
    _ = emitNotices (c :: after) s := emitNotices_append_of_not_owed hpassed
    _ = emitNotices after (emitNotice c s) := emitNotices_of_owed hc hroom
    _ = emitNotices (c :: after) (emitNotice c s) := (emitNotices_of_not_owed hclear).symm
    _ = emitNotices (before ++ c :: after) (emitNotice c s) :=
        (emitNotices_append_of_not_owed fun d hd => hasCause_emitNotice (hpassed d hd)).symm
    _ = emitOwed (emitNotice c s) :=
        hsplit ▸ (emitOwed_of_no_state ((emitNotice_owedState c s).trans hstate)).symm

/-- An emission of all causes with no STATE frame owed ends with no room or with nothing owed (R33). -/
theorem emitNotices_allCauses_ends (h : s.mgmt.owedState = false) :
    (emitNotices allCauses s).pool.hasRoom = false ∨ (emitNotices allCauses s).mgmt.owesFrame = false :=
  (emitNotices_ends allCauses s).imp_right fun hall => Mgmt.owesFrame_eq_false_iff.2
    ⟨(emitNotices_owedState allCauses s).trans h, eq_zero_iff_no_cause.2 fun c => hall c (mem_allCauses c)⟩

theorem emitOwed_ends (s : State) : (emitOwed s).pool.hasRoom = false ∨ (emitOwed s).mgmt.owesFrame = false := by
  cases hroom : s.pool.hasRoom with
  | false => exact .inl (by rwa [emitOwed_of_no_room hroom])
  | true =>
    cases h : s.mgmt.owedState with
    | true =>
      rw [emitOwed_of_state h hroom]
      exact emitNotices_allCauses_ends (by simp)
    | false =>
      rw [emitOwed_of_no_state h]
      exact emitNotices_allCauses_ends h

end

/-- Settles O16: the occasion taken, then the emission by what is owed first. -/
theorem owedFrameEmission : Obligations.OwedFrameEmission :=
  ⟨fun _ _ _ h => congrArg Host.Outcome.next (takingOne_of_front h _), fun s =>
    ⟨emitOwed_ends s, emitOwed_of_no_room, fun hroom hstate => emitOwed_state_first hstate hroom,
      fun _ hroom hstate hc hleast => emitOwed_least_first hroom hstate hc hleast⟩⟩

/-! ### Events delivered -/

section
variable {c : EventCause} {s : State}

/-- The state after the flag of a cause was set and ATTN recomputed (R173). -/
def flagged (c : EventCause) (s : State) : State :=
  s.setMgmt { s.mgmt with flags := setCause s.mgmt.flags c true }.refreshAttn

theorem flagged_eq (c : EventCause) (s : State) : flagged c s =
    let flags := s.mgmt.flags ||| BitVec.twoPow 16 (causeIndex c).val
    s.setMgmt { s.mgmt with flags := flags, attn := decide (flags &&& s.mgmt.enables ≠ 0) } :=
  congrArg (fun b => s.setMgmt { s.mgmt with flags := setCause s.mgmt.flags c true, attn := b }) (attnOf_eq_decide _ _)

/-- A NOTE is requested for a cause whose flag was clear and whose enable is set (R174). -/
theorem takeEvent_of_fresh (hflag : hasCause s.mgmt.flags c = false) (henable : hasCause s.mgmt.enables c = true) :
    takeEvent c s = requestNote c (flagged c s) :=
  if_pos (by rw [hflag, henable]; rfl)

theorem takeEvent_of_not_fresh (h : hasCause s.mgmt.flags c = true ∨ hasCause s.mgmt.enables c = false) :
    takeEvent c s = flagged c s :=
  if_neg (by rcases h with h | h <;> simp [h])

end

/-- Settles O51: the request of a STATE frame, then the event by its flag and its enable. -/
theorem eventDeliveries : Obligations.EventDeliveries := by
  refine ⟨fun before after s h => congrArg Host.Outcome.next (takingOne_of_front h _), ?_⟩
  intro before after c s h bit flags t
  have hexec : exec (.eventDelivery (.cause c)) s
      = .next (sLook (takeEvent c (s.setDeliveries (before ++ after)))) :=
    congrArg Host.Outcome.next (takingOne_of_front (d := .event c) h _)
  have ht : flagged c (s.setDeliveries (before ++ after)) = t := flagged_eq c _
  refine ⟨fun hflag henable => ?fresh, fun hnot => ?notFresh⟩
  case fresh =>
    rw [hexec, takeEvent_of_fresh (s := s.setDeliveries (before ++ after)) (hasCause_eq_false_iff.2 hflag)
      (hasCause_eq_true_iff.2 henable), ht]
  case notFresh =>
    have hnot' : hasCause s.mgmt.flags c = true ∨ hasCause s.mgmt.enables c = false :=
      hnot.imp hasCause_eq_true_iff.2 hasCause_eq_false_iff.2
    rw [hexec, takeEvent_of_not_fresh (s := s.setDeliveries (before ++ after)) hnot', ht]

end Sys2Proof.Machine
end

section
/-! PROOFS. The commands over the host power state, the wake table, the queues, the event flags and the log (R26, R37,
R56, R163 to R165, R174, R175). -/

namespace Sys2Proof.Machine

/-! ### The host power state and the wake table -/

theorem HostPower.ofCode_of_three_le {n : Nat} (h : 3 ≤ n) : HostPower.ofCode n = none := by
  obtain ⟨m, rfl⟩ := Nat.exists_eq_add_of_le' h
  rfl

/-- The latch of LID_OPEN alone, as its condition stands (R164). -/
theorem setBit_lidOpen (b : Bool) : setBit (0 : BitVec 8) lidOpenIndex b = if b then 1 else 0 := by
  cases b <;> rfl

section
variable {h : HostPower} {s : State}

/-- The host power state takes the value, with a cap change where it is another (R163). -/
theorem setHost_eq (h : HostPower) (s : State) : setHost h s =
    (s.setDeliveries (s.deliveries ++ if h = s.power.host then [] else [.capChange .hostState])).setPower
      { s.power with host := h } := by
  simp only [setHost]
  split
  · rw [List.append_nil]; rfl
  · rfl

/-- The entry to ASLEEP, field by field (R163, R165). -/
theorem enterAsleep_eq (s : State) : enterAsleep s = s.setPower { s.power with
    vote := .asleep, reason := .none, sleepDelay := none, idle := none, wakeLine := false
    latches := if s.power.lidOpen then 1 else 0
    counters := { s.power.counters with sleepEntries := satInc s.power.counters.sleepEntries } } := by
  simp only [enterAsleep, Power.latchSetup, setBit_lidOpen]
  rfl

theorem hostReport_active_of_awake (hv : s.power.vote ≠ .asleep ∧ s.power.vote ≠ .waking) :
    hostReport .active s = s := by
  obtain ⟨hasleep, hwaking⟩ := hv
  unfold hostReport
  cases hvote : s.power.vote with
  | awake | pending | requested => rfl
  | asleep => exact absurd hvote hasleep
  | waking => exact absurd hvote hwaking

theorem hostReport_active_of_sleeping (hv : ¬ (s.power.vote ≠ .asleep ∧ s.power.vote ≠ .waking)) :
    hostReport .active s = enterAwake (rowNow s) (setHost .active s) := by
  unfold hostReport
  cases hvote : s.power.vote with
  | asleep | waking => rfl
  | awake | pending | requested => exact absurd (by simp [hvote]) hv

theorem hostReport_of_asleep (hh : h ≠ .active) (hv : s.power.vote = .asleep) : hostReport h s = setHost h s := by
  unfold hostReport
  rw [hv]
  cases h with
  | active => exact absurd rfl hh
  | standby | off => rfl

theorem hostReport_of_not_asleep (hh : h ≠ .active) (hv : s.power.vote ≠ .asleep) :
    hostReport h s = enterAsleep (setHost h s) := by
  unfold hostReport
  cases h with
  | active => exact absurd rfl hh
  | standby | off =>
    cases hvote : s.power.vote with
    | asleep => exact absurd hvote hv
    | awake | pending | requested | waking => rfl

/-- SET_HOST_STATE answers the vote state after the report (R163). -/
theorem cmdSetHostState_eq {t : State} {v : Vote} (ht : hostReport h s = t) (hv : t.power.vote = v) :
    cmdSetHostState [byteNat h.code] s = okay [byteNat v.code] t := by
  subst ht hv
  cases h <;> rfl

theorem cmdSetHostState_of_bad {b : Byte} (hb : 3 ≤ b.toNat) (s : State) :
    cmdSetHostState [b] s = refuse .badValue s := by
  simp only [cmdSetHostState, HostPower.ofCode_of_three_le hb]

/-- WRITE_WAKE_TABLE latches a newly enabled source as its condition stands (R164). -/
theorem cmdWriteWakeTable_eq (mask : Byte) (s : State) : cmdWriteWakeTable [mask] s = okay [] (s.setPower
    { s.power with
      enables := mask
      latches := (s.power.latches &&& ~~~(mask &&& ~~~s.power.enables))
        ||| ((mask &&& ~~~s.power.enables) &&& if s.power.lidOpen then 1 else 0) }) := by
  simp only [cmdWriteWakeTable, writeEnables, Power.relatch, setBit_lidOpen]

end

/-! ### Queues -/

theorem QueueId.leastLimit_eq (q : QueueId) : q.leastLimit = if q = .q0 then 2 else 1 := by
  cases q <;> rfl

/-- The policy of Q0 is none whatever the argument; another queue's is the argument's (R26). -/
theorem policyOf_of_good {q : QueueId} {b : Byte} (h : q = .q0 ∨ b.toNat ≤ 1) :
    policyOf q b = some (if q = .q0 then none else if b.toNat = 0 then some .dropOld else some .dropNew) := by
  by_cases hq : q = .q0
  · rw [hq]; rfl
  · have hb : policyOf q b = (OverflowPolicy.ofCode b.toNat).map some := by
      cases q with
      | q0 => exact absurd rfl hq
      | q1 | q2 | q3 | qd => rfl
    rw [hb, if_neg hq]
    rcases Nat.le_one_iff_eq_zero_or_eq_one.1 (h.resolve_left hq) with h0 | h1
    · rw [h0]; rfl
    · rw [h1]; rfl

theorem policyOf_of_bad {q : QueueId} {b : Byte} (hq : q ≠ .q0) (hb : 2 ≤ b.toNat) : policyOf q b = none := by
  obtain ⟨m, hm⟩ := Nat.exists_eq_add_of_le' hb
  cases q with
  | q0 => exact absurd rfl hq
  | q1 | q2 | q3 | qd => simp only [policyOf, hm]; rfl

section
variable {q : QueueId} {n b : Byte} {s : State}

theorem cmdSetQueue_of_badIndex {i : Byte} (h : 5 ≤ i.toNat) (n b : Byte) (s : State) :
    cmdSetQueue [i, n, b] s = refuse .badIndex s := by
  simp only [cmdSetQueue, (QueueId.ofCode_eq_none_iff _).2 h]

theorem cmdSetQueue_of_badLimit (h : n.toNat < q.leastLimit ∨ 48 < n.toNat) (b : Byte) (s : State) :
    cmdSetQueue [byteNat q.code, n, b] s = refuse .badValue s := by
  have hout : inRange q.leastLimit 48 n.toNat = false := by
    rw [inRange, Bool.and_eq_false_iff, decide_eq_false_iff_not, decide_eq_false_iff_not]
    omega
  simp only [cmdSetQueue, QueueId.ofCode_byteNat_code, hout, Bool.not_false, if_true]

theorem inRange_of_le {low high v : Nat} (hlow : low ≤ v) (hhigh : v ≤ high) : inRange low high v = true := by
  simp [inRange, hlow, hhigh]

theorem cmdSetQueue_of_badPolicy (hlow : q.leastLimit ≤ n.toNat) (hhigh : n.toNat ≤ 48) (hpolicy : policyOf q b = none)
    (s : State) : cmdSetQueue [byteNat q.code, n, b] s = refuse .badValue s := by
  simp only [cmdSetQueue, QueueId.ofCode_byteNat_code, inRange_of_le hlow hhigh, hpolicy, Bool.not_true,
    Bool.false_eq_true, if_false]

theorem cmdSetQueue_of_busy {v : Option OverflowPolicy} (hlow : q.leastLimit ≤ n.toNat) (hhigh : n.toNat ≤ 48)
    (hpolicy : policyOf q b = some v) (hlen : n.toNat < (s.pool.queue q).items.length) :
    cmdSetQueue [byteNat q.code, n, b] s = refuse .busy s := by
  simp only [cmdSetQueue, QueueId.ofCode_byteNat_code, inRange_of_le hlow hhigh, hpolicy, Bool.not_true,
    Bool.false_eq_true, if_false, if_pos hlen]

theorem cmdSetQueue_of_good {v : Option OverflowPolicy} (hlow : q.leastLimit ≤ n.toNat) (hhigh : n.toNat ≤ 48)
    (hpolicy : policyOf q b = some v) (hlen : (s.pool.queue q).items.length ≤ n.toNat) :
    cmdSetQueue [byteNat q.code, n, b] s = okay []
      (s.setPool (s.pool.setQueue q { s.pool.queue q with limit := n.toNat, policy := v })) := by
  simp only [cmdSetQueue, QueueId.ofCode_byteNat_code, inRange_of_le hlow hhigh, hpolicy, Bool.not_true,
    Bool.false_eq_true, if_false, if_neg (Nat.not_lt.2 hlen)]

theorem flushableOf_byteNat_code (hq : q ≠ .q0) : flushableOf (byteNat q.code) = some q := by
  cases q with
  | q0 => exact absurd rfl hq
  | q1 | q2 | q3 | qd => rfl

theorem flushableOf_eq_none (h : b.toNat = 0 ∨ 5 ≤ b.toNat) : flushableOf b = none := by
  rcases h with h | h
  · simp only [flushableOf, h, QueueId.ofCode]
  · simp only [flushableOf, (QueueId.ofCode_eq_none_iff _).2 h]

/-- A flush empties a queue into the Free List, with one buffer-available event if it moved any (R34, R37). -/
theorem flushQueue_eq (q : QueueId) (s : State) : flushQueue q s = { s with
    pool := s.pool.flush q
    deliveries := s.deliveries ++ if (s.pool.queue q).items = [] then [] else availableDeliveries s } := by
  by_cases hq : (s.pool.queue q).items = []
  · rw [if_pos hq, List.append_nil]
    exact if_pos hq
  · rw [if_neg hq]
    exact (if_neg hq).trans (bufferAvailable_eq _)

/-- FLUSH_QUEUE: the flush, then what the dequeue delivers (R37). -/
theorem cmdFlushQueue_eq {v : Queue} (hq : q ≠ .q0) (hv : s.pool.queue q = v) :
    cmdFlushQueue [byteNat q.code] s = okay [] { s with
      pool := ({ s.pool with free := s.pool.free ++ v.items }).setQueue q { v with
        items := []
        counters := { v.counters with flushed := satAdd v.counters.flushed v.items.length } }
      deliveries := s.deliveries ++ (if v.items = [] then [] else availableDeliveries s)
        ++ dequeueDeliveries q s } := by
  subst hv
  simp only [cmdFlushQueue, flushableOf_byteNat_code hq, flushQueue_eq, dequeued_eq]
  cases q with
  | q0 => exact absurd rfl hq
  | q1 | q2 | q3 | qd => rfl

theorem cmdFlushQueue_of_bad (h : b.toNat = 0 ∨ 5 ≤ b.toNat) (s : State) :
    cmdFlushQueue [b] s = refuse .badIndex s := by
  simp only [cmdFlushQueue, flushableOf_eq_none h]

end

/-- The place of a response is on Q0 alone (R30). -/
theorem withPlace_queue {q : QueueId} (hq : q ≠ .q0) (s : State) : (withPlace s).pool.queue q = s.pool.queue q := by
  simp only [withPlace, Pool.join]
  split
  · rename_i hjoin
    split at hjoin
    · cases hjoin
    · cases hjoin
      cases q with
      | q0 => exact absurd rfl hq
      | q1 | q2 | q3 | qd => rfl
  · rfl

/-! ### Event flags -/

theorem cmdClearEvents_eq (b0 b1 : Byte) (s : State) : cmdClearEvents [b0, b1] s =
    let flags := s.mgmt.flags &&& ~~~(b1 ++ b0)
    okay [flags.setWidth 8, (flags >>> (8 : Nat)).setWidth 8] (s.setMgmt { s.mgmt with
      flags := flags, owedNotices := s.mgmt.owedNotices &&& ~~~(b1 ++ b0)
      attn := decide (flags &&& s.mgmt.enables ≠ 0) }) := by
  simp only [cmdClearEvents, Mgmt.clearFlags, Mgmt.refreshAttn, attnOf_eq_decide]
  rfl

/-- The causes of a mask whose flag is set and whose notice is not owed (R175). -/
def unannounced (mask : BitVec 16) (s : State) : BitVec 16 := mask &&& s.mgmt.flags &&& ~~~s.mgmt.owedNotices

theorem hasCause_unannounced (mask : BitVec 16) (c : EventCause) (s : State) : hasCause (unannounced mask s) c =
    (hasCause mask c && hasCause s.mgmt.flags c && !hasCause s.mgmt.owedNotices c) := by
  simp [hasCause, unannounced]

/-- A NOTE requested for one cause leaves what is owed of another. -/
theorem hasCause_requestNote {c d : EventCause} (h : d ≠ c) (s : State) :
    hasCause (requestNote c s).mgmt.owedNotices d = hasCause s.mgmt.owedNotices d := by
  cases hplace : s.placesAtOnce with
  | true => rw [requestNote_of_placed hplace]; simp
  | false =>
    rw [requestNote_of_owing hplace]
    simpa using hasCause_setCause_other _ h true

/-- The causes announced are those unannounced at the start: announcing one leaves the others as they were. -/
theorem announce_eq_foldl {cs : List EventCause} (hcs : cs.Nodup) (mask : BitVec 16) (s : State) :
    announce mask cs s = (cs.filter (hasCause (unannounced mask s))).foldl (fun v c => requestNote c v) s := by
  induction cs generalizing s with
  | nil => rfl
  | cons c cs ih =>
    obtain ⟨hc, hnodup⟩ := List.nodup_cons.1 hcs
    cases hfresh : hasCause (unannounced mask s) c with
    | true =>
      have hrest : cs.filter (hasCause (unannounced mask (requestNote c s)))
          = cs.filter (hasCause (unannounced mask s)) := by
        refine List.filter_congr fun d hd => ?_
        have hne : d ≠ c := fun h => hc (h ▸ hd)
        simp only [hasCause_unannounced, hasCause_requestNote hne, requestNote_frame]
      rw [List.filter_cons_of_pos hfresh, List.foldl_cons, ← hrest, ← ih hnodup]
      exact if_pos (hasCause_unannounced mask c s ▸ hfresh)
    | false =>
      rw [List.filter_cons_of_neg (Bool.eq_false_iff.1 hfresh), ← ih hnodup]
      exact if_neg (Bool.eq_false_iff.1 (hasCause_unannounced mask c s ▸ hfresh))

/-- Causes listed in ascending number are told by their mask. -/
theorem filter_allCauses {m : BitVec 16} {cs : List EventCause} (hsorted : (cs.map causeIndex).Pairwise (· < ·))
    (hmem : ∀ c, c ∈ cs ↔ hasCause m c = true) : allCauses.filter (hasCause m) = cs := by
  refine List.map_injective_iff.2 causeIndex_injective (List.Pairwise.eq_of_mem_iff ?_ hsorted fun i => ?_)
  · exact pairwise_allCauses.sublist (List.filter_sublist.map causeIndex)
  · simp only [List.mem_map, List.mem_filter, mem_allCauses, true_and, hmem]

/-- The enables set, and the causes announced in ascending number that it turns on, whose flag is set and whose notice
is not owed (R174, R175). -/
theorem setEnables_eq {mask : BitVec 16} {s : State} {cs : List EventCause}
    (hsorted : (cs.map causeIndex).Pairwise (· < ·))
    (hmem : ∀ c, c ∈ cs ↔ hasCause (unannounced (mask &&& ~~~s.mgmt.enables) s) c = true) :
    setEnables mask s = cs.foldl (fun v c => requestNote c v) (s.setMgmt { s.mgmt with
      enables := mask, attn := decide (s.mgmt.flags &&& mask ≠ 0) }) := by
  have hfilter : allCauses.filter (hasCause (unannounced (mask &&& ~~~s.mgmt.enables)
      (s.setMgmt { s.mgmt with enables := mask }.refreshAttn))) = cs := filter_allCauses hsorted hmem
  rw [setEnables, announce_eq_foldl nodup_allCauses, hfilter, Mgmt.refreshAttn, attnOf_eq_decide]

/-! ### The statement -/

/-- Settles O59: each command by its argument and by the record it reads. -/
theorem hostQueueAndEventCommands : Obligations.HostQueueAndEventCommands := by
  intro ch s hroom p w m answer
  have hokay {c : Instr} {code : Byte} {args data : List Byte} {run : List Byte → State → Answer} {t : State}
      (hc : exec c s = .next (mgmtEvent code ch args run s)) (h : run args p = okay data t) :
      exec c s = .next (answered code .ok data t s) := exec_of_answer (a := okay data t) hroom hc h
  have hrefuse {c : Instr} {code : Byte} {args : List Byte} {run : List Byte → State → Answer} {st : Status}
      (hc : exec c s = .next (mgmtEvent code ch args run s)) (h : run args p = refuse st p) :
      exec c s = .next (answered code st [] p s) := exec_of_answer (a := refuse st p) hroom hc h
  have hqueue {q : QueueId} (hq : q ≠ .q0) : p.pool.queue q = s.pool.queue q := withPlace_queue hq s
  obtain ⟨pool, hp⟩ : ∃ pool, p = s.setPool pool := withPlace_eq s
  clear_value p
  subst hp
  refine ⟨fun h => ?host, fun b hb => hrefuse rfl (cmdSetHostState_of_bad hb _),
    fun mask => hokay rfl (cmdWriteWakeTable_eq mask _), fun q n b => ?queue,
    fun b n x hb => hrefuse rfl (cmdSetQueue_of_badIndex hb n x _), fun q hq => ?flush,
    fun b hb => hrefuse rfl (cmdFlushQueue_of_bad hb _), fun b0 b1 => hokay rfl (cmdClearEvents_eq b0 b1 _),
    fun b0 b1 => ?enable, hokay rfl rfl⟩
  case host =>
    intro i told reply awake
    refine ⟨fun hh hv => ?_, fun hh hv => ?_, fun hh hv => ?_, fun hh hv => ?_⟩
    · subst hh
      exact hokay rfl (cmdSetHostState_eq (hostReport_active_of_awake (s := s.setPool pool) hv) rfl)
    · subst hh
      have hreport := hostReport_active_of_sleeping (s := s.setPool pool) hv
      exact hokay rfl (cmdSetHostState_eq (hreport.trans (congrArg (enterAwake _) (setHost_eq .active _))) rfl)
    · have hreport := hostReport_of_asleep (s := s.setPool pool) hh hv
      exact hokay rfl (cmdSetHostState_eq (hreport.trans (setHost_eq h _)) hv)
    · have hreport := hostReport_of_not_asleep (s := s.setPool pool) hh hv
      rw [setHost_eq, enterAsleep_eq] at hreport
      exact hokay rfl (cmdSetHostState_eq hreport rfl)
  case queue =>
    intro v i least
    have hleast : q.leastLimit = least := q.leastLimit_eq
    refine ⟨fun h => hrefuse rfl (cmdSetQueue_of_badLimit (hleast ▸ h) b _), fun hlow hhigh =>
      ⟨fun hq hb => hrefuse rfl (cmdSetQueue_of_badPolicy (hleast ▸ hlow) hhigh (policyOf_of_bad hq hb) _),
        fun hb => ⟨fun hlen => ?_, fun hlen => ?_⟩⟩⟩
    · exact hrefuse rfl (cmdSetQueue_of_busy (hleast ▸ hlow) hhigh (policyOf_of_good hb) hlen)
    · exact hokay rfl (cmdSetQueue_of_good (hleast ▸ hlow) hhigh (policyOf_of_good hb) hlen)
  case flush =>
    intro v emptied o
    have hdequeue : dequeueDeliveries q (s.setPool pool) = o := by
      cases q with
      | q0 => exact absurd rfl hq
      | q1 | q2 | q3 | qd => rfl
    exact hokay rfl (hdequeue ▸ cmdFlushQueue_eq hq (hqueue hq))
  case enable =>
    intro mask on fresh i
    have hset {cs : List EventCause} (hsorted : (cs.map causeIndex).Pairwise (· < ·))
        (hmem : ∀ c, c ∈ cs ↔ hasCause fresh c = true) :
        answer i 35 .ok (cs.foldl (fun v c => requestNote c v) on) :=
      hokay rfl (congrArg (okay []) (setEnables_eq (s := s.setPool pool) hsorted hmem))
    refine ⟨fun h => ?_, fun c h => ?_, fun cs hsorted hmem => hset hsorted hmem⟩
    · exact hset (cs := []) .nil fun c => by simp [h, hasCause]
    · exact hset (cs := [c]) (List.pairwise_singleton ..) fun d => by rw [h, hasCause_twoPow, List.mem_singleton]

end Sys2Proof.Machine
end

section
/-! PROOFS. The arguments of the route commands: each check of R41 by the bytes it lets pass, and the route that a
WRITE_ROUTE passing all of them describes (R40, R41, R45). -/

namespace Sys2Proof.Machine

/-! ### Codes -/

theorem UpPort.ofCode_eq_some_iff {n : Nat} {x : UpPort} : UpPort.ofCode n = some x ↔ x.code = n := by
  constructor
  · intro h
    unfold ofCode at h
    split at h <;> cases h <;> rfl
  · rintro rfl
    cases x <;> rfl

theorem Action.ofCode_eq_some_iff {n : Nat} {a : Action} : Action.ofCode n = some a ↔ a.code = n := by
  constructor
  · intro h
    unfold ofCode at h
    split at h <;> cases h <;> rfl
  · rintro rfl
    cases a <;> rfl

theorem UpPort.exists_code {n : Nat} (h : n ≤ 2) : ∃ x : UpPort, x.code = n := by
  interval_cases n
  exacts [⟨.b, rfl⟩, ⟨.l, rfl⟩, ⟨.p, rfl⟩]

theorem Action.exists_code {n : Nat} (h : n ≤ 3) : ∃ a : Action, a.code = n := by
  interval_cases n
  exacts [⟨.forward, rfl⟩, ⟨.tap, rfl⟩, ⟨.consume, rfl⟩, ⟨.drop, rfl⟩]

theorem Action.ofCode_of_four_le {n : Nat} (h : 4 ≤ n) : Action.ofCode n = none := by
  obtain ⟨m, rfl⟩ := Nat.exists_eq_add_of_le' h
  rfl

theorem HostQueue.ofCode_eq_some_iff {n : Nat} {q : HostQueue} : HostQueue.ofCode n = some q ↔ q.id.code = n := by
  constructor
  · intro h
    unfold ofCode at h
    split at h <;> cases h <;> rfl
  · rintro rfl
    cases q <;> rfl

theorem HostQueue.isSome_ofCode_iff {n : Nat} : (HostQueue.ofCode n).isSome = true ↔ 1 ≤ n ∧ n ≤ 3 := by
  constructor
  · intro h
    obtain ⟨q, hq⟩ := Option.isSome_iff_exists.1 h
    rw [← ofCode_eq_some_iff.1 hq]
    cases q <;> decide
  · rintro ⟨hlow, hhigh⟩
    interval_cases n <;> rfl

theorem HostQueue.ofCode_eq_none {n : Nat} (h : ¬ (1 ≤ n ∧ n ≤ 3)) : HostQueue.ofCode n = none :=
  Option.not_isSome_iff_eq_none.1 fun hsome => h (isSome_ofCode_iff.1 hsome)

theorem Kind.code_of_ofCode {n : Nat} {k : Kind} (h : Kind.ofCode n = some k) : k.code = n := by
  unfold ofCode at h
  split at h <;> cases h <;> rfl

/-! ### The single arguments -/

/-- The kind that a kind argument means: 15 is ANY (R39). -/
def kindArgument (b : Byte) : Option Kind := if b = 15 then none else Kind.ofCode b.toNat

/-- The kind arguments a route on a port can have (R41, check 5). -/
abbrev RoutableKind (port kind : Byte) : Prop :=
  kind = 15 ∨ (port = 0 ∧ kind.toNat ≤ 3) ∨ (port = 1 ∧ kind = 3) ∨ (port = 2 ∧ kind = 4)

/-- The gate class a gate argument means: 15 is NONE (R39). -/
abbrev GateArgument (gate : Byte) (g : Option GateClass) : Prop :=
  (gate = 15 ∧ g = none) ∨ ∃ n, g = some n ∧ n.val = gate.toNat

section
variable {x : UpPort} {a : Action} {port action b : Byte}

theorem eq_byteNat_of_toNat {n : Nat} (h : n = b.toNat) : b = byteNat n := by
  rw [h, byteNat_toNat]

theorem toNat_eq_fifteen_iff : b.toNat = 15 ↔ b = 15 := BitVec.toNat_inj (y := 15)

theorem spanOf_eq_some_iff {n : Nat} : spanOf b = some n ↔
    (b = 1 ∨ b = 2 ∨ b = 4 ∨ b = 8 ∨ b = 16) ∧ b.toNat = n := by
  simp only [spanOf, Option.ite_none_right_eq_some, Option.some.injEq, ← BitVec.toNat_inj]
  rfl

theorem RoutableKind.le_four (h : RoutableKind port b) : b = 15 ∨ b.toNat ≤ 4 := by
  rcases h with h | ⟨-, h⟩ | ⟨-, rfl⟩ | ⟨-, rfl⟩
  · exact .inl h
  · exact .inr (by omega)
  · decide
  · decide

theorem routeKindOf_eq_some_iff {k : Option Kind} (hx : x.code = port.toNat) : routeKindOf x b = some k ↔
    RoutableKind port b ∧ kindArgument b = k := by
  obtain rfl := eq_byteNat_of_toNat hx
  by_cases hany : b = 15
  · subst hany
    simp [routeKindOf, kindArgument, RoutableKind]
  simp only [routeKindOf, kindArgument, toNat_eq_fifteen_iff, hany, if_false]
  cases hk : Kind.ofCode b.toNat with
  | none =>
    have hbig : 13 ≤ b.toNat := (Kind.ofCode_eq_none_iff _).1 hk
    simp only [reduceCtorEq, false_iff]
    rintro ⟨hroutable, -⟩
    have := hroutable.le_four.resolve_left hany
    omega
  | some k' =>
    obtain rfl := eq_byteNat_of_toNat (Kind.code_of_ofCode hk)
    -- What is left is the table of kinds and ports.
    cases x <;> cases k' <;> simp [byteNat, UpPort.code, Kind.code, RoutableKind]

theorem actionQueueOf_eq_some_iff {q : Option HostQueue} (ha : a.code = action.toNat) : actionQueueOf a b = some q ↔
    (action.toNat ≤ 1 → 1 ≤ b.toNat ∧ b.toNat ≤ 3)
      ∧ (if action.toNat ≤ 1 then HostQueue.ofCode b.toNat else none) = q := by
  rw [← ha]
  have hqueue : (HostQueue.ofCode b.toNat).map some = some q ↔
      (1 ≤ b.toNat ∧ b.toNat ≤ 3) ∧ HostQueue.ofCode b.toNat = q := by
    rw [← HostQueue.isSome_ofCode_iff]
    cases HostQueue.ofCode b.toNat <;> simp
  cases a with
  | forward | tap => simpa [actionQueueOf, Action.code] using hqueue
  | consume | drop => simp [actionQueueOf, Action.code]

theorem actionQueueOf_of_queued {q : HostQueue} (ha : a = .forward ∨ a = .tap)
    (hq : HostQueue.ofCode b.toNat = some q) : actionQueueOf a b = some (some q) := by
  rcases ha with rfl | rfl <;> simp only [actionQueueOf, hq, Option.map_some]

theorem actionQueueOf_of_no_queue (ha : a = .forward ∨ a = .tap) (hq : HostQueue.ofCode b.toNat = none) :
    actionQueueOf a b = none := by
  rcases ha with rfl | rfl <;> simp only [actionQueueOf, hq, Option.map_none]

/-- Of the routable kinds ANY, KEYS and POINT may be gated (R41, check 8). -/
theorem RoutableKind.gated_iff (h : RoutableKind port b) :
    (kindArgument b = none ∨ kindArgument b = some .keys ∨ kindArgument b = some .point)
      ↔ (b = 15 ∨ b = 1 ∨ b = 2) := by
  rcases h.le_four with rfl | hb
  · decide
  · obtain ⟨n, hn⟩ : ∃ n, n = b.toNat := ⟨_, rfl⟩
    obtain rfl := eq_byteNat_of_toNat hn
    rw [← hn] at hb
    interval_cases n <;> decide

theorem gateAllowed_iff (hx : x.code = port.toNat) (ha : a.code = action.toNat) (hb : RoutableKind port b) :
    gateAllowed x (kindArgument b) a = true ↔ port = 0 ∧ action = 0 ∧ (b = 15 ∨ b = 1 ∨ b = 2) := by
  obtain rfl := eq_byteNat_of_toNat hx
  obtain rfl := eq_byteNat_of_toNat ha
  have hport : byteNat x.code = 0 ↔ x = .b := by cases x <;> decide
  have haction : byteNat a.code = 0 ↔ a = .forward := by cases a <;> decide
  rw [hport, haction, ← hb.gated_iff]
  simp [gateAllowed, and_assoc, or_assoc]

theorem finOf_eq_some_iff {n : Nat} {i : Fin n} : finOf n b = some i ↔ i.val = b.toNat := by
  unfold finOf
  split
  · simp [Fin.ext_iff, eq_comm]
  · next h => exact ⟨nofun, fun hi => absurd (hi ▸ i.isLt) h⟩

theorem gateClassOf_eq_some_iff {k : Option Kind} {g : Option GateClass} : gateClassOf x k a b = some g ↔
    (b = 15 ∧ g = none) ∨ (∃ n, g = some n ∧ n.val = b.toNat) ∧ gateAllowed x k a = true := by
  unfold gateClassOf
  split
  · next h =>
    constructor
    · rintro ⟨⟩
      exact .inl ⟨toNat_eq_fifteen_iff.1 h, rfl⟩
    · rintro (⟨-, rfl⟩ | ⟨⟨n, -, hn⟩, -⟩)
      · rfl
      · omega
  · next h =>
    have hb : ¬ b = 15 := fun hb => h (toNat_eq_fifteen_iff.2 hb)
    split
    · next hallowed =>
      simp only [hb, hallowed, false_and, false_or, and_true, Option.map_eq_some_iff, finOf_eq_some_iff]
      exact exists_congr fun n => by rw [and_comm, eq_comm]
    · next hallowed => simp only [hb, hallowed, false_and, and_false, or_false, reduceCtorEq]

end

/-! ### The checks together -/

section
variable {port base span kind action queue gate : Byte}

/-- The checks of WRITE_ROUTE on its arguments behind the index: port, base, span, kind on the port, action, queue of
FORWARD and TAP, and gate class (R41, checks 2 to 8). -/
def RouteArgumentsPass (port base span kind action queue gate : Byte) : Prop :=
  port.toNat ≤ 2 ∧ base.toNat ≤ 15
    ∧ (span = 1 ∨ span = 2 ∨ span = 4 ∨ span = 8 ∨ span = 16)
    ∧ RoutableKind port kind
    ∧ action.toNat ≤ 3 ∧ (action.toNat ≤ 1 → 1 ≤ queue.toNat ∧ queue.toNat ≤ 3)
    ∧ (gate = 15 ∨ (gate.toNat ≤ 7 ∧ port = 0 ∧ action = 0 ∧ (kind = 15 ∨ kind = 1 ∨ kind = 2)))

/-- The route the arguments describe, with port, action and gate class as they are read. -/
def describedRoute (x : UpPort) (base span kind : Byte) (a : Action) (action queue : Byte) (g : Option GateClass) :
    Route :=
  { valid := true, port := x, base := base.toNat / span.toNat * span.toNat, span := span.toNat
    kind := kindArgument kind, action := a
    queue := if action.toNat ≤ 1 then HostQueue.ofCode queue.toNat else none, gate := g, matchCount := 0 }

theorem routeOf_eq_some_iff {r : Route} : routeOf port base span kind action queue gate = some r ↔
    ∃ x b n a k q g, (UpPort.ofCode port.toNat = some x ∧ finOf 16 base = some b ∧ spanOf span = some n
      ∧ Action.ofCode action.toNat = some a) ∧ (routeKindOf x kind = some k ∧ actionQueueOf a queue = some q)
      ∧ gateClassOf x k a gate = some g
      ∧ { valid := true, port := x, base := alignBase b.val n, span := n, kind := k, action := a, queue := q
          gate := g, matchCount := 0 } = r := by
  constructor
  · intro h
    simp only [routeOf] at h
    split at h
    case h_2 => cases h
    rename_i x b n a hx hb hn ha
    split at h
    case h_2 => cases h
    rename_i k q hk hq
    split at h
    case h_2 => cases h
    rename_i g hg
    exact ⟨x, b, n, a, k, q, g, ⟨hx, hb, hn, ha⟩, ⟨hk, hq⟩, hg, Option.some.inj h⟩
  · rintro ⟨x, b, n, a, k, q, g, ⟨hx, hb, hn, ha⟩, ⟨hk, hq⟩, hg, rfl⟩
    simp only [routeOf, hx, hb, hn, ha, hk, hq, hg]

/-- Arguments that pass describe a route. -/
theorem routeOf_of_pass {x : UpPort} {a : Action} {g : Option GateClass}
    (h : RouteArgumentsPass port base span kind action queue gate) (hx : x.code = port.toNat)
    (ha : a.code = action.toNat) (hg : GateArgument gate g) :
    routeOf port base span kind action queue gate = some (describedRoute x base span kind a action queue g) := by
  obtain ⟨-, hbase, hspan, hkind, -, hqueue, hgate⟩ := h
  have hallowed : gateClassOf x (kindArgument kind) a gate = some g := by
    refine gateClassOf_eq_some_iff.2 (hg.imp_right fun hclass => ⟨hclass, ?_⟩)
    obtain ⟨n, -, hn⟩ := hclass
    rcases hgate with rfl | ⟨-, hgated⟩
    · exact absurd n.isLt (hn ▸ by decide)
    · exact (gateAllowed_iff hx ha hkind).2 hgated
  exact routeOf_eq_some_iff.2 ⟨x, ⟨base.toNat, by omega⟩, span.toNat, a, kindArgument kind, _, g,
    ⟨UpPort.ofCode_eq_some_iff.2 hx, finOf_eq_some_iff.2 rfl, spanOf_eq_some_iff.2 ⟨hspan, rfl⟩,
      Action.ofCode_eq_some_iff.2 ha⟩,
    ⟨(routeKindOf_eq_some_iff hx).2 ⟨hkind, rfl⟩, (actionQueueOf_eq_some_iff ha).2 ⟨hqueue, rfl⟩⟩,
    hallowed, rfl⟩

theorem exists_routeOf_of_pass (h : RouteArgumentsPass port base span kind action queue gate) :
    ∃ r, routeOf port base span kind action queue gate = some r := by
  have ⟨hport, _, _, _, haction, _, hgate⟩ := h
  obtain ⟨x, hx⟩ := UpPort.exists_code hport
  obtain ⟨a, ha⟩ := Action.exists_code haction
  obtain ⟨g, hg⟩ : ∃ g, GateArgument gate g := by
    rcases hgate with h15 | ⟨hclass, -⟩
    · exact ⟨none, .inl ⟨h15, rfl⟩⟩
    · exact ⟨some ⟨gate.toNat, by omega⟩, .inr ⟨_, rfl, rfl⟩⟩
  exact ⟨_, routeOf_of_pass h hx ha hg⟩

/-- Arguments that describe a route pass. -/
theorem pass_of_routeOf {r : Route} (h : routeOf port base span kind action queue gate = some r) :
    RouteArgumentsPass port base span kind action queue gate := by
  obtain ⟨x, b, n, a, k, q, g, ⟨hx, hb, hn, ha⟩, ⟨hk, hq⟩, hg, -⟩ := routeOf_eq_some_iff.1 h
  rw [UpPort.ofCode_eq_some_iff] at hx
  rw [Action.ofCode_eq_some_iff] at ha
  obtain ⟨hkind, rfl⟩ := (routeKindOf_eq_some_iff hx).1 hk
  have hport : port.toNat ≤ 2 := by cases x <;> simp [← hx, UpPort.code]
  have haction : action.toNat ≤ 3 := by cases a <;> simp [← ha, Action.code]
  have hbase : base.toNat < 16 := finOf_eq_some_iff.1 hb ▸ b.isLt
  refine ⟨hport, by omega, (spanOf_eq_some_iff.1 hn).1, hkind, haction,
    ((actionQueueOf_eq_some_iff ha).1 hq).1, ?_⟩
  rcases gateClassOf_eq_some_iff.1 hg with ⟨h15, -⟩ | ⟨⟨n, -, hn⟩, hallowed⟩
  · exact .inl h15
  · exact .inr ⟨by omega, (gateAllowed_iff hx ha hkind).1 hallowed⟩

theorem routeOf_of_not_pass (h : ¬ RouteArgumentsPass port base span kind action queue gate) :
    routeOf port base span kind action queue gate = none :=
  Option.eq_none_iff_forall_ne_some.2 fun _ hr => h (pass_of_routeOf hr)

theorem kind_of_kindArgument_none (h : RoutableKind port kind) (hnone : kindArgument kind = none) : kind = 15 := by
  simp only [kindArgument, ite_eq_left_iff, Kind.ofCode_eq_none_iff] at hnone
  by_contra hne
  have := hnone hne
  have := h.le_four.resolve_left hne
  omega

theorem code_of_kindArgument {k : Kind} (h : kindArgument kind = some k) : k.code = kind.toNat := by
  simp only [kindArgument, Option.ite_none_left_eq_some] at h
  exact Kind.code_of_ofCode h.2

/-- READ_ROUTE shows the arguments of the route they describe, the queue of CONSUME and DROP as 0 (R43). -/
theorem routeBytes_describedRoute {x : UpPort} {a : Action} {g : Option GateClass}
    (h : RouteArgumentsPass port base span kind action queue gate) (hx : x.code = port.toNat)
    (ha : a.code = action.toNat) (hg : GateArgument gate g) :
    routeBytes (describedRoute x base span kind a action queue g) =
      [1, port, byteNat (base.toNat / span.toNat * span.toNat), span, kind, action,
        if action.toNat ≤ 1 then queue else 0, gate, 0, 0] := by
  obtain ⟨-, -, -, hkind, -, hqueue, -⟩ := h
  have hqueueByte : byteNat (queueField (if action.toNat ≤ 1 then HostQueue.ofCode queue.toNat else none))
      = if action.toNat ≤ 1 then queue else 0 := by
    split
    · next hqueued =>
      obtain ⟨q, hq⟩ := Option.isSome_iff_exists.1 (HostQueue.isSome_ofCode_iff.2 (hqueue hqueued))
      rw [hq, queueField, HostQueue.ofCode_eq_some_iff.1 hq, byteNat_toNat]
    · rfl
  simp only [routeBytes, describedRoute, hqueueByte, hx, ha, byteNat_toNat, le16Nat_eq]
  cases hk : kindArgument kind with
  | none =>
    obtain rfl := kind_of_kindArgument_none hkind hk
    rcases hg with ⟨rfl, rfl⟩ | ⟨n, rfl, hn⟩
    · rfl
    · simp only [hn, byteNat_toNat]
      rfl
  | some k =>
    rcases hg with ⟨rfl, rfl⟩ | ⟨n, rfl, hn⟩
    · simp only [code_of_kindArgument hk, byteNat_toNat]
      rfl
    · simp only [code_of_kindArgument hk, hn, byteNat_toNat]
      rfl

end
end Sys2Proof.Machine
end

section
/-! PROOFS. The Route Table and the Default Route between two steps: all that any command but a route command can
change of a route is its match counter, and the route commands store routes that stand as R40, R41 and R45 say. -/

namespace Sys2Proof.Machine

/-! ### The tables apart from their match counters -/

/-- A route apart from its match counter. -/
def Route.uncounted (r : Route) : Route := { r with matchCount := 0 }

/-- The Route Table and the Default Route apart from their match counters. -/
def Classifier.tables (c : Classifier) : Vector Route 24 × DefaultRoute :=
  (c.routes.map Route.uncounted, { c.dflt with matchCount := 0 })

theorem Route.wellFormed_uncounted {r : Route} : r.uncounted.wellFormed ↔ r.wellFormed := Iff.rfl

/-- The law reads nothing but the tables. -/
theorem RouteLaw.of_tables {s t : State} (h : RouteLaw s) (ht : t.classifier.tables = s.classifier.tables) :
    RouteLaw t := by
  obtain ⟨hroutes, hdflt⟩ := h
  obtain ⟨hr, hd⟩ := Prod.mk.inj ht
  have hqueue := congrArg DefaultRoute.queue hd
  have haction := congrArg DefaultRoute.action hd
  refine ⟨fun i => ?_, by simp_all⟩
  have hi := congrArg (fun v => v[i]) hr
  simp only [Fin.getElem_fin, Vector.getElem_map] at hi
  exact Route.wellFormed_uncounted.1 (hi ▸ Route.wellFormed_uncounted.2 (hroutes i))

/-- A match counter set leaves the table apart from the counters as it was. -/
theorem map_uncounted_set (v : Vector Route 24) (i : Fin 24) (n : Counter) :
    (v.set i { v[i] with matchCount := n }).map Route.uncounted = v.map Route.uncounted := by
  ext j hj : 1
  simp only [Vector.getElem_map, Vector.getElem_set]
  split
  · next h => subst h; rfl
  · rfl

@[simp] theorem Classifier.countMatch_tables (c : Classifier) (port : UpPort) (f : Frame) :
    (c.countMatch port f).tables = c.tables := by
  simp only [countMatch]
  split
  · exact congrArg (·, _) (map_uncounted_set c.routes _ _)
  · rfl

@[simp] theorem Classifier.softReset_tables (c : Classifier) : c.softReset.tables = c.tables := by
  simp only [tables, softReset, Vector.map_map]
  rfl

/-! ### Classification and the ports -/

@[simp] theorem reportError_tables (r : LogReason) (port : Port) (unit : List Byte) (s : State) :
    (reportError r port unit s).classifier.tables = s.classifier.tables := by
  simp only [reportError]; split <;> rfl

@[simp] theorem countUnconsumed_tables (s : State) :
    (countUnconsumed s).classifier.tables = s.classifier.tables := rfl

@[simp] theorem countGated_tables (s : State) : (countGated s).classifier.tables = s.classifier.tables := rfl

@[simp] theorem forwardDecided_tables (d : Decision) (f : Frame) (s : State) :
    (forwardDecided d f s).2.classifier.tables = s.classifier.tables := by
  simp only [forwardDecided]; split <;> simp

@[simp] theorem act_tables (d : Decision) (port : UpPort) (f : Frame) (s : State) :
    (act d port f s).2.classifier.tables = s.classifier.tables := by
  simp only [act]; split <;> simp

@[simp] theorem classify_tables (port : UpPort) (f : Frame) (s : State) :
    (classify port f s).2.classifier.tables = s.classifier.tables := by
  simp [classify]

@[simp] theorem checkDeclared_tables (d : Descriptor) (f : Frame) (s : State) :
    (checkDeclared d f s).classifier.tables = s.classifier.tables := by
  simp only [checkDeclared]; (repeat' split) <;> simp

@[simp] theorem checkAttached_tables (f : Frame) (s : State) :
    (checkAttached f s).classifier.tables = s.classifier.tables := by
  simp only [checkAttached]; (repeat' split) <;> simp

@[simp] theorem takeBaseFrame_tables (f : Frame) (s : State) :
    (takeBaseFrame f s).classifier.tables = s.classifier.tables := by
  simp only [takeBaseFrame]; split <;> simp

@[simp] theorem receiveB_tables (unit : List Byte) (s : State) :
    (receiveB unit s).classifier.tables = s.classifier.tables := by
  simp only [receiveB]; (repeat' split) <;> simp

@[simp] theorem receiveL_tables (unit : List Byte) (s : State) :
    (receiveL unit s).classifier.tables = s.classifier.tables := by
  simp only [receiveL]; (repeat' split) <;> simp

@[simp] theorem receiveP_tables (unit : List Byte) (s : State) :
    (receiveP unit s).classifier.tables = s.classifier.tables := by
  simp only [receiveP]; (repeat' split) <;> simp

/-! ### Lines, timers and deliveries -/

@[simp] theorem presenceReleased_classifier (s : State) : (presenceReleased s).classifier = s.classifier := by
  simp only [presenceReleased]; split <;> simp

@[simp] theorem handshakeExpired_classifier (s : State) : (handshakeExpired s).classifier = s.classifier := by
  simp only [handshakeExpired]; (repeat' split) <;> simp

@[simp] theorem hostFrameSent_classifier (s : State) : (hostFrameSent s).classifier = s.classifier := by
  simp only [hostFrameSent]; split <;> simp

@[simp] theorem freshnessExpired_classifier (s : State) : (freshnessExpired s).classifier = s.classifier := by
  simp only [freshnessExpired]; split <;> simp

@[simp] theorem lookWhereAsked_classifier (s : State) : (lookWhereAsked s).classifier = s.classifier := by
  simp only [lookWhereAsked]; split <;> simp

@[simp] theorem tryRelease_classifier (o : RetryOccasion) (s : State) :
    (tryRelease o s).classifier = s.classifier := by
  simp only [tryRelease]; split <;> simp

@[simp] theorem tryLift_classifier (o : RetryOccasion) (s : State) : (tryLift o s).classifier = s.classifier := by
  simp only [tryLift]; split <;> simp

/-- A delivery taken keeps the law where what is done with it leaves the classifier alone. -/
theorem RouteLaw.taking {α : Type} {r : Block × Block} {sel : Delivery → Option α} {f : α → State → State}
    {s : State} (h : RouteLaw s) (hf : ∀ a t, (f a t).classifier = t.classifier) :
    RouteLaw (taking r sel f s) := by
  rcases taking_cases r sel f s with he | ⟨a, ds, -, he⟩ <;> rw [he]
  · exact h
  · exact h.of_tables (by simp [hf])

theorem RouteLaw.takingOne {d : Delivery} {f : State → State} {s : State} (h : RouteLaw s)
    (hf : ∀ t, (f t).classifier = t.classifier) : RouteLaw (takingOne d f s) :=
  h.taking fun _ => hf

/-- An event that acts only under a condition keeps the law where its act leaves the classifier alone. -/
theorem RouteLaw.guarded {p : Prop} [Decidable p] {s t : State} (h : RouteLaw s)
    (ht : t.classifier = s.classifier) : RouteLaw (if p then t else s) := by
  split
  · exact h.of_tables (by rw [ht])
  · exact h

theorem RouteLaw.presenceAsserted {s : State} (h : RouteLaw s) : RouteLaw (presenceAsserted s) := by
  simp only [Machine.presenceAsserted]
  split
  · exact h.takingOne (by simp)
  · exact h.of_tables (by simp)

/-! ### The route commands -/

/-- An entry replaced by one that stands in the relations of a route keeps the law. -/
theorem RouteLaw.setRoute {i : Fin 24} {r : Route} {s : State} (h : RouteLaw s) (hr : r.wellFormed) :
    RouteLaw (setRoute i r s) := by
  obtain ⟨hroutes, hdflt⟩ := h
  refine ⟨fun j => ?_, hdflt⟩
  simp only [Machine.setRoute, State.setClassifier_classifier, Fin.getElem_fin, Vector.getElem_set]
  split
  · exact hr
  · exact hroutes j

theorem spanOf_eq_some {b : Byte} {n : Nat} (h : spanOf b = some n) :
    n = 1 ∨ n = 2 ∨ n = 4 ∨ n = 8 ∨ n = 16 := by
  simp only [spanOf, Option.ite_none_right_eq_some, Option.some.injEq] at h
  obtain ⟨hspan, rfl⟩ := h
  exact hspan

/-- An aligned base is a multiple of the span, and its window ends within the sixteen channels (R40). -/
theorem alignBase_window {b n : Nat} (hb : b < 16) (hn : n = 1 ∨ n = 2 ∨ n = 4 ∨ n = 8 ∨ n = 16) :
    alignBase b n % n = 0 ∧ alignBase b n + n ≤ 16 := by
  simp only [alignBase, Nat.mul_mod_left, true_and]
  rcases hn with rfl | rfl | rfl | rfl | rfl <;> omega

theorem isSome_of_actionQueueOf {a : Action} {b : Byte} {q : Option HostQueue} (h : actionQueueOf a b = some q) :
    q.isSome = (a == .forward || a == .tap) := by
  cases a <;> simp only [actionQueueOf, Option.map_eq_some_iff, Option.some.injEq] at h
  case forward | tap => obtain ⟨_, -, rfl⟩ := h; rfl
  case consume | drop => subst h; rfl

theorem gateAllowed_of_gateClassOf {port : UpPort} {kind : Option Kind} {a : Action} {b : Byte}
    {g : Option GateClass} (h : gateClassOf port kind a b = some g) (hg : g.isSome = true) :
    gateAllowed port kind a = true := by
  rcases gateClassOf_eq_some_iff.1 h with ⟨-, rfl⟩ | ⟨-, hallowed⟩
  · cases hg
  · exact hallowed

/-- A route that passes the checks of WRITE_ROUTE stands in the relations of a route (R40, R41). -/
theorem wellFormed_of_routeOf {port base span kind action queue gate : Byte} {r : Route}
    (h : routeOf port base span kind action queue gate = some r) : r.wellFormed := by
  obtain ⟨x, b, n, a, k, q, g, ⟨-, -, hn, -⟩, ⟨-, hq⟩, hg, rfl⟩ := routeOf_eq_some_iff.1 h
  have hspan := spanOf_eq_some hn
  obtain ⟨haligned, hwithin⟩ := alignBase_window b.isLt hspan
  exact ⟨hspan, haligned, hwithin, isSome_of_actionQueueOf hq, gateAllowed_of_gateClassOf hg⟩

theorem RouteLaw.cmdWriteRoute {s : State} (h : RouteLaw s) (args : List Byte) :
    RouteLaw (cmdWriteRoute args s).state := by
  simp only [Machine.cmdWriteRoute]
  split
  case h_2 => exact h
  split
  · exact h
  · split
    · exact h
    · rename_i r hr
      split
      · exact h
      · exact h.setRoute (wellFormed_of_routeOf hr)

theorem RouteLaw.cmdInvalidateRoute {s : State} (h : RouteLaw s) (args : List Byte) :
    RouteLaw (cmdInvalidateRoute args s).state := by
  simp only [Machine.cmdInvalidateRoute]
  split
  case h_2 => exact h
  split
  · exact h
  · rename_i i _
    exact h.setRoute (h.1 i)

theorem RouteLaw.cmdSetDefaultRoute {s : State} (h : RouteLaw s) (args : List Byte) :
    RouteLaw (cmdSetDefaultRoute args s).state := by
  simp only [Machine.cmdSetDefaultRoute]
  split
  case h_2 => exact h
  split
  · exact h
  · split
    · exact h
    · rename_i hqueue
      exact ⟨h.1, isSome_of_actionQueueOf hqueue⟩

@[simp] theorem cmdReadRoute_tables (args : List Byte) (s : State) :
    (cmdReadRoute args s).state.classifier.tables = s.classifier.tables := by
  simp only [cmdReadRoute]
  split
  case h_2 => rfl
  split
  · rename_i i _
    split
    · rfl
    · split
      · exact congrArg (·, _) (map_uncounted_set s.classifier.routes i 0)
      · rfl
  · (repeat' split) <;> rfl

@[simp] theorem cmdClearLog_tables (args : List Byte) (s : State) :
    (cmdClearLog args s).state.classifier.tables = s.classifier.tables := by
  simp only [cmdClearLog]; split <;> rfl

@[simp] theorem clearGroup_tables (g : Fin 11) (s : State) :
    (clearGroup g s).classifier.tables = s.classifier.tables := by
  fin_cases g <;> rfl

@[simp] theorem cmdReadCounters_tables (args : List Byte) (s : State) :
    (cmdReadCounters args s).state.classifier.tables = s.classifier.tables := by
  simp only [cmdReadCounters]
  (repeat' split) <;> simp [okay, refuse]

/-- Every command that a code names, SOFT_RESET aside, keeps the law in its execution: all but three leave the tables
alone. -/
theorem RouteLaw.commandOf {code : Nat} {run : List Byte → State → Answer} (hc : commandOf code = some run)
    (args : List Byte) {s : State} (h : RouteLaw s) : RouteLaw (run args s).state := by
  unfold Machine.commandOf at hc
  split at hc <;> cases hc
  case h_2 => exact h.cmdWriteRoute args
  case h_3 => exact h.cmdInvalidateRoute args
  case h_5 => exact h.cmdSetDefaultRoute args
  all_goals exact h.of_tables (by simp)

/-! ### Answers and the S-port -/

/-- The transmitters' looks after a step leave the classifier alone. -/
theorem RouteLaw.lookAfter {s t : State} (h : RouteLaw t) : RouteLaw (lookAfter s t) :=
  h.of_tables (by simp)

@[simp] theorem overrun_tables (unit : List Byte) (s : State) :
    (overrun unit s).classifier.tables = s.classifier.tables := by
  simp [overrun]

@[simp] theorem complete_classifier (code : Byte) (i : BufIdx) (a : Answer) :
    (complete code i a).classifier = a.state.classifier := by
  simp [complete]

/-- A command with its response place taken keeps the law where its execution does. -/
theorem RouteLaw.respond {code : Byte} {unit : List Byte} {run : State → Answer} {s : State} (h : RouteLaw s)
    (hrun : ∀ t, RouteLaw t → RouteLaw (run t).state) : RouteLaw (respond code unit run s) := by
  rcases respond_cases code unit run s with ⟨-, i, p, -, he⟩ | he <;> rw [he]
  · exact (hrun (s.setPool p) h).of_tables (by simp)
  · exact h.of_tables (by simp)

@[simp] theorem placeResetResponse_classifier (s : State) :
    (placeResetResponse s).classifier = s.classifier := by
  simp only [placeResetResponse]; split <;> simp [okay]

@[simp] theorem softResetState_tables (s : State) :
    (softResetState s).classifier.tables = s.classifier.tables := by
  simp [softResetState]

theorem RouteLaw.runSoftReset {s : State} (h : RouteLaw s) (unit args : List Byte) :
    RouteLaw (runSoftReset unit args s) := by
  simp only [Machine.runSoftReset]
  split
  · split <;> exact h.of_tables (by simp)
  · exact h.respond fun _ => id

theorem RouteLaw.manage {s : State} (h : RouteLaw s) (unit payload : List Byte) :
    RouteLaw (manage unit payload s) := by
  cases payload with
  | nil => exact h.respond fun _ => id
  | cons code args =>
    simp only [Machine.manage]
    split
    · exact h.runSoftReset unit args
    · split
      · rename_i run hrun
        exact h.respond fun _ => .commandOf hrun args
      · exact h.respond fun _ => id

@[simp] theorem placeDownstream_classifier (f : Frame) (s : State) :
    (placeDownstream f s).classifier = s.classifier := by
  have hp := placeReceived_frame .qd f.raw s
  simp only [placeDownstream]
  split <;> simp_all

@[simp] theorem badDest_tables (f : Frame) (s : State) :
    (badDest f s).classifier.tables = s.classifier.tables := by
  simp [badDest]

theorem RouteLaw.takeHostFrame {s : State} (h : RouteLaw s) (f : Frame) : RouteLaw (takeHostFrame f s) := by
  simp only [Machine.takeHostFrame]
  split
  · split
    · exact RouteLaw.manage (h.of_tables (by simp)) _ _
    · exact h.of_tables (by simp)
  · (repeat' split) <;> exact h.of_tables (by simp)

theorem RouteLaw.receiveS {s : State} (h : RouteLaw s) (unit : List Byte) : RouteLaw (receiveS unit s) := by
  simp only [Machine.receiveS]
  split
  · split
    · exact RouteLaw.takeHostFrame (h.of_tables (by simp)) _
    · exact h.of_tables (by simp)
  · exact h.of_tables (by simp)

/-- A management command given as a command of its own keeps the law. -/
theorem RouteLaw.mgmtEvent {code : Byte} {run : List Byte → State → Answer} {s : State} (h : RouteLaw s)
    (hc : Machine.commandOf code.toNat = some run) (channel : Chan) (args : List Byte) :
    RouteLaw (mgmtEvent code channel args run s) :=
  (h.respond fun _ => .commandOf hc args).lookAfter

/-! ### Every command -/

/-- Every command keeps the law, taken by the kind of its meaning: the ports and the management commands reach the
tables, and no line, timer or delivery does. -/
theorem RouteLaw.exec {s : State} (h : RouteLaw s) (c : Instr) :
    ∃ t, exec c s = .next t ∧ RouteLaw t := by
  cases c with
  | powerOnReset => exact ⟨_, rfl, routeLaw_reset⟩
  | timeCountTick => exact ⟨_, rfl, h⟩
  -- Lines, units and the ends of what the transmitters send.
  | presenceAsserted => exact ⟨_, rfl, h.presenceAsserted⟩
  | sPortUnitCompleted => exact ⟨_, rfl, (h.receiveS _).lookAfter⟩
  | hostReadyChange | presenceReleased | bPortUnitCompleted | bPortSymbolReceived | lPortUnitCompleted
  | pPortUnitCompleted | handshakeWaitExpiry | sPortFrameEnd | bPortSymbolSent | partOriginatedFrameSent
  | downstreamFrameSent | baseFreshnessExpiry | drivePeriodEnd =>
    exact ⟨_, rfl, h.of_tables (by simp [hostReady])⟩
  -- Timers that act where they are due.
  | contactDebounceExpiry | identTimeoutExpiry | aliveWindowExpiry | pingExpiry | probeWindowExpiry
  | penSilenceExpiry | topUpExpiry | cooldownExpiry | sleepDelayExpiry | idleTimerExpiry =>
    exact ⟨_, rfl, h.guarded (by simp)⟩
  -- Deliveries taken.
  | owedFrameEmission | pendingItemRetry | inputGateTeardown | postureAdmission | postureTeardown
  | toggleAndHaltReset | transmitterTeardown | railTeardown | activityEvent | wakeSourceEvent | eventDelivery =>
    exact ⟨_, rfl, h.takingOne (by simp [admitPosture, tearPosture, resetToggles])⟩
  | admissionGrant => exact ⟨_, rfl, h.takingOne fun t => by split <;> simp⟩
  | releaseRetry | liftRetry | gateUpdate | capChange | powerPostureChange | powerPolicyEvent =>
    exact ⟨_, rfl, h.taking (by simp)⟩
  -- Management commands.
  | softReset => exact ⟨_, rfl, (h.runSoftReset _ _).lookAfter⟩
  | getInfo | writeRoute | invalidateRoute | readRoute | setDefaultRoute | writePosture | invalidatePosture
  | readPostureEntry | writePolicy | writeAxisMap | writeAngleParams | readPostureRecord | setRotationLock
  | writeBaseClass | readBaseRecord | setLinkTiming | channelHalt | channelResume | setBudget | readBudget
  | writeDriveLevel | writeChargeCell | setChargeParams | chargeEnable | readChargeRecord | setHostState
  | writeWakeTable | readSleepRecord | setQueue | flushQueue | readQueues | readEvents | clearEvents
  | setEventEnable | readLog | clearLog | readCounters =>
    exact ⟨_, rfl, h.mgmtEvent rfl _ _⟩

/-- Settles O9, command by command: match counters aside, only the route commands write the tables, and what passes
their checks stands in the relations of a route. -/
theorem everyStepKeepsTheRouteLaw : Obligations.EveryStepKeepsTheRouteLaw := by
  intro s t h hstep
  simp only [step] at hstep
  split at hstep
  · cases hstep
    exact h
  · rename_i c rest _
    obtain ⟨u, hu, hlaw⟩ := RouteLaw.exec (s := s.setPending rest) h c
    rw [hu] at hstep
    cases hstep
    exact hlaw

end Sys2Proof.Machine
end

section
/-! PROOFS. The classification of a frame: the entry of lowest index that matches, the counters of the decision and what
each action does with the frame (R44 to R53). -/

namespace Sys2Proof.Machine

section
variable {c : Classifier} {port : UpPort} {f : Frame} {s : State}

/-! ### Lookup -/

/-- A route matches a frame of its port, within its window, of its kind or of any (R40, R44). -/
theorem Route.accepts_iff {r : Route} : r.accepts port f = true ↔
    r.valid = true ∧ r.port = port ∧ r.base ≤ f.channel.val ∧ f.channel.val < r.base + r.span
      ∧ (r.kind = none ∨ r.kind = some f.kind) := by
  simp only [accepts, Bool.and_eq_true, beq_iff_eq, decide_eq_true_eq, and_assoc]
  cases r.kind <;> simp

theorem Classifier.lookup_eq_find? : c.lookup port f = Fin.find? fun i => c.routes[i].accepts port f :=
  Fin.find?_eq_find?_finRange.symm

/-- The matching entry of lowest index is found (R44). -/
theorem Classifier.lookup_eq_some_iff {i : Fin 24} : c.lookup port f = some i ↔
    c.routes[i].accepts port f = true ∧ ∀ j < i, c.routes[j].accepts port f = false := by
  rw [lookup_eq_find?, Fin.find?_eq_some_iff]

theorem Classifier.lookup_eq_none_iff : c.lookup port f = none ↔
    ∀ i : Fin 24, c.routes[i].accepts port f = false := by
  rw [lookup_eq_find?, Fin.find?_eq_none_iff]

/-! ### The decision and its counters -/

theorem classify_of_entry {i : Fin 24} (h : s.classifier.lookup port f = some i) : classify port f s =
    act { entry := some i, action := s.classifier.routes[i].action, queue := s.classifier.routes[i].queue
          gate := s.classifier.routes[i].gate } port f
      (s.setClassifier { s.classifier with
        routes := s.classifier.routes.set i
          { s.classifier.routes[i] with matchCount := satInc s.classifier.routes[i].matchCount }
        classified := satInc s.classifier.classified }) := by
  simp only [classify, Classifier.decision, Classifier.countMatch, h]

theorem classify_of_default (h : s.classifier.lookup port f = none) : classify port f s =
    act { entry := none, action := s.classifier.dflt.action, queue := s.classifier.dflt.queue, gate := none } port f
      (s.setClassifier { s.classifier with
        dflt := { s.classifier.dflt with matchCount := satInc s.classifier.dflt.matchCount }
        classified := satInc s.classifier.classified }) := by
  simp only [classify, Classifier.decision, Classifier.countMatch, h]

/-! ### The actions -/

/-- SAMPLE frames of the L-port and the B-port and PEN frames of the P-port alone have a consumer (R51). -/
theorem consumerOf_eq_none {k : Kind}
    (h : ¬ (((port = .l ∨ port = .b) ∧ k = .sample) ∨ (port = .p ∧ k = .pen))) : consumerOf port k = none := by
  unfold consumerOf
  split
  · exact absurd (.inl ⟨.inl rfl, rfl⟩) h
  · exact absurd (.inl ⟨.inr rfl, rfl⟩) h
  · exact absurd (.inr ⟨rfl, rfl⟩) h
  · rfl

/-- Without a gate class, and whatever the gate class for a kind that no filter takes, a FORWARD frame is placed
(R47, R52). -/
theorem forwardDecided_of_ungated {d : Decision} (h : d.gate = none ∨ (f.kind ≠ .keys ∧ f.kind ≠ .point)) :
    forwardDecided d f s = forward d.queue f s := by
  unfold forwardDecided
  split
  · next hgate _ hkind => exact absurd hkind (h.resolve_left (by simp [hgate])).1
  · next hgate _ hkind => exact absurd hkind (h.resolve_left (by simp [hgate])).2
  · rfl

section
variable {e : Option (Fin 24)} {q : Option HostQueue} {g : Option GateClass} {k : Consumer}

theorem act_consume_of_consumer (h : consumerOf port f.kind = some k) :
    act { entry := e, action := .consume, queue := q, gate := g } port f s = (true, consume k port f.payload s) := by
  simp only [act, h]

theorem act_consume_of_none (h : consumerOf port f.kind = none) :
    act { entry := e, action := .consume, queue := q, gate := g } port f s = (true, countUnconsumed s) := by
  simp only [act, h]

theorem act_tap_of_consumer (h : consumerOf port f.kind = some k) :
    act { entry := e, action := .tap, queue := q, gate := g } port f s
      = forward q f (consume k port f.payload s) := by
  simp only [act, h]

theorem act_tap_of_none (h : consumerOf port f.kind = none) :
    act { entry := e, action := .tap, queue := q, gate := g } port f s = forward q f s := by
  simp only [act, h]

end
end

/-- Settles O29: the lookup by its first match, then the actions. -/
theorem classificationOfAFrame : Obligations.ClassificationOfAFrame := by
  intro port f s r hit byEntry byDefault decided
  have hhit (i : Fin 24) : r[i].accepts port f = true ↔ hit i := Route.accepts_iff
  have hmiss (i : Fin 24) : r[i].accepts port f = false ↔ ¬ hit i := by rw [← hhit, Bool.not_eq_true]
  refine ⟨⟨rfl, rfl, rfl, consumerOf_eq_none⟩, fun i ⟨hi, hfirst⟩ => classify_of_entry ?_,
    fun h => classify_of_default ?_, fun e q g h => forwardDecided_of_ungated h,
    fun i q g => ⟨fun h => ?_, fun h => ?_⟩, fun e g q => rfl, fun e g q c => act_consume_of_consumer,
    fun e g q => act_consume_of_none, fun e g q c => act_tap_of_consumer, fun e g q => act_tap_of_none⟩
  · exact Classifier.lookup_eq_some_iff.2 ⟨(hhit i).2 hi, fun j hj => (hmiss j).2 (hfirst j hj)⟩
  · exact Classifier.lookup_eq_none_iff.2 fun i => (hmiss i).2 (h i)
  · simp only [act, forwardDecided, h]
    rfl
  · simp only [act, forwardDecided, h]
    rfl

end Sys2Proof.Machine
end

section
/-! PROOFS. The commands of the Route Table and of the Default Route (R39 to R43, R45). -/

namespace Sys2Proof.Machine

section
variable {i : Fin 24} {port base span kind action queue gate : Byte} {s : State}

/-- INVALIDATE_ROUTE clears the valid flag and nothing else of the entry (R42). -/
theorem cmdInvalidateRoute_eq (i : Fin 24) (s : State) : cmdInvalidateRoute [byteNat i.val] s =
    okay [] (s.setClassifier { s.classifier with
      routes := s.classifier.routes.set i { s.classifier.routes[i] with valid := false } }) := by
  simp only [cmdInvalidateRoute, finOf_byteNat i (by decide)]
  rfl

/-- An invalid entry is not found (R42, R44). -/
theorem Classifier.lookup_ne_of_invalid {c : Classifier} (h : c.routes[i].valid = false) (x : UpPort) (f : Frame) :
    c.lookup x f ≠ some i := by
  intro hfound
  have hvalid : c.routes[i].valid = true := (Route.accepts_iff.1 (lookup_eq_some_iff.1 hfound).1).1
  exact absurd (h.symm.trans hvalid) (by decide)

theorem cmdWriteRoute_of_badIndex {b : Byte} (h : 24 ≤ b.toNat) :
    cmdWriteRoute [b, port, base, span, kind, action, queue, gate] s = refuse .badIndex s := by
  simp only [cmdWriteRoute, finOf_of_le h]

theorem cmdWriteRoute_of_badValue (h : routeOf port base span kind action queue gate = none) :
    cmdWriteRoute [byteNat i.val, port, base, span, kind, action, queue, gate] s = refuse .badValue s := by
  simp only [cmdWriteRoute, finOf_byteNat i (by decide), h]

theorem cmdWriteRoute_of_busy {r : Route} (h : routeOf port base span kind action queue gate = some r)
    (hvalid : s.classifier.routes[i].valid = true) :
    cmdWriteRoute [byteNat i.val, port, base, span, kind, action, queue, gate] s = refuse .busy s := by
  simp only [cmdWriteRoute, finOf_byteNat i (by decide), h, hvalid, if_true]

theorem cmdWriteRoute_of_free {r : Route} (h : routeOf port base span kind action queue gate = some r)
    (hvalid : s.classifier.routes[i].valid = false) :
    cmdWriteRoute [byteNat i.val, port, base, span, kind, action, queue, gate] s = okay [] (setRoute i r s) := by
  simp only [cmdWriteRoute, finOf_byteNat i (by decide), h, hvalid, Bool.false_eq_true, if_false]

/-- SET_DEFAULT_ROUTE stores the action and its queue, and keeps the match counter (R45). -/
theorem cmdSetDefaultRoute_eq {a : Action} {b : Byte} {q : Option HostQueue} (h : actionQueueOf a b = some q) :
    cmdSetDefaultRoute [byteNat a.code, b] s = okay [] (s.setClassifier { s.classifier with
      dflt := { s.classifier.dflt with action := a, queue := q } }) := by
  have ha : Action.ofCode (byteNat a.code).toNat = some a := by cases a <;> rfl
  simp only [cmdSetDefaultRoute, ha, h]

theorem cmdSetDefaultRoute_of_badQueue {a : Action} {b : Byte} (h : actionQueueOf a b = none) :
    cmdSetDefaultRoute [byteNat a.code, b] s = refuse .badValue s := by
  have ha : Action.ofCode (byteNat a.code).toNat = some a := by cases a <;> rfl
  simp only [cmdSetDefaultRoute, ha, h]

end

/-- Settles O55: each command by its checks in their order and the route it stores. -/
theorem routeCommands : Obligations.RouteCommands := by
  intro ch s hroom p routes answer
  have hokay {c : Instr} {code : Byte} {args : List Byte} {run : List Byte → State → Answer} {t : State}
      (hc : exec c s = .next (mgmtEvent code ch args run s)) (h : run args p = okay [] t) : answer c code .ok t :=
    exec_of_answer (a := okay [] t) hroom hc h
  obtain ⟨pool, hp⟩ : ∃ pool, p = s.setPool pool := withPlace_eq s
  have hclassifier : p.classifier = s.classifier := by rw [hp]; rfl
  refine ⟨fun i => ?invalidate, fun b hb => exec_of_refusal hroom rfl fun t => ?badInvalidate,
    fun i port base span kind action queue gate => ?write,
    fun b port base span kind action queue gate hb => exec_of_refusal hroom rfl fun _ => cmdWriteRoute_of_badIndex hb,
    fun a b => ?dflt, fun a b ha => exec_of_refusal hroom rfl fun t => ?badAction⟩
  case invalidate =>
    intro gone
    refine ⟨hokay rfl ((cmdInvalidateRoute_eq i p).trans (by rw [hclassifier])), fun port f => ?_⟩
    exact Classifier.lookup_ne_of_invalid (by simp [gone]) port f
  case badInvalidate => simp only [cmdInvalidateRoute, finOf_of_le hb]
  case write =>
    intro c good
    refine ⟨fun h => exec_of_refusal hroom rfl fun _ => cmdWriteRoute_of_badValue (routeOf_of_not_pass h),
      fun h hvalid => ?busy, fun x a g h hx ha hg => ⟨fun hvalid => ?free, routeBytes_describedRoute h hx ha hg⟩⟩
    case busy =>
      obtain ⟨r, hr⟩ := exists_routeOf_of_pass h
      exact exec_of_answer (a := refuse .busy p) hroom rfl (cmdWriteRoute_of_busy hr (hclassifier ▸ hvalid))
    case free =>
      refine hokay rfl ((cmdWriteRoute_of_free (routeOf_of_pass h hx ha hg) (hclassifier ▸ hvalid)).trans ?_)
      rw [setRoute, hclassifier]
      rfl
  case dflt =>
    intro d c
    have hstore {q : Option HostQueue} (h : actionQueueOf a b = some q) :
        answer c 6 .ok (p.setClassifier { s.classifier with dflt := { d with action := a, queue := q } }) :=
      hokay rfl ((cmdSetDefaultRoute_eq h).trans (by rw [hclassifier]))
    refine ⟨fun ha => hstore ?_, fun q ha hb => hstore ?_,
      fun ha hb => exec_of_refusal hroom rfl fun _ => cmdSetDefaultRoute_of_badQueue ?_⟩
    · rcases ha with rfl | rfl <;> rfl
    · exact actionQueueOf_of_queued ha (HostQueue.ofCode_eq_some_iff.2 hb.symm)
    · exact actionQueueOf_of_no_queue ha (HostQueue.ofCode_eq_none (by omega))
  case badAction => simp only [cmdSetDefaultRoute, Action.ofCode_of_four_le ha]

end Sys2Proof.Machine
end

section
/-! PROOFS. The vectoring: the bounds of its working values, and its result as the last of them (R60 to R62). -/

namespace Sys2Proof.Machine

section
variable {i : Nat} {x y : Int}

/-! ### The bounds of x and y -/

/-- What holds of x and y before iteration i: with |y| at most 2 to the power 15, iteration i adds at most 2 to the
power (15 - i) to x, so that what x has left below 98304 is halved by each (R61). -/
def VectorBounds (i : Nat) (x y : Int) : Prop :=
  0 ≤ x ∧ x ≤ 98304 - 2 ^ (16 - i) ∧ -32768 ≤ y ∧ y ≤ 32768

theorem VectorBounds.step_of_nonneg (h : VectorBounds i x y) (hi : i < 10) (hy : 0 ≤ y) :
    VectorBounds (i + 1) (x + (y >>> i)) (y - (x >>> i)) := by
  simp only [VectorBounds, Int.shiftRight_eq_div_pow] at h ⊢
  interval_cases i <;> norm_num at h ⊢ <;> omega

theorem VectorBounds.step_of_neg (h : VectorBounds i x y) (hi : i < 10) (hy : y < 0) :
    VectorBounds (i + 1) (x - (y >>> i)) (y + (x >>> i)) := by
  simp only [VectorBounds, Int.shiftRight_eq_div_pow] at h ⊢
  interval_cases i <;> norm_num at h ⊢ <;> omega

theorem VectorBounds.lt (h : VectorBounds i x y) : x < 2 ^ 17 := by
  have hleft : (0 : Int) < 2 ^ (16 - i) := by positivity
  have := h.2.1
  omega

end

section
variable {ks : List Int} {i : Nat} {x y z : Int} {w : Int × Int × Int}

theorem vectorTrace_bounds (hi : i + ks.length ≤ 10) (h : VectorBounds i x y) (hw : w ∈ vectorTrace i ks x y z) :
    ∃ j, VectorBounds j w.1 w.2.1 := by
  induction ks generalizing i x y z with
  | nil => cases hw
  | cons k ks ih =>
    simp only [List.length_cons] at hi
    simp only [vectorTrace] at hw
    split at hw
    · next hy =>
      have hstep := h.step_of_nonneg (by omega) hy
      rcases List.mem_cons.1 hw with rfl | hw
      · exact ⟨_, hstep⟩
      · exact ih (by omega) hstep hw
    · next hy =>
      have hstep := h.step_of_neg (by omega) (by omega)
      rcases List.mem_cons.1 hw with rfl | hw
      · exact ⟨_, hstep⟩
      · exact ih (by omega) hstep hw

/-! ### The bounds of z -/

/-- z moves by the constants of the iterations made, each added or subtracted (R61). -/
theorem vectorTrace_angle (hks : ∀ k ∈ ks, 0 ≤ k) (hw : w ∈ vectorTrace i ks x y z) :
    z - ks.sum ≤ w.2.2 ∧ w.2.2 ≤ z + ks.sum := by
  induction ks generalizing i x y z with
  | nil => cases hw
  | cons k ks ih =>
    obtain ⟨hk, hks⟩ := List.forall_mem_cons.1 hks
    have hsum : 0 ≤ ks.sum := List.sum_nonneg hks
    rw [List.sum_cons]
    simp only [vectorTrace] at hw
    split at hw
    all_goals
      rcases List.mem_cons.1 hw with rfl | hw
      · constructor <;> dsimp only <;> omega
      · have := ih hks hw
        dsimp only at this
        omega

/-! ### The result -/

theorem vectorTrace_length (i : Nat) (ks : List Int) (x y z : Int) : (vectorTrace i ks x y z).length = ks.length := by
  induction ks generalizing i x y z with
  | nil => rfl
  | cons k ks ih => rw [vectorTrace, List.length_cons, ih, List.length_cons]

/-- The loop ends with the x and z of the last working value. -/
theorem vectorLoop_eq_getLast (i : Nat) (ks : List Int) (x y z : Int) :
    vectorLoop i ks x y z =
      (((vectorTrace i ks x y z).getLastD (x, y, z)).1, ((vectorTrace i ks x y z).getLastD (x, y, z)).2.2) := by
  induction ks generalizing i x y z with
  | nil => rfl
  | cons k ks ih =>
    simp only [vectorLoop, vectorTrace, List.getLastD_cons]
    split <;> exact ih ..

end

/-- The ten iterations from a start in the right half plane: bounds, length and result (R60 to R62). -/
theorem vectorTrace_of_start {x y z : Int} (hx0 : 0 ≤ x) (hx : x ≤ 32768) (hy0 : -32768 ≤ y) (hy : y ≤ 32768)
    (hz0 : 0 ≤ z) (hz : z ≤ 2048) :
    let trace := vectorTrace 0 Config.vectorConstants x y z
    let r := vectorLoop 0 Config.vectorConstants x y z
    (∀ w ∈ trace, 0 ≤ w.1 ∧ w.1 < 2 ^ 17 ∧ -(2 ^ 23) ≤ w.2.1 ∧ w.2.1 < 2 ^ 23
        ∧ -1135 ≤ w.2.2 ∧ w.2.2 ≤ 2048 + 1135)
      ∧ trace.length = 10 ∧ ∃ w, trace.getLast? = some w ∧ r = (w.1, w.2.2) := by
  intro trace r
  have hlength : trace.length = 10 := vectorTrace_length ..
  refine ⟨fun w hw => ?bounds, hlength, trace.getLastD (x, y, z), ?last, vectorLoop_eq_getLast ..⟩
  case bounds =>
    obtain ⟨j, hj⟩ := vectorTrace_bounds (by decide) ⟨hx0, by norm_num; omega, hy0, hy⟩ hw
    obtain ⟨hangle0, hangle⟩ := vectorTrace_angle (by decide) hw
    have hsum : Config.vectorConstants.sum = 1135 := rfl
    have ⟨hw0, _, hwy0, hwy⟩ := hj
    exact ⟨hw0, hj.lt, by omega, by omega, by omega, by omega⟩
  case last =>
    cases htrace : trace with
    | nil => rw [htrace] at hlength; cases hlength
    | cons w ws => rfl

/-- Settles O12: a vectoring starts in the right half plane, with the angle 0 or half a turn. -/
theorem vectoringStaysWithinItsWidth : Obligations.VectoringStaysWithinItsWidth := by
  intro p q hp0 hp hq0 hq hpq trace
  have hangle : (vectoring p q).1 < 4096 := by
    rw [vectoring, if_neg hpq]
    simp only [Config.turn]
    omega
  by_cases hneg : p < 0
  · have htrace : trace = vectorTrace 0 Config.vectorConstants (-p) (-q) 2048 := if_pos hneg
    obtain ⟨hbounds, hlength, w, hw, hr⟩ := vectorTrace_of_start (x := -p) (y := -q) (z := 2048)
      (by omega) (by omega) (by omega) (by omega) (by decide) (by decide)
    rw [htrace]
    refine ⟨hbounds, hlength, w, hw, ?_, hangle⟩
    simp only [vectoring, if_neg hpq, if_pos hneg, hr]
    rfl
  · have htrace : trace = vectorTrace 0 Config.vectorConstants p q 0 := if_neg hneg
    obtain ⟨hbounds, hlength, w, hw, hr⟩ := vectorTrace_of_start (x := p) (y := q) (z := 0)
      (by omega) (by omega) (by omega) (by omega) (by decide) (by decide)
    rw [htrace]
    refine ⟨hbounds, hlength, w, hw, ?_, hangle⟩
    simp only [vectoring, if_neg hpq, if_neg hneg, hr]
    rfl

end Sys2Proof.Machine
end

section
/-! PROOFS. The hinge work: the base face, the conditions that hold it and the resolution of the raw hinge angle (R63 to
R70). -/

namespace Sys2Proof.Machine

/-! ### The base face -/

section
variable {band tilt : Nat}

theorem faceOf_eq_up_iff : faceOf band tilt = .up ↔ tilt ≤ band ∨ 4096 - band ≤ tilt := by
  unfold faceOf
  split
  · next hup => exact iff_of_true rfl hup
  · next hup => split <;> exact iff_of_false nofun hup

/-- Within a band of at most 1023 the ranges of UP and of DOWN are apart (R70, R71). -/
theorem faceOf_eq_down_iff (hband : band ≤ 1023) :
    faceOf band tilt = .down ↔ 2048 - band ≤ tilt ∧ tilt ≤ 2048 + band := by
  unfold faceOf
  split
  · exact iff_of_false nofun (by omega)
  · split
    · next hdown => exact iff_of_true rfl hdown
    · next hdown => exact iff_of_false nofun hdown

theorem faceOf_eq_edge_iff (hband : band ≤ 1023) : faceOf band tilt = .edge ↔
    (band < tilt ∧ tilt < 2048 - band) ∨ (2048 + band < tilt ∧ tilt < 4096 - band) := by
  unfold faceOf
  split
  · exact iff_of_false nofun (by omega)
  · split
    · exact iff_of_false nofun (by omega)
    · exact iff_of_true rfl (by omega)

end

/-! ### The conditions -/

section
variable {p : PostureEngine} {turning : Bool} {raw : Nat}

theorem PostureEngine.sampleStale_iff : p.sampleStale = true ↔ p.baseValid = false ∨ p.baseStale = true := by
  simp [sampleStale]

theorem PostureEngine.isDegenerate_iff : p.isDegenerate = true ↔ p.lidTilt.2 < p.params.minProjection
    ∨ (¬ (p.baseValid = false ∨ p.baseStale = true) ∧ p.baseTilt.2 < p.params.minProjection) := by
  rw [← sampleStale_iff]
  simp [isDegenerate]

theorem PostureEngine.hingeMotion_iff : p.hingeMotion = true ↔ p.params.maxProjection < p.lidTilt.2
    ∨ (¬ (p.baseValid = false ∨ p.baseStale = true) ∧ p.params.maxProjection < p.baseTilt.2) := by
  rw [← sampleStale_iff]
  simp [hingeMotion]

/-! ### The resolution -/

theorem PostureEngine.resolveHinge_eq (p : PostureEngine) (raw : Nat) : ∃ x hinge hingeValid,
    p.resolveHinge raw = (x, { p with hinge := hinge, hingeValid := hingeValid }) := by
  simp only [resolveHinge]
  split
  · split <;> exact ⟨_, _, _, rfl⟩
  · split <;> exact ⟨_, _, _, rfl⟩

/-- Without a hinge angle a raw angle outside the wrap band is taken (R67). -/
theorem PostureEngine.resolveHinge_of_none (h : p.hingeValid = false)
    (hraw : p.params.wrapBand ≤ raw ∧ raw < 4096 - p.params.wrapBand) :
    p.resolveHinge raw = (.resolved, { p with hinge := raw, hingeValid := true }) := by
  simp [resolveHinge, h, hraw]

theorem PostureEngine.resolveHinge_of_wrap (h : p.hingeValid = false)
    (hraw : raw < p.params.wrapBand ∨ 4096 - p.params.wrapBand ≤ raw) :
    p.resolveHinge raw = (.unresolved, p) := by
  simp only [resolveHinge, h, Bool.false_eq_true, if_false]
  exact if_neg (by omega)

/-- From below half a turn a raw angle in the upper half of the wrap band is 0 (R68). -/
theorem PostureEngine.resolveHinge_of_low (h : p.hingeValid = true) (hlow : p.hinge < 2048) :
    p.resolveHinge raw
      = (.resolved, { p with hinge := if 4096 - p.params.wrapBand ≤ raw then 0 else raw }) := by
  simp [resolveHinge, h, hlow]

/-- From half a turn on a raw angle in the lower half of the wrap band is 4095 (R68). -/
theorem PostureEngine.resolveHinge_of_high (h : p.hingeValid = true) (hhigh : 2048 ≤ p.hinge) :
    p.resolveHinge raw = (.resolved, { p with hinge := if raw < p.params.wrapBand then 4095 else raw }) := by
  simp [resolveHinge, h, Nat.not_lt.2 hhigh]

/-! ### The hinge work -/

/-- The engine with the three flags of the hinge work set (R65). -/
def PostureEngine.withHoldFlags (p : PostureEngine) (turning : Bool) : PostureEngine :=
  { p with degenerate := p.isDegenerate, stale := p.sampleStale, motion := p.hingeMotion || turning }

theorem PostureEngine.hingeWork_of_held
    (h : p.sampleStale = true ∨ p.isDegenerate = true ∨ p.hingeMotion = true) :
    p.hingeWork turning = (.held, p.withHoldFlags turning) :=
  if_pos (by simpa [or_assoc] using h)

theorem PostureEngine.hingeWork_of_free
    (h : ¬ (p.sampleStale = true ∨ p.isDegenerate = true ∨ p.hingeMotion = true)) :
    p.hingeWork turning =
      { p.withHoldFlags turning with face := faceOf p.params.baseFaceBand p.baseTilt.1 }.resolveHinge
        (rawHinge p.baseTilt.1 p.lidTilt.1 p.params.hingeOffset) :=
  if_neg (by simpa [or_assoc] using h)

/-- The flags after the hinge work are the conditions before it, held or not (R65). -/
theorem PostureEngine.hingeWork_flags (p : PostureEngine) (turning : Bool) :
    (p.hingeWork turning).2.stale = p.sampleStale ∧ (p.hingeWork turning).2.degenerate = p.isDegenerate
      ∧ (p.hingeWork turning).2.motion = (p.hingeMotion || turning) := by
  by_cases h : p.sampleStale = true ∨ p.isDegenerate = true ∨ p.hingeMotion = true
  · rw [hingeWork_of_held h]
    exact ⟨rfl, rfl, rfl⟩
  · rw [hingeWork_of_free h]
    obtain ⟨_, _, _, hresolve⟩ := resolveHinge_eq
      { p.withHoldFlags turning with face := faceOf p.params.baseFaceBand p.baseTilt.1 }
      (rawHinge p.baseTilt.1 p.lidTilt.1 p.params.hingeOffset)
    rw [hresolve]
    exact ⟨rfl, rfl, rfl⟩

end

/-- Settles O31: the faces; then the flags, what holds the hinge work, and the resolution where nothing does. -/
theorem hingeWorkHoldsOrResolves : Obligations.HingeWorkHoldsOrResolves := by
  refine ⟨fun band tilt _ hband _ => ⟨faceOf_eq_up_iff, faceOf_eq_down_iff hband, faceOf_eq_edge_iff hband⟩,
    fun p turning => ?_⟩
  intro lid base ml mb stale degenerate moving w raw h flags
  have hstale : p.sampleStale = true ↔ stale := PostureEngine.sampleStale_iff
  have hdegenerate : p.isDegenerate = true ↔ degenerate := PostureEngine.isDegenerate_iff
  have hmoving : p.hingeMotion = true ↔ moving := PostureEngine.hingeMotion_iff
  refine ⟨?flags, fun hheld => ?held, fun hfresh hsteep hstill => ?free⟩
  case flags =>
    obtain ⟨hs, hd, hm⟩ := p.hingeWork_flags turning
    refine ⟨by rw [hs, hstale], by rw [hd, hdegenerate], ?_⟩
    rw [hm, Bool.or_eq_true, hmoving]
  case held =>
    rw [← hstale, ← hdegenerate, ← hmoving] at hheld
    have hwork : h = (.held, p.withHoldFlags turning) := PostureEngine.hingeWork_of_held hheld
    rw [hwork]
    exact ⟨rfl, rfl⟩
  case free =>
    intro q
    have hq : { p.withHoldFlags turning with face := faceOf p.params.baseFaceBand p.baseTilt.1 } = q := by
      rw [← hstale, Bool.not_eq_true] at hfresh
      rw [← hdegenerate, Bool.not_eq_true] at hsteep
      rw [← hmoving, Bool.not_eq_true] at hstill
      simp only [PostureEngine.withHoldFlags, hfresh, hsteep, hstill, Bool.false_or]
      rfl
    have hwork : h = q.resolveHinge raw := by
      rw [← hq]
      refine PostureEngine.hingeWork_of_free ?_
      rw [hstale, hdegenerate, hmoving]
      tauto
    rw [hwork]
    refine ⟨fun hnone => ⟨PostureEngine.resolveHinge_of_none (p := q) hnone,
        PostureEngine.resolveHinge_of_wrap (p := q) hnone⟩,
      fun hvalid => ⟨fun hlow hraw => ?_, fun hlow hraw => ?_, fun hhigh hraw => ?_, fun hhigh hraw => ?_⟩⟩
    · exact (PostureEngine.resolveHinge_of_low (p := q) hvalid hlow).trans (by rw [if_pos hraw])
    · exact (PostureEngine.resolveHinge_of_low (p := q) hvalid hlow).trans (by rw [if_neg (Nat.not_le.2 hraw)])
    · exact (PostureEngine.resolveHinge_of_high (p := q) hvalid hhigh).trans (by rw [if_pos hraw])
    · exact (PostureEngine.resolveHinge_of_high (p := q) hvalid hhigh).trans (by rw [if_neg (Nat.not_lt.2 hraw)])

end Sys2Proof.Machine
end

section
/-! PROOFS. What the Posture Engine reports of a change, and its events at an admission and a teardown (R69, R83, R84,
R89, R93, R95, R96). -/

namespace Sys2Proof.Machine

/-! ### Modes and changes -/

section
variable {p : PostureEngine} {x : Posture} {time : Half}

@[simp] theorem PostureEngine.applyMode_posture (p : PostureEngine) : p.applyMode.posture = p.posture := by
  unfold applyMode
  split <;> rfl

@[simp] theorem PostureEngine.applyMode_policy (p : PostureEngine) : p.applyMode.policy = p.policy := by
  unfold applyMode
  split <;> rfl

@[simp] theorem PostureEngine.applyMode_currentRow (p : PostureEngine) :
    p.applyMode.currentRow = p.policy[p.posture.code] := by
  simp only [currentRow, applyMode_policy, applyMode_posture]

theorem PostureEngine.applyMode_of_free (h : p.currentRow.rotation = .free) (hlock : p.rotLock = false) :
    p.applyMode = p := by
  simp [applyMode, effectiveMode, h, hlock]

/-- FREE under the rotation lock is HOLD (R89, R90). -/
theorem PostureEngine.applyMode_of_hold
    (h : p.currentRow.rotation = .hold ∨ (p.currentRow.rotation = .free ∧ p.rotLock = true)) :
    p.applyMode = p.clearRotCandidate := by
  rcases h with h | ⟨h, hlock⟩
  · simp [applyMode, effectiveMode, h]
  · simp [applyMode, effectiveMode, h, hlock]

theorem PostureEngine.applyMode_of_lock0 (h : p.currentRow.rotation = .lock0) :
    p.applyMode = { p.clearRotCandidate with orientation := .rot0 } := by
  simp [applyMode, effectiveMode, h]

theorem PostureEngine.override_of_same (h : p.posture = x) :
    p.override x time = { p.clearCandidate with entry := none } :=
  if_pos h

theorem PostureEngine.override_of_other (h : p.posture ≠ x) :
    p.override x time = (p.change x none time).applyMode :=
  if_neg h

end

/-! ### Reports -/

section
variable {old p : PostureEngine} {x : Posture} {time : Half} {s : State}

theorem reportPosture_of_same_posture (h : s.posture.posture = old.posture) : reportPosture old s =
    if s.posture.orientation = old.orientation then s else s.setDeliveries (s.deliveries ++ [.stateRequest]) := by
  simp only [reportPosture, h, true_and, if_true]
  rfl

/-- Where neither posture nor orientation changed there is nothing to report (R95, R96). -/
theorem reportPosture_of_same (h : s.posture.posture = old.posture)
    (horientation : s.posture.orientation = old.orientation) : reportPosture old s = s :=
  (reportPosture_of_same_posture h).trans (if_pos horientation)

theorem reportPosture_of_other (h : s.posture.posture ≠ old.posture) : reportPosture old s =
    s.setDeliveries (s.deliveries ++ .stateRequest
      :: changeDeliveries old.posture s.posture.posture s.posture.currentRow) := by
  simp only [reportPosture, h, false_and, if_false, post, postAll, State.setDeliveries_deliveries, List.append_assoc,
    List.singleton_append]
  rfl

/-- An event that sets another posture: the change is recorded, its mode takes effect, and it is reported with the new
posture's row (R83, R84, R89, R95, R96). -/
theorem reportPosture_override_of_other (hold : old.posture = p.posture) (h : p.posture ≠ x) :
    reportPosture old (s.setPosture (p.override x time)) =
      (s.setPosture (p.change x none time).applyMode).setDeliveries (s.deliveries ++
        [.stateRequest, .gateUpdate (.change p.posture x) p.policy[x.code].gateMask,
          .capChange (.posture (.change p.posture x)), .powerPostureChange p.posture x p.policy[x.code]]) := by
  have hposture : (p.change x none time).applyMode.posture = x := PostureEngine.applyMode_posture _
  have hrow : (p.change x none time).applyMode.currentRow = p.policy[x.code] := PostureEngine.applyMode_currentRow _
  rw [PostureEngine.override_of_other h, reportPosture_of_other]
  · simp only [State.setPosture_posture, State.setPosture_deliveries, hposture, hrow, hold, changeDeliveries]
  · rw [State.setPosture_posture, hposture, hold]
    exact h.symm

/-- An event that sets the posture as it is ends the candidacy and the entry, and reports nothing (R84). -/
theorem reportPosture_override_of_same (hold : old.posture = p.posture) (horientation : old.orientation = p.orientation)
    (h : p.posture = x) : reportPosture old (s.setPosture (p.override x time)) =
      s.setPosture { p.clearCandidate with entry := none } := by
  rw [PostureEngine.override_of_same h]
  exact reportPosture_of_same hold.symm horientation.symm

end

/-- Settles O34: each of the two events sets its posture, which is another one or not. -/
theorem postureAtAdmissionAndTeardown : Obligations.PostureAtAdmissionAndTeardown := by
  intro before after s u p turned set told unhinged
  have hturned (q : PostureEngine) : turned q = q.applyMode := by
    simp only [turned]
    split
    · next hfree hlock => exact (PostureEngine.applyMode_of_free hfree hlock).symm
    · next hlock0 => exact (PostureEngine.applyMode_of_lock0 hlock0).symm
    · next hlock0 hfree =>
      refine (PostureEngine.applyMode_of_hold ?_).symm
      simp only [PostureEngine.currentRow]
      cases hrot : q.policy[q.posture.code].rotation with
      | free => exact .inr ⟨rfl, by simpa using hfree hrot⟩
      | lock0 => exact absurd hrot hlock0
      | hold => exact .inl rfl
  refine ⟨fun h => ?_, fun h => ?_⟩
  · have hexec : exec .postureAdmission s = .next (sLook (admitPosture u)) :=
      congrArg _ (takingOne_of_front h fun t => sLook (admitPosture t))
    refine ⟨fun hx => hexec.trans ?_, fun hx => hexec.trans ?_⟩
    · simp only [set, hturned]
      exact congrArg (fun t => Host.Outcome.next (sLook t))
        (reportPosture_override_of_other (old := p) (p := unhinged) (s := u) rfl hx)
    · exact congrArg (fun t => Host.Outcome.next (sLook t))
        (reportPosture_override_of_same (old := p) (p := unhinged) (s := u) rfl rfl hx)
  · have hexec : exec .postureTeardown s = .next (sLook (tearPosture u)) :=
      congrArg _ (takingOne_of_front h fun t => sLook (tearPosture t))
    refine ⟨fun hx => hexec.trans ?_, fun hx => hexec.trans ?_⟩
    · simp only [set, hturned]
      exact congrArg (fun t => Host.Outcome.next (sLook t))
        (reportPosture_override_of_other (old := p) (p := p) (s := u) rfl hx)
    · exact congrArg (fun t => Host.Outcome.next (sLook t))
        (reportPosture_override_of_same (old := p) (p := p) (s := u) rfl rfl hx)

end Sys2Proof.Machine
end

section
/-! PROOFS. The arguments of the commands of the posture tables: each check by the bytes it lets pass, and the value
that arguments passing all of them describe (R59, R72, R77, R92). -/

namespace Sys2Proof.Machine

/-! ### Codes -/

theorem Posture.ofCode_eq_some_iff {n : Nat} {v : Posture} : Posture.ofCode n = some v ↔ v.code.val = n := by
  constructor
  · intro h
    unfold ofCode at h
    split at h <;> cases h <;> rfl
  · rintro rfl
    cases v <;> rfl

theorem Posture.exists_code {n : Nat} (h : n ≤ 7) : ∃ v : Posture, v.code.val = n := by
  interval_cases n
  exacts [⟨.unknown, rfl⟩, ⟨.detached, rfl⟩, ⟨.closed, rfl⟩, ⟨.laptop, rfl⟩, ⟨.flat, rfl⟩, ⟨.stand, rfl⟩,
    ⟨.tent, rfl⟩, ⟨.tablet, rfl⟩]

theorem LidCondition.ofCode_eq_some_iff {n : Nat} {l : LidCondition} :
    LidCondition.ofCode n = some l ↔ l.code = n := by
  constructor
  · intro h
    unfold ofCode at h
    split at h <;> cases h <;> rfl
  · rintro rfl
    cases l <;> rfl

theorem LidCondition.exists_code {n : Nat} (h : n ≤ 2) : ∃ l : LidCondition, l.code = n := by
  interval_cases n
  exacts [⟨.any, rfl⟩, ⟨.asserted, rfl⟩, ⟨.released, rfl⟩]

theorem LidCondition.code_le (l : LidCondition) : l.code ≤ 2 := by cases l <;> decide

theorem RotationMode.le_two_of_ofCode {n : Nat} {m : RotationMode} (h : RotationMode.ofCode n = some m) : n ≤ 2 := by
  by_contra hn
  obtain ⟨k, rfl⟩ := Nat.exists_eq_add_of_le' (Nat.lt_of_not_le hn)
  cases h

theorem Axis.le_two_of_ofCode {n : Nat} {a : Axis} (h : Axis.ofCode n = some a) : n ≤ 2 := by
  by_contra hn
  obtain ⟨k, rfl⟩ := Nat.exists_eq_add_of_le' (Nat.lt_of_not_le hn)
  cases h

/-! ### Single arguments -/

section
variable {b : Byte}

theorem flagOf_byteBool (v : Bool) : flagOf (byteBool v) = some v := by cases v <;> rfl

theorem flagOf_eq_some_iff {v : Bool} : flagOf b = some v ↔ b.toNat ≤ 1 ∧ v = decide (b.toNat = 1) := by
  unfold flagOf
  split
  · next h => simp [h, eq_comm]
  · split
    · next h => simp [h, eq_comm]
    · exact iff_of_false nofun (by omega)

theorem inRange_iff {low high v : Nat} : inRange low high v = true ↔ low ≤ v ∧ v ≤ high := by
  simp [inRange]

theorem nat16_bytes {n : Nat} (h : n ≤ 65535) : nat16 (byteNat n) (byteNat (n / 256)) = n := by
  simp only [nat16, byteNat, BitVec.toNat_ofNat]
  omega

/-- The sleep action is 0 or 1, and of 1 the delay is examined (R92, checks 4 and 5). -/
theorem sleepActionOf_eq_some_iff {delay : Nat} {d : Option Nat} : sleepActionOf b delay = some d ↔
    (b.toNat ≤ 1 ∧ (b.toNat = 1 → delay ≤ 60000)) ∧ (if b.toNat = 1 then some delay else none) = d := by
  unfold sleepActionOf
  split
  · next h =>
    obtain ⟨hb, hv⟩ := flagOf_eq_some_iff.1 h
    have hne : b.toNat ≠ 1 := of_decide_eq_false hv.symm
    simp [hb, hne]
  · next h =>
    obtain ⟨hb, hv⟩ := flagOf_eq_some_iff.1 h
    have heq : b.toNat = 1 := of_decide_eq_true hv.symm
    simp [heq]
  · next h =>
    refine iff_of_false nofun fun ⟨⟨hb, _⟩, _⟩ => ?_
    exact absurd (h.symm.trans (flagOf_eq_some_iff.2 ⟨hb, rfl⟩)) nofun

end

/-! ### Posture entries -/

section
variable {x l0 l1 h0 h1 y f l d : Byte}

/-- The checks of WRITE_POSTURE on its arguments behind the index: code, the two angles, faces, lid condition and dwell
(R77, checks 2 to 6). -/
def EntryArgumentsPass (x l0 l1 h0 h1 f l d : Byte) : Prop :=
  2 ≤ x.toNat ∧ x.toNat ≤ 7 ∧ nat16 l0 l1 ≤ nat16 h0 h1 ∧ nat16 h0 h1 ≤ 4095 ∧ 1 ≤ f.toNat ∧ f.toNat ≤ 7
    ∧ l.toNat ≤ 2 ∧ 1 ≤ d.toNat ∧ d.toNat ≤ 64

theorem postureEntryOf_of_pass {v : Posture} {n : LidCondition} (h : EntryArgumentsPass x l0 l1 h0 h1 f l d)
    (hv : v.code.val = x.toNat) (hn : n.code = l.toNat) : postureEntryOf x l0 l1 h0 h1 y f l d = some
      { valid := true, posture := v, low := nat16 l0 l1, high := nat16 h0 h1, hysteresis := y.toNat
        faces := f.setWidth 3, lid := n, dwell := d.toNat } := by
  obtain ⟨hx2, hx7, hlow, hhigh, hf1, hf7, -, hd1, hd64⟩ := h
  simp only [postureEntryOf, Posture.ofCode_eq_some_iff.2 hv, LidCondition.ofCode_eq_some_iff.2 hn]
  refine if_pos ?_
  simp only [Bool.and_eq_true, inRange_iff, decide_eq_true_eq]
  omega

theorem exists_postureEntryOf_of_pass (h : EntryArgumentsPass x l0 l1 h0 h1 f l d) :
    ∃ e, postureEntryOf x l0 l1 h0 h1 y f l d = some e := by
  have ⟨_, hx7, _, _, _, _, hl, _, _⟩ := h
  obtain ⟨v, hv⟩ := Posture.exists_code hx7
  obtain ⟨n, hn⟩ := LidCondition.exists_code hl
  exact ⟨_, postureEntryOf_of_pass h hv hn⟩

theorem postureEntryOf_of_not_pass (h : ¬ EntryArgumentsPass x l0 l1 h0 h1 f l d) :
    postureEntryOf x l0 l1 h0 h1 y f l d = none := by
  simp only [postureEntryOf]
  split
  · next v n _ hn =>
    refine if_neg fun hchecks => h ?_
    have hl := LidCondition.ofCode_eq_some_iff.1 hn ▸ n.code_le
    simp only [Bool.and_eq_true, inRange_iff, decide_eq_true_eq] at hchecks
    unfold EntryArgumentsPass
    omega
  · rfl

end

/-! ### Policy rows -/

section
variable {mask mode cap action d0 d1 t0 t1 t2 t3 : Byte}

/-- The checks of WRITE_POLICY on its arguments behind the index and the mask: mode, cap, sleep action with its delay,
and idle timeout (R92, checks 2 to 6). -/
def PolicyArgumentsPass (mode cap action d0 d1 t0 t1 t2 t3 : Byte) : Prop :=
  mode.toNat ≤ 2 ∧ cap.toNat ≤ 7 ∧ action.toNat ≤ 1 ∧ (action.toNat = 1 → nat16 d0 d1 ≤ 60000)
    ∧ (nat32 t0 t1 t2 t3 = 0 ∨ (1000 ≤ nat32 t0 t1 t2 t3 ∧ nat32 t0 t1 t2 t3 ≤ 3600000))

theorem policyRowOf_of_pass {m : RotationMode} {c : Level} (h : PolicyArgumentsPass mode cap action d0 d1 t0 t1 t2 t3)
    (hm : RotationMode.ofCode mode.toNat = some m) (hc : c.val = cap.toNat) :
    policyRowOf mask mode cap action d0 d1 t0 t1 t2 t3 = some
      { gateMask := mask, rotation := m, chargeCap := c
        sleepDelay := if action.toNat = 1 then some (nat16 d0 d1) else none, idleTimeout := nat32 t0 t1 t2 t3 } := by
  obtain ⟨-, -, haction, hdelay, hidle⟩ := h
  simp only [policyRowOf, hm, finOf_eq_some_iff.2 hc, sleepActionOf_eq_some_iff.2 ⟨⟨haction, hdelay⟩, rfl⟩, inRange_iff,
    if_pos hidle]

theorem policyRowOf_of_not_pass (h : ¬ PolicyArgumentsPass mode cap action d0 d1 t0 t1 t2 t3) :
    policyRowOf mask mode cap action d0 d1 t0 t1 t2 t3 = none := by
  simp only [policyRowOf]
  split
  · next m c d hm hc hd =>
    refine if_neg fun hidle => h ?_
    have hcap : cap.toNat ≤ 7 := finOf_eq_some_iff.1 hc ▸ Nat.le_of_lt_succ c.isLt
    obtain ⟨⟨haction, hdelay⟩, -⟩ := sleepActionOf_eq_some_iff.1 hd
    exact ⟨RotationMode.le_two_of_ofCode hm, hcap, haction, hdelay, by simpa only [inRange_iff] using hidle⟩
  · rfl

end

/-! ### Axis records -/

section
variable {sx nx sy ny sz nz : Byte} {r : AxisRecord}

theorem AxisRecord.distinct_iff : r.distinct = true ↔
    r.x.source ≠ r.y.source ∧ r.x.source ≠ r.z.source ∧ r.y.source ≠ r.z.source := by
  simp [distinct, and_assoc]

theorem axisTermOf_eq_some_iff {s n : Byte} {t : AxisTerm} :
    axisTermOf s n = some t ↔ Axis.ofCode s.toNat = some t.source ∧ flagOf n = some t.negated := by
  unfold axisTermOf
  split
  · next a v ha hv => cases t; simp [ha, hv]
  · next h => exact iff_of_false nofun fun ⟨ha, hv⟩ => h _ _ ha hv

theorem axisRecordOf_eq_some_iff : axisRecordOf sx nx sy ny sz nz = some r ↔
    (axisTermOf sx nx = some r.x ∧ axisTermOf sy ny = some r.y ∧ axisTermOf sz nz = some r.z)
      ∧ r.distinct = true := by
  unfold axisRecordOf
  split
  · next x y z hx hy hz =>
    cases r
    simp only [Option.ite_none_right_eq_some, Option.some.injEq, AxisRecord.mk.injEq, hx, hy, hz]
    constructor
    · rintro ⟨h, rfl, rfl, rfl⟩; exact ⟨⟨rfl, rfl, rfl⟩, h⟩
    · rintro ⟨⟨rfl, rfl, rfl⟩, h⟩; exact ⟨h, rfl, rfl, rfl⟩
  · next h => exact iff_of_false nofun fun ⟨⟨hx, hy, hz⟩, _⟩ => h _ _ _ hx hy hz

/-- A source or a sign out of range, or a source named twice, describes no record (R59, checks 2 and 3). -/
theorem axisRecordOf_of_bad (h : 3 ≤ sx.toNat ∨ 3 ≤ sy.toNat ∨ 3 ≤ sz.toNat ∨ 2 ≤ nx.toNat ∨ 2 ≤ ny.toNat
    ∨ 2 ≤ nz.toNat ∨ sx = sy ∨ sx = sz ∨ sy = sz) : axisRecordOf sx nx sy ny sz nz = none := by
  refine Option.eq_none_iff_forall_ne_some.2 fun r hr => ?_
  obtain ⟨⟨hx, hy, hz⟩, hdistinct⟩ := axisRecordOf_eq_some_iff.1 hr
  obtain ⟨hxy, hxz, hyz⟩ := AxisRecord.distinct_iff.1 hdistinct
  obtain ⟨hsx, hnx⟩ := axisTermOf_eq_some_iff.1 hx
  obtain ⟨hsy, hny⟩ := axisTermOf_eq_some_iff.1 hy
  obtain ⟨hsz, hnz⟩ := axisTermOf_eq_some_iff.1 hz
  have hsource {a b : Byte} {u v : Axis} (ha : Axis.ofCode a.toNat = some u) (hb : Axis.ofCode b.toNat = some v)
      (huv : u ≠ v) : a ≠ b := by
    rintro rfl
    exact huv (Option.some.inj (ha.symm.trans hb))
  have := Axis.le_two_of_ofCode hsx
  have := Axis.le_two_of_ofCode hsy
  have := Axis.le_two_of_ofCode hsz
  have := (flagOf_eq_some_iff.1 hnx).1
  have := (flagOf_eq_some_iff.1 hny).1
  have := (flagOf_eq_some_iff.1 hnz).1
  rcases h with h | h | h | h | h | h | h | h | h
  any_goals omega
  · exact hsource hsx hsy hxy h
  · exact hsource hsx hsz hxz h
  · exact hsource hsy hsz hyz h

end

/-! ### Angle Parameters -/

theorem AngleParams.valid_iff (a : AngleParams) : a.valid = true ↔
    a.hingeOffset ≤ 4095 ∧ 16 ≤ a.wrapBand ∧ a.wrapBand ≤ 1024 ∧ 128 ≤ a.baseFaceBand
      ∧ a.baseFaceBand ≤ 1023 ∧ a.rotHysteresis ≤ 511 ∧ 1 ≤ a.rotDwell ∧ a.rotDwell ≤ 64
      ∧ 1 ≤ a.unmatchedDwell ∧ a.unmatchedDwell ≤ 64 ∧ 5 ≤ a.baseFreshness ∧ a.baseFreshness ≤ 500
      ∧ a.minProjection ≤ a.maxProjection := by
  simp only [valid, Bool.and_eq_true, inRange_iff, decide_eq_true_eq, and_assoc]

/-- The twenty argument bytes that carry the Angle Parameters, in their order (R72). -/
def angleArguments (a : AngleParams) : List Byte :=
  [a.hingeOffset, a.wrapBand, a.minProjection, a.maxProjection, a.baseFaceBand, a.flatThreshold, a.rotHysteresis,
    a.rotDwell, a.unmatchedDwell, a.baseFreshness].flatMap le16Nat

/-- WRITE_ANGLE_PARAMS reads the parameters its bytes carry, and stores all or none (R72). -/
theorem cmdWriteAngleParams_eq {a : AngleParams} (h : ∀ n ∈ [a.hingeOffset, a.wrapBand, a.minProjection,
      a.maxProjection, a.baseFaceBand, a.flatThreshold, a.rotHysteresis, a.rotDwell, a.unmatchedDwell,
      a.baseFreshness], n ≤ 65535) (s : State) : cmdWriteAngleParams (angleArguments a) s =
    if a.valid then okay [] (s.setPosture { s.posture with params := a }) else refuse .badValue s := by
  simp only [List.forall_mem_cons] at h
  obtain ⟨h1, h2, h3, h4, h5, h6, h7, h8, h9, h10, -⟩ := h
  simp only [angleArguments, List.flatMap_cons, List.flatMap_nil, le16Nat_eq, List.cons_append, List.nil_append,
    cmdWriteAngleParams, nat16_bytes, *]

end Sys2Proof.Machine
end

section
/-! PROOFS. The commands of the Posture Table, the policy rows, the Axis Map, the Angle Parameters and the rotation lock
(R59, R72, R77, R78, R85, R89, R90, R92, R93, R96). -/

namespace Sys2Proof.Machine

section
variable {i : Fin 8} {x l0 l1 h0 h1 y f l d : Byte} {s : State}

/-! ### Posture Table -/

theorem cmdWritePosture_of_badIndex {b : Byte} (h : 8 ≤ b.toNat) :
    cmdWritePosture [b, x, l0, l1, h0, h1, y, f, l, d] s = refuse .badIndex s := by
  simp only [cmdWritePosture, finOf_of_le h]

theorem cmdWritePosture_of_badValue (h : postureEntryOf x l0 l1 h0 h1 y f l d = none) :
    cmdWritePosture [byteNat i.val, x, l0, l1, h0, h1, y, f, l, d] s = refuse .badValue s := by
  simp only [cmdWritePosture, finOf_byteNat i (by decide), h]

theorem cmdWritePosture_of_busy {e : PostureEntry} (h : postureEntryOf x l0 l1 h0 h1 y f l d = some e)
    (hvalid : s.posture.table[i].valid = true) :
    cmdWritePosture [byteNat i.val, x, l0, l1, h0, h1, y, f, l, d] s = refuse .busy s := by
  simp only [cmdWritePosture, finOf_byteNat i (by decide), h, hvalid, if_true]

theorem cmdWritePosture_of_free {e : PostureEntry} (h : postureEntryOf x l0 l1 h0 h1 y f l d = some e)
    (hvalid : s.posture.table[i].valid = false) :
    cmdWritePosture [byteNat i.val, x, l0, l1, h0, h1, y, f, l, d] s = okay [] (setPostureEntry i e s) := by
  simp only [cmdWritePosture, finOf_byteNat i (by decide), h, hvalid, Bool.false_eq_true, if_false]

theorem cmdInvalidatePosture_of_badIndex {b : Byte} (h : 8 ≤ b.toNat) :
    cmdInvalidatePosture [b] s = refuse .badIndex s := by
  simp only [cmdInvalidatePosture, finOf_of_le h]

theorem cmdInvalidatePosture_eq {p : PostureEngine} (h : s.posture.invalidate i = p) :
    cmdInvalidatePosture [byteNat i.val] s = okay [] (s.setPosture p) := by
  simp only [cmdInvalidatePosture, finOf_byteNat i (by decide), h]

end

/-! ### Policy rows -/

section
variable {i : Fin 8} {mask mode cap action d0 d1 t0 t1 t2 t3 : Byte} {row : PolicyRow} {s : State}

theorem cmdWritePolicy_of_badIndex {b : Byte} (h : 8 ≤ b.toNat) :
    cmdWritePolicy [b, mask, mode, cap, action, d0, d1, t0, t1, t2, t3] s = refuse .badIndex s := by
  simp only [cmdWritePolicy, finOf_of_le h]

theorem cmdWritePolicy_of_badValue (h : policyRowOf mask mode cap action d0 d1 t0 t1 t2 t3 = none) :
    cmdWritePolicy [byteNat i.val, mask, mode, cap, action, d0, d1, t0, t1, t2, t3] s = refuse .badValue s := by
  simp only [cmdWritePolicy, finOf_byteNat i (by decide), h]

theorem cmdWritePolicy_of_row (h : policyRowOf mask mode cap action d0 d1 t0 t1 t2 t3 = some row) :
    cmdWritePolicy [byteNat i.val, mask, mode, cap, action, d0, d1, t0, t1, t2, t3] s = okay []
      (let t := s.setPosture { s.posture with policy := s.posture.policy.set i row }
       if i = s.posture.posture.code then currentRowWritten s.posture t else t) := by
  simp only [cmdWritePolicy, finOf_byteNat i (by decide), h]

/-- A written current row: its mode takes effect, a turned orientation is reported, and the row is delivered (R93, R95,
R96). -/
theorem currentRowWritten_eq {old q : PostureEngine} (hposture : q.posture = old.posture)
    (hrow : q.policy[q.posture.code] = row) : currentRowWritten old (s.setPosture q) =
      let v := s.setPosture q.applyMode
      let w := if q.applyMode.orientation = old.orientation then v
        else v.setDeliveries (v.deliveries ++ [.stateRequest])
      w.setDeliveries (w.deliveries ++ policyDeliveries old.posture row) := by
  have hcurrent : q.applyMode.currentRow = row := (PostureEngine.applyMode_currentRow q).trans hrow
  have hsame : q.applyMode.posture = old.posture := (PostureEngine.applyMode_posture q).trans hposture
  simp only [currentRowWritten, State.setPosture_posture, hcurrent, hsame]
  rw [reportPosture_of_same_posture hsame]
  rfl

end

/-! ### Axis Map -/

section
variable {p : PostureEngine} {base : Bool} {r : AxisRecord} {sx nx sy ny sz nz : Byte} {time : Half} {s : State}

theorem cmdWriteAxisMap_of_badIndex {b : Byte} (h : 2 ≤ b.toNat) :
    cmdWriteAxisMap [b, sx, nx, sy, ny, sz, nz] s = refuse .badIndex s := by
  simp only [cmdWriteAxisMap, flagOf_of_two_le h]

theorem cmdWriteAxisMap_of_badValue {b : Byte} (hb : b.toNat ≤ 1) (h : axisRecordOf sx nx sy ny sz nz = none) :
    cmdWriteAxisMap [b, sx, nx, sy, ny, sz, nz] s = refuse .badValue s := by
  simp only [cmdWriteAxisMap, flagOf_eq_some_iff.2 ⟨hb, rfl⟩, h]

theorem cmdWriteAxisMap_of_record (h : axisRecordOf sx nx sy ny sz nz = some r) :
    cmdWriteAxisMap [byteBool base, sx, nx, sy, ny, sz, nz] s = okay []
      (reportPosture s.posture (s.setPosture ((s.posture.setAxis base r).mapWritten s.time))) := by
  simp only [cmdWriteAxisMap, flagOf_byteBool, h]

/-- The engine with an axis record stored, and with it the base sample invalid and the Hinge Record cleared (R59). -/
def PostureEngine.remapped (p : PostureEngine) (base : Bool) (r : AxisRecord) : PostureEngine :=
  { p with
    axisLid := if base then p.axisLid else r
    axisBase := if base then r else p.axisBase
    baseValid := false, baseFresh := none, hinge := 0, hingeValid := false }

/-- An Axis Map write sets UNKNOWN unless the posture is DETACHED (R85). -/
theorem PostureEngine.mapWritten_setAxis (p : PostureEngine) (base : Bool) (r : AxisRecord) (time : Half) :
    (p.setAxis base r).mapWritten time =
      if p.posture = .detached then { (p.remapped base r).clearCandidate with entry := none }
      else (p.remapped base r).override .unknown time := by
  cases base <;> rfl

end

/-! ### The rotation lock -/

section
variable {p : PostureEngine} {v : Bool} {s : State}

theorem PostureEngine.effectiveMode_eq (p : PostureEngine) : p.effectiveMode =
    if p.currentRow.rotation = .free ∧ p.rotLock = true then .hold else p.currentRow.rotation := by
  unfold effectiveMode
  split
  · next hfree => simp [hfree]
  · next hother => exact (if_neg fun h => hother h.1).symm

theorem PostureEngine.effectiveMode_withLock (p : PostureEngine) (v : Bool) : { p with rotLock := v }.effectiveMode =
    if p.currentRow.rotation = .free ∧ v = true then .hold else p.currentRow.rotation :=
  effectiveMode_eq _

/-- Only the setting of the lock, under FREE, does anything at once (R89, R90). -/
theorem PostureEngine.setLock_of_idle (h : p.currentRow.rotation ≠ .free ∨ v = p.rotLock ∨ v = false) :
    p.setLock v = { p with rotLock := v } := by
  simp only [setLock]
  split
  · rfl
  · next hmode =>
    rw [effectiveMode_withLock, effectiveMode_eq] at hmode
    rcases h with hother | rfl | rfl
    · exact absurd (by simp [hother]) hmode
    · exact absurd rfl hmode
    · have hfree : p.currentRow.rotation = .free := by
        by_contra hother
        exact hmode (by simp [hother])
      exact applyMode_of_free hfree rfl

/-- The lock set under FREE turns the mode into HOLD (R89, R90). -/
theorem PostureEngine.setLock_of_set (hfree : p.currentRow.rotation = .free) (hlock : p.rotLock = false) :
    p.setLock true = { p with rotLock := true, rotCandidate := none, rotCount := 0 } := by
  have hmode : { p with rotLock := true }.effectiveMode ≠ p.effectiveMode := by
    rw [effectiveMode_withLock, effectiveMode_eq, hfree, hlock]
    decide
  exact (if_neg hmode).trans (applyMode_of_hold (.inr ⟨hfree, rfl⟩))

theorem cmdSetRotationLock_eq {q : PostureEngine} (h : s.posture.setLock v = q)
    (hposture : q.posture = s.posture.posture) (horientation : q.orientation = s.posture.orientation) :
    cmdSetRotationLock [byteBool v] s = okay [] (s.setPosture q) := by
  simp only [cmdSetRotationLock, flagOf_byteBool, h]
  rw [reportPosture_of_same hposture horientation]

theorem cmdSetRotationLock_of_bad {b : Byte} (h : 2 ≤ b.toNat) (s : State) :
    cmdSetRotationLock [b] s = refuse .badValue s := by
  simp only [cmdSetRotationLock, flagOf_of_two_le h]

end

/-- Settles O56: each command by its checks and the engine it leaves. -/
theorem postureCommands : Obligations.PostureCommands := by
  intro ch s hroom p e answer
  have hokay {c : Instr} {code : Byte} {args : List Byte} {run : List Byte → State → Answer} {t : State}
      (hc : exec c s = .next (mgmtEvent code ch args run s)) (h : run args p = okay [] t) : answer c code .ok t :=
    exec_of_answer (a := okay [] t) hroom hc h
  have hrefuse {c : Instr} {code : Byte} {args : List Byte} {run : List Byte → State → Answer} {st : Status}
      (hc : exec c s = .next (mgmtEvent code ch args run s)) (h : run args p = refuse st p) : answer c code st p :=
    exec_of_answer (a := refuse st p) hroom hc h
  obtain ⟨pool, hp⟩ : ∃ pool, p = s.setPool pool := withPlace_eq s
  clear_value p
  subst hp
  refine ⟨fun i x l0 l1 h0 h1 y f l d => ?entry, fun i => ?invalidate, fun b x l0 l1 h0 h1 y f l d hb =>
      ⟨hrefuse rfl (cmdWritePosture_of_badIndex hb), hrefuse rfl (cmdInvalidatePosture_of_badIndex hb),
        hrefuse rfl (cmdWritePolicy_of_badIndex hb)⟩,
    fun i mask mode cap action d0 d1 t0 t1 t2 t3 => ?policy, fun b r hxy hxz hyz => ?axes,
    fun b x nx y ny z nz => ⟨fun hb => hrefuse rfl (cmdWriteAxisMap_of_badIndex hb),
      fun hb h => hrefuse rfl (cmdWriteAxisMap_of_badValue hb (axisRecordOf_of_bad h))⟩,
    fun a ha => ?params, fun v => ?lock, fun b hb => hrefuse rfl (cmdSetRotationLock_of_bad hb _)⟩
  case entry =>
    intro c low high good
    refine ⟨fun h => hrefuse rfl (cmdWritePosture_of_badValue (postureEntryOf_of_not_pass h)), fun h hvalid => ?_,
      fun v n h hvalid hv hn => ?_⟩
    · obtain ⟨x, hx⟩ := exists_postureEntryOf_of_pass (y := y) h
      exact hrefuse rfl (cmdWritePosture_of_busy hx hvalid)
    · exact hokay rfl (cmdWritePosture_of_free (postureEntryOf_of_pass h hv hn) hvalid)
  case invalidate =>
    exact ⟨fun h => hokay rfl (cmdInvalidatePosture_eq (s := s.setPool pool) (if_pos h)),
      fun h => hokay rfl (cmdInvalidatePosture_eq (s := s.setPool pool) (if_neg h))⟩
  case policy =>
    intro c delay idle good
    refine ⟨fun h => hrefuse rfl (cmdWritePolicy_of_badValue (policyRowOf_of_not_pass h)), fun m l h hm hl => ?_⟩
    intro row q
    have hwrite := cmdWritePolicy_of_row (i := i) (s := s.setPool pool) (policyRowOf_of_pass (mask := mask) h hm hl)
    refine ⟨fun hi => hokay rfl (hwrite.trans (congrArg (okay []) (if_neg hi))),
      fun hi => hokay rfl (hwrite.trans (congrArg (okay []) ((if_pos hi).trans ?_)))⟩
    have hrow : q.policy[q.posture.code] = row :=
      (Vector.getElem_set i.isLt e.posture.code.isLt).trans (if_pos (congrArg Fin.val hi))
    exact currentRowWritten_eq (old := e) (q := q) rfl hrow
  case axes =>
    intro source c q
    have hterm (t : AxisTerm) : axisTermOf (source t.source) (byteBool t.negated) = some t := by
      obtain ⟨a, n⟩ := t
      cases a <;> cases n <;> rfl
    have hrecord := axisRecordOf_eq_some_iff.2
      ⟨⟨hterm r.x, hterm r.y, hterm r.z⟩, AxisRecord.distinct_iff.2 ⟨hxy, hxz, hyz⟩⟩
    have hwrite := cmdWriteAxisMap_of_record (base := b) (s := s.setPool pool) hrecord
    simp only [PostureEngine.mapWritten_setAxis] at hwrite
    refine ⟨fun h => hokay rfl (hwrite.trans (congrArg (okay []) ?same)),
      fun hd hu => hokay rfl (hwrite.trans (congrArg (okay []) ?other))⟩
    case same =>
      by_cases hd : (s.setPool pool).posture.posture = .detached
      · rw [if_pos hd]
        exact reportPosture_of_same rfl rfl
      · rw [if_neg hd]
        exact reportPosture_override_of_same (old := e) (p := e.remapped b r) rfl rfl (h.resolve_left hd)
    case other =>
      rw [if_neg (show (s.setPool pool).posture.posture ≠ .detached from hd)]
      exact reportPosture_override_of_other (old := e) (p := e.remapped b r) rfl hu
  case params =>
    intro c good
    have hwrite : cmdWriteAngleParams _ (s.setPool pool) = _ := cmdWriteAngleParams_eq ha _
    refine ⟨fun h => hokay rfl (hwrite.trans (if_pos (a.valid_iff.2 h))),
      fun h => hrefuse rfl (hwrite.trans (if_neg fun hvalid => h (a.valid_iff.1 hvalid)))⟩
  case lock =>
    intro c free
    refine ⟨fun h => hokay rfl (cmdSetRotationLock_eq (s := s.setPool pool) (PostureEngine.setLock_of_idle h) rfl rfl),
      fun hfree hv hlock => ?_⟩
    subst hv
    exact hokay rfl
      (cmdSetRotationLock_eq (s := s.setPool pool) (PostureEngine.setLock_of_set hfree hlock) rfl rfl)

end Sys2Proof.Machine
end

section
/-! PROOFS. Posture selection: what matches an entry, the hold test and the search, and the posture chosen by each of
them (R76, R79 to R83). -/

namespace Sys2Proof.Machine

section
variable {p : PostureEngine} {e : PostureEntry} {i : Fin 8} {time : Half}

/-! ### Matches -/

theorem PostureEntry.acceptsLid_iff {lidsw : Bool} : e.acceptsLid lidsw = true ↔
    e.lid = .any ∨ (e.lid = .asserted ∧ lidsw = true) ∨ (e.lid = .released ∧ lidsw = false) := by
  unfold acceptsLid
  cases e.lid <;> simp

theorem PostureEngine.entryMatches_iff {low high : Nat} : p.entryMatches e low high = true ↔
    e.valid = true ∧ low ≤ p.hinge ∧ p.hinge ≤ high ∧ e.faces.getLsbD p.face.code = true
      ∧ (e.lid = .any ∨ (e.lid = .asserted ∧ p.lidsw = true) ∨ (e.lid = .released ∧ p.lidsw = false)) := by
  simp only [entryMatches, Bool.and_eq_true, decide_eq_true_eq, and_assoc, PostureEntry.acceptsLid_iff]
  rfl

/-- The hold test passes for the current entry alone, with its band widened (R80). -/
theorem PostureEngine.holdTest_iff : p.holdTest = true ↔ ∃ i : Fin 8, p.entry = some i
    ∧ p.table[i].posture = p.posture
    ∧ p.entryMatches p.table[i] (p.table[i].low - p.table[i].hysteresis)
        (min 4095 (p.table[i].high + p.table[i].hysteresis)) = true := by
  unfold holdTest
  cases p.entry with
  | none => simp
  | some i => simp

/-- The matching entry of lowest index is found (R81). -/
theorem PostureEngine.search_eq_some_iff : p.search = some i ↔
    p.entryMatches p.table[i] p.table[i].low p.table[i].high = true
      ∧ ∀ j < i, p.entryMatches p.table[j] p.table[j].low p.table[j].high = false := by
  rw [search, ← Fin.find?_eq_find?_finRange, Fin.find?_eq_some_iff]

theorem PostureEngine.search_eq_none_iff : p.search = none ↔
    ∀ j : Fin 8, p.entryMatches p.table[j] p.table[j].low p.table[j].high = false := by
  rw [search, ← Fin.find?_eq_find?_finRange, Fin.find?_eq_none_iff]

/-! ### The posture chosen -/

/-- The count of a candidate after one more evaluation for it (R82). -/
def PostureEngine.counts (p : PostureEngine) (c : Candidate) : Nat :=
  if p.candidate = c then p.candidateCount + 1 else 1

theorem PostureEngine.select_of_held (h : p.holdTest = true) : p.select time = p.clearCandidate :=
  if_pos h

/-- An entry of the posture held takes over silently (R81). -/
theorem PostureEngine.select_of_same (hold : p.holdTest = false) (h : p.search = some i)
    (hposture : p.table[i].posture = p.posture) : p.select time = { p.clearCandidate with entry := some i } := by
  simp only [select, hold, h, hposture, Bool.false_eq_true, if_false, if_true]

/-- An entry of another posture is counted toward, and taken when its dwell is reached (R82, R83). -/
theorem PostureEngine.select_of_other (hold : p.holdTest = false) (h : p.search = some i)
    (hposture : p.table[i].posture ≠ p.posture) : p.select time =
      if p.table[i].dwell ≤ p.counts (.entry i) then p.change p.table[i].posture (some i) time
      else { p with candidate := .entry i, candidateCount := p.counts (.entry i) } := by
  simp only [select, hold, h, hposture, Bool.false_eq_true, if_false]
  rfl

theorem PostureEngine.select_of_unknown (hold : p.holdTest = false) (h : p.search = none)
    (hposture : p.posture = .unknown) : p.select time = p.clearCandidate := by
  simp only [select, hold, h, hposture, Bool.false_eq_true, if_false, if_true]

/-- Without a match the count is toward UNKNOWN, under the Unmatched Dwell (R82, R83). -/
theorem PostureEngine.select_of_unmatched (hold : p.holdTest = false) (h : p.search = none)
    (hposture : p.posture ≠ .unknown) : p.select time =
      if p.params.unmatchedDwell ≤ p.counts .unmatched then p.change .unknown none time
      else { p with candidate := .unmatched, candidateCount := p.counts .unmatched } := by
  simp only [select, hold, h, hposture, Bool.false_eq_true, if_false]
  rfl

end

/-- Settles O32: the hold test, then the search by what it finds. -/
theorem postureSelection : Obligations.PostureSelection := by
  intro p time fits held matched first cleared changed counts
  have hfits (e : PostureEntry) (low high : Nat) : p.entryMatches e low high = true ↔ fits e low high :=
    PostureEngine.entryMatches_iff
  have hheld : p.holdTest = true ↔ ∃ i, held i := by
    simp only [PostureEngine.holdTest_iff, hfits, held]
  refine ⟨fun h => PostureEngine.select_of_held (hheld.2 h), fun h => ?_⟩
  have hold : p.holdTest = false := Bool.eq_false_iff.2 fun ht => (hheld.1 ht).elim h
  have hfirst {i : Fin 8} (hi : first i) : p.search = some i := by
    refine PostureEngine.search_eq_some_iff.2 ⟨(hfits _ _ _).2 hi.1, fun j hj => ?_⟩
    exact Bool.eq_false_iff.2 fun hm => hi.2 j hj ((hfits _ _ _).1 hm)
  refine ⟨fun i hi => PostureEngine.select_of_same hold (hfirst hi), fun i hi hother => ?other, fun hnone => ?none⟩
  case other =>
    have hselect := PostureEngine.select_of_other (time := time) hold (hfirst hi) hother
    exact ⟨fun hn => hselect.trans (if_pos hn), fun hn => hselect.trans (if_neg (Nat.not_le.2 hn))⟩
  case none =>
    have hsearch : p.search = none := PostureEngine.search_eq_none_iff.2 fun j =>
      Bool.eq_false_iff.2 fun hm => hnone j ((hfits _ _ _).1 hm)
    refine ⟨PostureEngine.select_of_unknown hold hsearch, fun hother => ?_⟩
    have hselect := PostureEngine.select_of_unmatched (time := time) hold hsearch hother
    exact ⟨fun hn => hselect.trans (if_pos hn), fun hn => hselect.trans (if_neg (Nat.not_le.2 hn))⟩

end Sys2Proof.Machine
end

section
/-! PROOFS. The rotation step under each rotation mode, and the sectors of the screen angle (R86 to R89). -/

namespace Sys2Proof.Machine

/-! ### Sectors -/

section
variable {a : Nat}

/-- The five ranges of the screen angle, the first and the last of one sector (R86). -/
theorem sectorOf_iff (ha : a ≤ 4095) :
    (sectorOf a = .rot0 ↔ a ≤ 511 ∨ 3584 ≤ a) ∧ (sectorOf a = .rot90 ↔ 512 ≤ a ∧ a ≤ 1535)
      ∧ (sectorOf a = .rot180 ↔ 1536 ≤ a ∧ a ≤ 2559) ∧ (sectorOf a = .rot270 ↔ 2560 ≤ a ∧ a ≤ 3583) := by
  unfold sectorOf
  split
  · exact ⟨iff_of_true rfl (by omega), iff_of_false nofun (by omega), iff_of_false nofun (by omega),
      iff_of_false nofun (by omega)⟩
  split
  · exact ⟨iff_of_false nofun (by omega), iff_of_true rfl (by omega), iff_of_false nofun (by omega),
      iff_of_false nofun (by omega)⟩
  split
  · exact ⟨iff_of_false nofun (by omega), iff_of_false nofun (by omega), iff_of_true rfl (by omega),
      iff_of_false nofun (by omega)⟩
  split
  · exact ⟨iff_of_false nofun (by omega), iff_of_false nofun (by omega), iff_of_false nofun (by omega),
      iff_of_true rfl (by omega)⟩
  · exact ⟨iff_of_true rfl (by omega), iff_of_false nofun (by omega), iff_of_false nofun (by omega),
      iff_of_false nofun (by omega)⟩

/-- The circular distance is the shorter of the two ways round (R88). -/
theorem circularDistance_eq {b : Nat} (ha : a ≤ 4095) (hb : b ≤ 4095) :
    circularDistance a b = min ((a + (4096 - b)) % 4096) ((b + (4096 - a)) % 4096) := by
  simp only [circularDistance]
  split <;> omega

end

/-! ### The rotation step -/

section
variable {p : PostureEngine} {angle magnitude : Nat}

/-- The flat flag of a screen angle's magnitude taken (R87). -/
def PostureEngine.withFlat (p : PostureEngine) (magnitude : Nat) : PostureEngine :=
  { p with flat := decide (magnitude < p.params.flatThreshold) }

/-- The count of a rotation candidate after one more evaluation for it (R88). -/
def PostureEngine.rotCounts (p : PostureEngine) (o : Orientation) : Nat :=
  if p.rotCandidate = some o then p.rotCount + 1 else 1

theorem PostureEngine.rotationStep_of_lock0 (h : p.effectiveMode = .lock0) : p.rotationStep angle magnitude =
    { (p.withFlat magnitude).clearRotCandidate with orientation := .rot0 } := by
  have hmode : (p.withFlat magnitude).effectiveMode = .lock0 := h
  simp only [withFlat] at hmode
  simp only [rotationStep, hmode, applyMode]
  rfl

theorem PostureEngine.rotationStep_of_hold (h : p.effectiveMode = .hold) : p.rotationStep angle magnitude =
    (p.withFlat magnitude).clearRotCandidate := by
  have hmode : (p.withFlat magnitude).effectiveMode = .hold := h
  simp only [withFlat] at hmode
  simp only [rotationStep, hmode, applyMode]
  rfl

/-- Flat or in motion the screen is not followed (R87). -/
theorem PostureEngine.rotationStep_of_free (h : p.effectiveMode = .free) : p.rotationStep angle magnitude =
    if magnitude < p.params.flatThreshold ∨ p.params.maxProjection < magnitude then p.withFlat magnitude
    else (p.withFlat magnitude).followScreen angle := by
  have hmode : (p.withFlat magnitude).effectiveMode = .free := h
  simp only [withFlat] at hmode
  simp only [rotationStep, hmode, rotMotion, Bool.or_eq_true, decide_eq_true_eq]
  rfl

theorem PostureEngine.followScreen_of_kept
    (h : sectorOf angle = p.orientation ∨ sectorDistance angle p.orientation ≤ p.params.rotHysteresis) :
    p.followScreen angle = p.clearRotCandidate := by
  simp only [followScreen]
  split
  · rfl
  · next hother => exact if_pos (h.resolve_left hother)

/-- Outside the widened sector the new sector is counted toward, and taken when the Rotation Dwell is reached (R88). -/
theorem PostureEngine.followScreen_of_left (hother : sectorOf angle ≠ p.orientation)
    (hfar : p.params.rotHysteresis < sectorDistance angle p.orientation) : p.followScreen angle =
      if p.params.rotDwell ≤ p.rotCounts (sectorOf angle) then
        { p.clearRotCandidate with orientation := sectorOf angle }
      else { p with rotCandidate := some (sectorOf angle), rotCount := p.rotCounts (sectorOf angle) } := by
  simp only [followScreen, hother, Nat.not_le.2 hfar, if_false]
  rfl

end

/-- Settles O33: the step by the effective mode, then the sectors and the distance from their bounds. -/
theorem rotationFollowsTheScreen : Obligations.RotationFollowsTheScreen := by
  intro p angle magnitude _ flat q cleared mode o n r
  have hmode : p.effectiveMode = mode := p.effectiveMode_eq
  rw [← hmode]
  refine ⟨fun h => PostureEngine.rotationStep_of_lock0 h, fun h => PostureEngine.rotationStep_of_hold h,
    fun h hstill => ?still, fun h hsteep hslow => ?follow, fun a ha => ?sectors⟩
  case still =>
    exact (PostureEngine.rotationStep_of_free h).trans (if_pos (hstill.imp_left of_decide_eq_true))
  case follow =>
    have hturn : r = q.followScreen angle := (PostureEngine.rotationStep_of_free h).trans <| if_neg <|
      not_or.2 ⟨of_decide_eq_false hsteep, Nat.not_lt.2 hslow⟩
    refine ⟨fun hkept => hturn.trans (PostureEngine.followScreen_of_kept (p := q) hkept), fun hother hfar => ?_⟩
    have hleft := hturn.trans (PostureEngine.followScreen_of_left (p := q) hother hfar)
    exact ⟨fun hn => hleft.trans (if_pos hn), fun hn => hleft.trans (if_neg (Nat.not_le.2 hn))⟩
  case sectors =>
    obtain ⟨h0, h90, h180, h270⟩ := sectorOf_iff ha
    refine ⟨h0, h90, h180, h270, ?_⟩
    simp only [sectorDistance, sectorBounds, circularDistance_eq ha, Nat.reduceLeDiff, and_self]

end Sys2Proof.Machine
end

section
/-! PROOFS. The operations of the Posture Engine keep what its law says of an engine: the clauses that hold at every
point of an event, and the orientation under LOCK0, which the end of each event restores (R66 to R69, R75 to R90). -/

namespace Sys2Proof.Machine

/-! ### The law of an engine -/

/-- The law of the Posture Engine apart from the rotation mode. It holds within an event too, between the choice of a
posture and the taking effect of its mode (R74). -/
structure PostureEngine.Settled (p : PostureEngine) : Prop where
  table : ∀ i : Fin 8, p.table[i].posture.entryless = false
  entry : p.posture.entryless = true → p.entry = none
  count : p.candidate = .none → p.candidateCount = 0
  rotCount : p.rotCandidate = none → p.rotCount = 0
  unhinged : p.hingeValid = false → p.posture.entryless = true
  hinge : p.hinge ≤ 4095

/-- The orientation is ROT0 while the effective mode is LOCK0 (R89). -/
def PostureEngine.ModeObeyed (p : PostureEngine) : Prop := p.effectiveMode = .lock0 → p.orientation = .rot0

/-- The law of the Posture Engine, of the engine alone. -/
def PostureEngine.Lawful (p : PostureEngine) : Prop := p.Settled ∧ p.ModeObeyed

theorem postureLaw_iff {s : State} : PostureLaw s ↔ s.posture.Lawful := by
  constructor
  · rintro ⟨table, entry, count, rotCount, unhinged, mode, hinge⟩
    exact ⟨⟨table, entry, count, rotCount, unhinged, hinge⟩, mode⟩
  · rintro ⟨⟨table, entry, count, rotCount, unhinged, hinge⟩, mode⟩
    exact ⟨table, entry, count, rotCount, unhinged, mode, hinge⟩

namespace PostureEngine

variable {p : PostureEngine} {x : Posture} {e : Option (Fin 8)} {i : Fin 8} {time : Half}

/-! ### Rotation -/

/-- The rotation of an engine changes only its flat flag, its orientation and its rotation candidate. -/
theorem Settled.rotated (h : p.Settled) {flat : Bool} {o : Orientation} {c : Option Orientation} {n : Nat}
    (hc : c = none → n = 0) :
    { p with flat := flat, orientation := o, rotCandidate := c, rotCount := n }.Settled :=
  { h with rotCount := hc }

theorem Settled.clearRotCandidate (h : p.Settled) : p.clearRotCandidate.Settled := h.rotated fun _ => rfl

theorem Settled.applyMode (h : p.Settled) : p.applyMode.Settled := by
  unfold PostureEngine.applyMode
  split
  · exact h
  · exact h.clearRotCandidate
  · exact h.rotated fun _ => rfl

/-- A mode that takes effect does not change the mode (R89). -/
theorem applyMode_effectiveMode (p : PostureEngine) : p.applyMode.effectiveMode = p.effectiveMode := by
  unfold PostureEngine.applyMode
  split <;> rfl

theorem applyMode_modeObeyed (p : PostureEngine) : p.applyMode.ModeObeyed := by
  intro h
  rw [applyMode_effectiveMode] at h
  simp only [PostureEngine.applyMode, h]

/-- A mode that takes effect completes the law (R89). -/
theorem Settled.lawful_applyMode (h : p.Settled) : p.applyMode.Lawful := ⟨h.applyMode, applyMode_modeObeyed p⟩

theorem Settled.followScreen (h : p.Settled) (angle : Nat) : (p.followScreen angle).Settled := by
  by_cases hkept : sectorOf angle = p.orientation ∨ sectorDistance angle p.orientation ≤ p.params.rotHysteresis
  · rw [followScreen_of_kept hkept]
    exact h.clearRotCandidate
  · obtain ⟨hother, hfar⟩ := not_or.1 hkept
    rw [followScreen_of_left hother (Nat.not_le.1 hfar)]
    split
    · exact h.rotated fun _ => rfl
    · exact h.rotated nofun

theorem Settled.rotationStep (h : p.Settled) (angle magnitude : Nat) : (p.rotationStep angle magnitude).Settled := by
  have hflat : (p.withFlat magnitude).Settled := { h with }
  cases hmode : p.effectiveMode with
  | lock0 => rw [rotationStep_of_lock0 hmode]; exact hflat.rotated fun _ => rfl
  | hold => rw [rotationStep_of_hold hmode]; exact hflat.clearRotCandidate
  | free =>
    rw [rotationStep_of_free hmode]
    split
    · exact hflat
    · exact hflat.followScreen angle

/-! ### Changes of posture -/

theorem Settled.clearCandidate (h : p.Settled) : p.clearCandidate.Settled := { h with count := fun _ => rfl }

theorem Settled.counted (h : p.Settled) {c : Candidate} (n : Nat) (hc : c ≠ .none) :
    { p with candidate := c, candidateCount := n }.Settled :=
  { h with count := fun hnone => absurd hnone hc }

/-- A change to a posture that fits the entry and the hinge angle keeps the law (R79, R83). -/
theorem Settled.change (h : p.Settled) (hentry : x.entryless = true → e = none)
    (hhinge : p.hingeValid = false → x.entryless = true) : (p.change x e time).Settled :=
  { h.clearCandidate with entry := hentry, unhinged := hhinge }

/-- An event that sets a posture without an entry leaves the law whole, whatever it did to the Hinge Record before (R69,
R83 to R85, R89). -/
theorem override_lawful (htable : ∀ i : Fin 8, p.table[i].posture.entryless = false)
    (hrot : p.rotCandidate = none → p.rotCount = 0) (hhinge : p.hinge ≤ 4095) (hmode : p.ModeObeyed)
    (hx : x.entryless = true) : (p.override x time).Lawful := by
  by_cases hsame : p.posture = x
  · rw [override_of_same hsame]
    subst hsame
    exact ⟨⟨htable, fun _ => rfl, fun _ => rfl, hrot, fun _ => hx, hhinge⟩, hmode⟩
  · rw [override_of_other hsame]
    have hchanged : (p.change x none time).Settled :=
      ⟨htable, fun _ => rfl, fun _ => rfl, hrot, fun _ => hx, hhinge⟩
    exact hchanged.lawful_applyMode

/-- Posture selection keeps the law: an entry is chosen with its own posture, and only with a hinge angle (R79 to
R83). -/
theorem Settled.select (h : p.Settled) (hvalid : p.hingeValid = true) (time : Half) : (p.select time).Settled := by
  have hhinge {y : Posture} (hnone : p.hingeValid = false) : y.entryless = true :=
    absurd (hvalid.symm.trans hnone) nofun
  have htable (i : Fin 8) (hyes : p.table[i].posture.entryless = true) : some i = none :=
    absurd ((h.table i).symm.trans hyes) nofun
  cases hold : p.holdTest with
  | true => rw [select_of_held hold]; exact h.clearCandidate
  | false =>
    cases hsearch : p.search with
    | none =>
      by_cases hunknown : p.posture = .unknown
      · rw [select_of_unknown hold hsearch hunknown]
        exact h.clearCandidate
      · rw [select_of_unmatched hold hsearch hunknown]
        split
        · exact h.change (fun _ => rfl) hhinge
        · exact h.counted _ nofun
    | some i =>
      by_cases hsame : p.table[i].posture = p.posture
      · rw [select_of_same hold hsearch hsame]
        exact { h.clearCandidate with entry := fun hyes => htable i (hsame ▸ hyes) }
      · rw [select_of_other hold hsearch hsame]
        split
        · exact h.change (htable i) hhinge
        · exact h.counted _ nofun

/-! ### The hinge work -/

theorem rawHinge_le (base lid offset : Nat) : rawHinge base lid offset ≤ 4095 := by
  simp only [rawHinge, Config.turn]
  omega

/-- A resolved hinge angle is valid and within the turn (R67, R68). -/
theorem Settled.resolveHinge (h : p.Settled) {raw : Nat} (hraw : raw ≤ 4095) : (p.resolveHinge raw).2.Settled
    ∧ ((p.resolveHinge raw).1 = .resolved → (p.resolveHinge raw).2.hingeValid = true) := by
  cases hvalid : p.hingeValid with
  | true =>
    rcases Nat.lt_or_ge p.hinge 2048 with hlow | hhigh
    · rw [resolveHinge_of_low hvalid hlow]
      exact ⟨{ h with hinge := by dsimp only; split <;> omega }, fun _ => hvalid⟩
    · rw [resolveHinge_of_high hvalid hhigh]
      exact ⟨{ h with hinge := by dsimp only; split <;> omega }, fun _ => hvalid⟩
  | false =>
    by_cases hband : p.params.wrapBand ≤ raw ∧ raw < 4096 - p.params.wrapBand
    · rw [resolveHinge_of_none hvalid hband]
      exact ⟨{ h with hinge := hraw, unhinged := nofun }, fun _ => rfl⟩
    · rw [resolveHinge_of_wrap hvalid (by omega)]
      exact ⟨h, nofun⟩

theorem Settled.hingeWork (h : p.Settled) (turning : Bool) : (p.hingeWork turning).2.Settled
    ∧ ((p.hingeWork turning).1 = .resolved → (p.hingeWork turning).2.hingeValid = true) := by
  have hflags : (p.withHoldFlags turning).Settled := { h with }
  by_cases hheld : p.sampleStale = true ∨ p.isDegenerate = true ∨ p.hingeMotion = true
  · rw [hingeWork_of_held hheld]
    exact ⟨hflags, nofun⟩
  · rw [hingeWork_of_free hheld]
    have hface : { p.withHoldFlags turning with face := faceOf p.params.baseFaceBand p.baseTilt.1 }.Settled :=
      { hflags with }
    exact hface.resolveHinge (rawHinge_le _ _ _)

theorem Settled.hingeStep (h : p.Settled) (attached turning : Bool) (time : Half) :
    (p.hingeStep attached turning time).Settled := by
  rw [hingeStep_eq]
  obtain ⟨hwork, hvalid⟩ := h.hingeWork turning
  split
  · split
    · next hresolved => exact hwork.select (hvalid hresolved) time
    · exact hwork
  · exact { h with }

/-- An evaluation keeps the law: its last step lets the mode of the posture chosen take effect (R74). -/
theorem Settled.evaluate (h : p.Settled) (lidsw attached : Bool) (time : Half) :
    (p.evaluate lidsw attached time).Lawful := by
  have hlid : { p with lidsw := lidsw }.Settled := { h with }
  exact ((hlid.rotationStep _ _).hingeStep attached _ time).lawful_applyMode

/-! ### Admission, teardown and reset -/

theorem Lawful.admitted (h : p.Lawful) (time : Half) : (p.admitted time).Lawful :=
  override_lawful (p := { p with hinge := 0, hingeValid := false }) h.1.table h.1.rotCount (Nat.zero_le _) h.2 rfl

theorem Lawful.override_detached (h : p.Lawful) (time : Half) : (p.override .detached time).Lawful :=
  override_lawful h.1.table h.1.rotCount h.1.hinge h.2 rfl

theorem Lawful.softReset (h : p.Lawful) : p.softReset.Lawful :=
  ⟨⟨h.1.table, fun _ => rfl, fun _ => rfl, fun _ => rfl, fun _ => rfl, Nat.zero_le _⟩, fun _ => rfl⟩

/-! ### The commands of the posture tables -/

/-- An entry of a posture that a table can choose keeps the law (R76, R77). -/
theorem Lawful.setEntry (h : p.Lawful) {e : PostureEntry} (he : e.posture.entryless = false) :
    { p with table := p.table.set i e }.Lawful := by
  refine ⟨{ h.1 with table := fun j => ?_ }, h.2⟩
  simp only [Fin.getElem_fin, Vector.getElem_set]
  split
  · exact he
  · exact h.1.table j

theorem Lawful.invalidate (h : p.Lawful) (i : Fin 8) : (p.invalidate i).Lawful := by
  have hset : { p with table := p.table.set i { p.table[i] with valid := false } }.Lawful := h.setEntry (h.1.table i)
  simp only [PostureEngine.invalidate]
  split
  · exact ⟨hset.1.clearCandidate, hset.2⟩
  · exact hset

/-- A row of another posture than the current one does not touch the mode (R89, R92). -/
theorem Lawful.setRow (h : p.Lawful) {row : PolicyRow} (hi : i ≠ p.posture.code) :
    { p with policy := p.policy.set i row }.Lawful := by
  have hrow : { p with policy := p.policy.set i row }.currentRow = p.currentRow :=
    Vector.getElem_set_ne i.isLt p.posture.code.isLt fun heq => hi (Fin.ext heq)
  refine ⟨{ h.1 with }, fun hmode => h.2 ?_⟩
  rw [effectiveMode_eq, hrow] at hmode
  rw [effectiveMode_eq]
  exact hmode

/-- An Axis Map write clears the Hinge Record and leaves no posture that needs one (R59, R85). -/
theorem Lawful.mapWritten (h : p.Lawful) (base : Bool) (r : AxisRecord) (time : Half) :
    ((p.setAxis base r).mapWritten time).Lawful := by
  rw [mapWritten_setAxis]
  split
  · next hdetached =>
    exact ⟨⟨h.1.table, fun _ => rfl, fun _ => rfl, h.1.rotCount, fun _ => congrArg Posture.entryless hdetached,
      Nat.zero_le _⟩, h.2⟩
  · exact override_lawful (p := p.remapped base r) h.1.table h.1.rotCount (Nat.zero_le _) h.2 rfl

theorem Lawful.setLock (h : p.Lawful) (v : Bool) : (p.setLock v).Lawful := by
  have hlock : { p with rotLock := v }.Settled := { h.1 with }
  simp only [PostureEngine.setLock]
  split
  · next hmode => exact ⟨hlock, fun hq => h.2 (hmode.symm.trans hq)⟩
  · exact hlock.lawful_applyMode

end PostureEngine

/-! ### Posture entries -/

/-- UNKNOWN and DETACHED are the two codes below those a table can choose (R75, R77). -/
theorem Posture.entryless_eq_false_iff {x : Posture} : x.entryless = false ↔ 2 ≤ x.code.val := by
  cases x <;> decide

theorem postureEntryOf_entryless {x l0 l1 h0 h1 y f l d : Byte} {e : PostureEntry}
    (h : postureEntryOf x l0 l1 h0 h1 y f l d = some e) : e.posture.entryless = false := by
  have hpass : EntryArgumentsPass x l0 l1 h0 h1 f l d := by
    by_contra hfail
    exact absurd (h.symm.trans (postureEntryOf_of_not_pass hfail)) nofun
  have ⟨hx2, hx7, _, _, _, _, hl, _, _⟩ := hpass
  obtain ⟨v, hv⟩ := Posture.exists_code hx7
  obtain ⟨n, hn⟩ := LidCondition.exists_code hl
  obtain rfl := Option.some.inj ((postureEntryOf_of_pass hpass hv hn).symm.trans h)
  exact Posture.entryless_eq_false_iff.2 (hv ▸ hx2)

end Sys2Proof.Machine
end

section
/-! PROOFS. Every command keeps the law of the Posture Engine: lid and base samples, the Posture Engine's own events and
its commands reach the engine, and nothing else does (R63 to R90). -/

namespace Sys2Proof.Machine

/-! ### What leaves the engine alone -/

/-- The law reads nothing but the engine. -/
theorem PostureLaw.of_posture {s t : State} (h : PostureLaw s) (ht : t.posture = s.posture) : PostureLaw t :=
  postureLaw_iff.2 (ht ▸ postureLaw_iff.1 h)

theorem PostureLaw.of_engine {t : State} {p : PostureEngine} (h : p.Lawful) (ht : t.posture = p) : PostureLaw t :=
  postureLaw_iff.2 (ht ▸ h)

/-- A delivery taken keeps the law where what is done with it does. -/
theorem PostureLaw.taking {α : Type} {r : Block × Block} {sel : Delivery → Option α} {f : α → State → State}
    {s : State} (h : PostureLaw s) (hf : ∀ a t, PostureLaw t → PostureLaw (f a t)) :
    PostureLaw (taking r sel f s) := by
  rcases taking_cases r sel f s with he | ⟨a, ds, -, he⟩ <;> rw [he]
  · exact h
  · exact hf a _ h

theorem PostureLaw.takingOne {d : Delivery} {f : State → State} {s : State} (h : PostureLaw s)
    (hf : ∀ t, PostureLaw t → PostureLaw (f t)) : PostureLaw (takingOne d f s) :=
  h.taking fun _ => hf

/-- An event that acts only under a condition keeps the law where its act leaves the engine alone. -/
theorem PostureLaw.guarded {p : Prop} [Decidable p] {s t : State} (h : PostureLaw s)
    (ht : t.posture = s.posture) : PostureLaw (if p then t else s) := by
  split
  · exact h.of_posture ht
  · exact h

@[simp] theorem hostReady_posture (level : Bool) (s : State) : (hostReady level s).posture = s.posture := by
  simp [hostReady]

@[simp] theorem presenceReleased_posture (s : State) : (presenceReleased s).posture = s.posture := by
  simp only [presenceReleased]; split <;> simp

@[simp] theorem handshakeExpired_posture (s : State) : (handshakeExpired s).posture = s.posture := by
  simp only [handshakeExpired]; (repeat' split) <;> simp

@[simp] theorem hostFrameSent_posture (s : State) : (hostFrameSent s).posture = s.posture := by
  simp only [hostFrameSent]; split <;> simp

@[simp] theorem lookWhereAsked_posture (s : State) : (lookWhereAsked s).posture = s.posture := by
  simp only [lookWhereAsked]; split <;> simp

@[simp] theorem tryRelease_posture (o : RetryOccasion) (s : State) : (tryRelease o s).posture = s.posture := by
  simp only [tryRelease]; split <;> simp

@[simp] theorem tryLift_posture (o : RetryOccasion) (s : State) : (tryLift o s).posture = s.posture := by
  simp only [tryLift]; split <;> simp

/-- The transmitters' looks after a step leave the engine alone. -/
theorem PostureLaw.sLook {s : State} (h : PostureLaw s) : PostureLaw (sLook s) := h.of_posture (by simp)

theorem PostureLaw.lookAfter {s t : State} (h : PostureLaw t) : PostureLaw (lookAfter s t) := h.of_posture (by simp)

theorem PostureLaw.presenceAsserted {s : State} (h : PostureLaw s) : PostureLaw (presenceAsserted s) := by
  simp only [Machine.presenceAsserted]
  split
  · exact h.takingOne fun t ht => ht.of_posture (by simp)
  · exact h.of_posture (by simp)

theorem PostureLaw.tick {s : State} (h : PostureLaw s) : PostureLaw (tick s) := h

theorem PostureLaw.freshnessExpired {s : State} (h : PostureLaw s) : PostureLaw (freshnessExpired s) := by
  simp only [Machine.freshnessExpired]
  split <;> exact h

/-! ### Samples -/

theorem PostureLaw.takeLidSample {s : State} (h : PostureLaw s) (payload : List Byte) :
    PostureLaw (takeLidSample payload s) := by
  have hlid : { s.posture with lid := sampleOf payload s.time }.Settled := { (postureLaw_iff.1 h).1 with }
  exact .of_engine (hlid.evaluate s.lines.lidsw s.link.state.attachedOrSuspect s.time) (by simp [Machine.takeLidSample])

theorem PostureLaw.takeBaseSample {s : State} (h : PostureLaw s) (payload : List Byte) :
    PostureLaw (takeBaseSample payload s) := h

theorem PostureLaw.consume {s : State} (h : PostureLaw s) (c : Consumer) (port : UpPort) (payload : List Byte) :
    PostureLaw (consume c port payload s) := by
  simp only [Machine.consume]
  split
  · cases c with
    | lidSample => exact h.takeLidSample payload
    | baseSample => exact h.takeBaseSample payload
    | penFrame => exact h.of_posture (by simp [Consumer.take])
  · exact h.of_posture (by simp)

/-! ### Classification and the ports -/

/-- Of what follows a decision only a consumer reaches the engine. -/
theorem PostureLaw.act {s : State} (h : PostureLaw s) (d : Decision) (port : UpPort) (f : Frame) :
    PostureLaw (act d port f s).2 := by
  simp only [Machine.act]
  split
  · exact h.of_posture (by simp)
  · next c _ _ => exact (h.consume c port f.payload).of_posture (by simp)
  · exact h.of_posture (by simp)
  · exact h.consume _ port f.payload
  · exact h.of_posture (by simp)
  · exact h

theorem PostureLaw.classify {s : State} (h : PostureLaw s) (port : UpPort) (f : Frame) :
    PostureLaw (classify port f s).2 :=
  PostureLaw.act (h.of_posture (by simp)) _ port f

theorem PostureLaw.checkDeclared {s : State} (h : PostureLaw s) (d : Descriptor) (f : Frame) :
    PostureLaw (checkDeclared d f s) := by
  simp only [Machine.checkDeclared]
  split
  · exact h.of_posture (by simp)
  split
  · exact h.of_posture (by simp)
  split
  · exact h.of_posture (by simp)
  · exact (h.classify .b f).of_posture (by simp)

theorem PostureLaw.checkAttached {s : State} (h : PostureLaw s) (f : Frame) : PostureLaw (checkAttached f s) := by
  simp only [Machine.checkAttached]
  split
  · split
    · exact h.of_posture (by simp)
    · split
      · exact h.checkDeclared _ f
      · exact h.of_posture (by simp)
  · exact h.of_posture (by simp)

theorem PostureLaw.takeBaseFrame {s : State} (h : PostureLaw s) (f : Frame) : PostureLaw (takeBaseFrame f s) := by
  simp only [Machine.takeBaseFrame]
  split
  · exact h.of_posture (by simp)
  · exact h.of_posture (by simp)
  · exact PostureLaw.checkAttached (h.of_posture (by simp)) f

theorem PostureLaw.receiveB {s : State} (h : PostureLaw s) (unit : List Byte) : PostureLaw (receiveB unit s) := by
  simp only [Machine.receiveB]
  split
  · split
    · exact PostureLaw.takeBaseFrame (h.of_posture (by simp)) _
    · exact h.of_posture (by simp)
  · exact h.of_posture (by simp)

theorem PostureLaw.receiveL {s : State} (h : PostureLaw s) (unit : List Byte) : PostureLaw (receiveL unit s) := by
  simp only [Machine.receiveL]
  split
  · split
    · exact PostureLaw.classify (h.of_posture (by simp)) .l _
    · exact h.of_posture (by simp)
  · exact h.of_posture (by simp)

theorem PostureLaw.receiveP {s : State} (h : PostureLaw s) (unit : List Byte) : PostureLaw (receiveP unit s) := by
  simp only [Machine.receiveP]
  split
  · split
    · exact PostureLaw.classify (h.of_posture (by simp)) .p _
    · exact h.of_posture (by simp)
  · exact h.of_posture (by simp)

/-! ### The events and the commands of the Posture Engine -/

theorem PostureLaw.admitPosture {s : State} (h : PostureLaw s) : PostureLaw (admitPosture s) :=
  .of_engine ((postureLaw_iff.1 h).admitted s.time) (by simp [Machine.admitPosture])

theorem PostureLaw.tearPosture {s : State} (h : PostureLaw s) : PostureLaw (tearPosture s) :=
  .of_engine ((postureLaw_iff.1 h).override_detached s.time) (by simp [Machine.tearPosture])

theorem PostureLaw.cmdWritePosture {s : State} (h : PostureLaw s) (args : List Byte) :
    PostureLaw (cmdWritePosture args s).state := by
  simp only [Machine.cmdWritePosture]
  split
  case h_2 => exact h
  split
  · exact h
  · split
    · exact h
    · next e he =>
      split
      · exact h
      · exact .of_engine ((postureLaw_iff.1 h).setEntry (postureEntryOf_entryless he)) rfl

theorem PostureLaw.cmdInvalidatePosture {s : State} (h : PostureLaw s) (args : List Byte) :
    PostureLaw (cmdInvalidatePosture args s).state := by
  simp only [Machine.cmdInvalidatePosture]
  split
  case h_2 => exact h
  split
  · exact h
  · next i _ => exact .of_engine ((postureLaw_iff.1 h).invalidate i) rfl

/-- The row of the current posture written: its mode takes effect at once (R93). -/
theorem PostureLaw.cmdWritePolicy {s : State} (h : PostureLaw s) (args : List Byte) :
    PostureLaw (cmdWritePolicy args s).state := by
  simp only [Machine.cmdWritePolicy]
  split
  case h_2 => exact h
  split
  · exact h
  · next i _ =>
    split
    · exact h
    · next row _ =>
      have hlaw := postureLaw_iff.1 h
      have hrow : { s.posture with policy := s.posture.policy.set i row }.Settled := { hlaw.1 with }
      simp only [okay_state]
      split
      · exact .of_engine hrow.lawful_applyMode (by simp [currentRowWritten])
      · next hother => exact .of_engine (hlaw.setRow hother) rfl

theorem PostureLaw.cmdWriteAxisMap {s : State} (h : PostureLaw s) (args : List Byte) :
    PostureLaw (cmdWriteAxisMap args s).state := by
  simp only [Machine.cmdWriteAxisMap]
  split
  case h_2 => exact h
  split
  · exact h
  · next base _ =>
    split
    · exact h
    · next r _ => exact .of_engine ((postureLaw_iff.1 h).mapWritten base r s.time) (by simp)

theorem PostureLaw.cmdWriteAngleParams {s : State} (h : PostureLaw s) (args : List Byte) :
    PostureLaw (cmdWriteAngleParams args s).state := by
  simp only [Machine.cmdWriteAngleParams]
  split
  · split <;> exact h
  · exact h

theorem PostureLaw.cmdSetRotationLock {s : State} (h : PostureLaw s) (args : List Byte) :
    PostureLaw (cmdSetRotationLock args s).state := by
  simp only [Machine.cmdSetRotationLock]
  split
  case h_2 => exact h
  split
  · exact h
  · next v _ => exact .of_engine ((postureLaw_iff.1 h).setLock v) (by simp)

/-- Every command that a code names, SOFT_RESET aside, keeps the law in its execution: all but six leave the engine
alone. -/
theorem PostureLaw.commandOf {code : Nat} {run : List Byte → State → Answer} (hc : commandOf code = some run)
    (args : List Byte) {s : State} (h : PostureLaw s) : PostureLaw (run args s).state := by
  unfold Machine.commandOf at hc
  split at hc <;> cases hc
  case h_6 => exact h.cmdWritePosture args
  case h_7 => exact h.cmdInvalidatePosture args
  case h_9 => exact h.cmdWritePolicy args
  case h_10 => exact h.cmdWriteAxisMap args
  case h_11 => exact h.cmdWriteAngleParams args
  case h_13 => exact h.cmdSetRotationLock args
  all_goals exact h.of_posture (by simp)

/-! ### Answers and the S-port -/

@[simp] theorem complete_posture (code : Byte) (i : BufIdx) (a : Answer) :
    (complete code i a).posture = a.state.posture := by
  simp [complete]

/-- A command with its response place taken keeps the law where its execution does. -/
theorem PostureLaw.respond {code : Byte} {unit : List Byte} {run : State → Answer} {s : State} (h : PostureLaw s)
    (hrun : ∀ t, PostureLaw t → PostureLaw (run t).state) : PostureLaw (respond code unit run s) := by
  rcases respond_cases code unit run s with ⟨-, i, p, -, he⟩ | he <;> rw [he]
  · exact (hrun (s.setPool p) h).of_posture (by simp)
  · exact h.of_posture (by simp)

theorem PostureLaw.softResetState {s : State} (h : PostureLaw s) : PostureLaw (softResetState s) :=
  .of_engine (postureLaw_iff.1 h).softReset rfl

@[simp] theorem placeResetResponse_posture (s : State) : (placeResetResponse s).posture = s.posture := by
  simp only [placeResetResponse]; split <;> simp [okay]

theorem PostureLaw.runSoftReset {s : State} (h : PostureLaw s) (unit args : List Byte) :
    PostureLaw (runSoftReset unit args s) := by
  simp only [Machine.runSoftReset]
  split
  · split
    · exact h.softResetState.of_posture (by simp)
    · exact h.of_posture (by simp)
  · exact h.respond fun _ => id

theorem PostureLaw.manage {s : State} (h : PostureLaw s) (unit payload : List Byte) :
    PostureLaw (manage unit payload s) := by
  cases payload with
  | nil => exact h.respond fun _ => id
  | cons code args =>
    simp only [Machine.manage]
    split
    · exact h.runSoftReset unit args
    · split
      · next run hrun => exact h.respond fun _ => .commandOf hrun args
      · exact h.respond fun _ => id

@[simp] theorem placeDownstream_posture (f : Frame) (s : State) : (placeDownstream f s).posture = s.posture := by
  have hp := placeReceived_frame .qd f.raw s
  simp only [placeDownstream]
  split <;> simp_all

theorem PostureLaw.takeHostFrame {s : State} (h : PostureLaw s) (f : Frame) : PostureLaw (takeHostFrame f s) := by
  simp only [Machine.takeHostFrame, badDest]
  split
  · split
    · exact PostureLaw.manage (h.of_posture (by simp)) _ _
    · exact h.of_posture (by simp)
  · (repeat' split) <;> exact h.of_posture (by simp)

theorem PostureLaw.receiveS {s : State} (h : PostureLaw s) (unit : List Byte) : PostureLaw (receiveS unit s) := by
  simp only [Machine.receiveS]
  split
  · split
    · exact PostureLaw.takeHostFrame (h.of_posture (by simp)) _
    · exact h.of_posture (by simp)
  · exact h.of_posture (by simp)

/-- A management command given as a command of its own keeps the law. -/
theorem PostureLaw.mgmtEvent {code : Byte} {run : List Byte → State → Answer} {s : State} (h : PostureLaw s)
    (hc : Machine.commandOf code.toNat = some run) (channel : Chan) (args : List Byte) :
    PostureLaw (mgmtEvent code channel args run s) :=
  (h.respond fun _ => .commandOf hc args).lookAfter

/-! ### Every command -/

/-- Every command keeps the law, taken by the kind of its meaning. -/
theorem PostureLaw.exec {s : State} (h : PostureLaw s) (c : Instr) :
    ∃ t, exec c s = .next t ∧ PostureLaw t := by
  cases c with
  | powerOnReset => exact ⟨_, rfl, postureLaw_reset⟩
  | timeCountTick => exact ⟨_, rfl, h.tick⟩
  -- Units at the four ports.
  | bPortUnitCompleted => exact ⟨_, rfl, (h.receiveB _).lookAfter⟩
  | lPortUnitCompleted lidsw =>
    have hlines : PostureLaw (s.setLines { s.lines with lidsw := lidsw }) := h
    exact ⟨_, rfl, (hlines.receiveL _).sLook⟩
  | pPortUnitCompleted => exact ⟨_, rfl, (h.receiveP _).lookAfter⟩
  | sPortUnitCompleted => exact ⟨_, rfl, (h.receiveS _).lookAfter⟩
  -- Lines and the ends of what the transmitters send.
  | presenceAsserted => exact ⟨_, rfl, h.presenceAsserted⟩
  | hostReadyChange | presenceReleased | bPortSymbolReceived | handshakeWaitExpiry | sPortFrameEnd
  | bPortSymbolSent | partOriginatedFrameSent | downstreamFrameSent | drivePeriodEnd =>
    exact ⟨_, rfl, h.of_posture (by simp)⟩
  -- Timers.
  | baseFreshnessExpiry => exact ⟨_, rfl, h.freshnessExpired⟩
  | contactDebounceExpiry | identTimeoutExpiry | aliveWindowExpiry | pingExpiry | probeWindowExpiry
  | penSilenceExpiry | topUpExpiry | cooldownExpiry | sleepDelayExpiry | idleTimerExpiry =>
    exact ⟨_, rfl, h.guarded (by simp)⟩
  -- Deliveries taken, by the Posture Engine first.
  | postureAdmission => exact ⟨_, rfl, h.takingOne fun t ht => ht.admitPosture.sLook⟩
  | postureTeardown => exact ⟨_, rfl, h.takingOne fun t ht => ht.tearPosture.sLook⟩
  | owedFrameEmission | pendingItemRetry | inputGateTeardown | toggleAndHaltReset | transmitterTeardown
  | railTeardown | activityEvent | wakeSourceEvent | eventDelivery =>
    exact ⟨_, rfl, h.takingOne fun t ht => ht.of_posture (by simp [resetToggles])⟩
  | admissionGrant => exact ⟨_, rfl, h.takingOne fun t ht => ht.of_posture (by split <;> simp)⟩
  | releaseRetry | liftRetry | gateUpdate | capChange | powerPostureChange | powerPolicyEvent =>
    exact ⟨_, rfl, h.taking fun a t ht => ht.of_posture (by simp)⟩
  -- Management commands.
  | softReset => exact ⟨_, rfl, (h.runSoftReset _ _).lookAfter⟩
  | getInfo | writeRoute | invalidateRoute | readRoute | setDefaultRoute | writePosture | invalidatePosture
  | readPostureEntry | writePolicy | writeAxisMap | writeAngleParams | readPostureRecord | setRotationLock
  | writeBaseClass | readBaseRecord | setLinkTiming | channelHalt | channelResume | setBudget | readBudget
  | writeDriveLevel | writeChargeCell | setChargeParams | chargeEnable | readChargeRecord | setHostState
  | writeWakeTable | readSleepRecord | setQueue | flushQueue | readQueues | readEvents | clearEvents
  | setEventEnable | readLog | clearLog | readCounters =>
    exact ⟨_, rfl, h.mgmtEvent rfl _ _⟩

/-- Settles O7, command by command: each event of the Posture Engine ends with its mode in effect, and only a resolved
hinge angle lets an entry choose the posture. -/
theorem everyStepKeepsThePostureLaw : Obligations.EveryStepKeepsThePostureLaw := by
  intro s t h hstep
  simp only [step] at hstep
  split at hstep
  · cases hstep
    exact h
  · next c rest _ =>
    obtain ⟨u, hu, hlaw⟩ := PostureLaw.exec (s := s.setPending rest) h c
    obtain rfl := Host.Outcome.next.inj (hu.symm.trans hstep)
    exact hlaw

end Sys2Proof.Machine
end

section
/-! PROOFS. The Input Gate's own events: the gate update and the teardown at its two filters (R97, R103, R105, R106,
R108, R109; assumptions 7 and 23). -/

namespace Sys2Proof.Machine

/-- The class whose gate the Key Filter follows (R98; assumption 23). -/
theorem KeyFilter.followed_eq (k : KeyFilter) : k.followed = if k.bound = none then 0 else k.cls := by
  unfold followed
  cases k.bound <;> rfl

/-- A filter acts in a gate update where the gate it follows has moved. -/
theorem ite_bne {α : Type} (a b : Bool) (x y : α) : (if a != b then x else y) = if a = b then y else x := by
  by_cases h : a = b <;> simp [h]

/-- A gate update: the gates are set, and each filter turns where the gate of its class has moved (R97). -/
theorem updateGates_eq (mask : BitVec 8) (padFirst : Bool) (s : State) : updateGates mask padFirst s =
    inOrder padFirst
      (fun t => if gateOf s.gate.gates s.gate.key.followed = gateOf mask s.gate.key.followed then t
        else keyToGate (gateOf mask s.gate.key.followed) t)
      (fun t => if gateOf s.gate.gates s.gate.pad.cls = gateOf mask s.gate.pad.cls then t
        else padToGate (gateOf mask s.gate.pad.cls) t)
      (s.setGate { s.gate with gates := mask }) := by
  simp only [updateGates, ite_bne]

/-- Settles O38: the delivery taken, then the two filters' turns and their teardowns, in either order. -/
theorem gateUpdatesAndTeardown : Obligations.GateUpdatesAndTeardown := by
  intro before after padFirst s u
  refine ⟨fun event mask h => ?update, fun h => ?teardown⟩
  case update =>
    intro v cls keyTurn padTurn
    have hexec : exec (.gateUpdate padFirst) s = .next (sLook (updateGates mask padFirst u)) :=
      congrArg Host.Outcome.next (taking_of_front (sel := gateMaskOf) h rfl _)
    have hfollowed : s.gate.key.followed = cls := s.gate.key.followed_eq
    have hupdate : updateGates mask padFirst u = inOrder padFirst keyTurn padTurn v := by
      rw [updateGates_eq, show u.gate.key.followed = cls from hfollowed]
      rfl
    exact hexec.trans (congrArg (fun t => Host.Outcome.next (sLook t)) hupdate)
  case teardown =>
    intro keyGone padGone
    have hkey : keyTeardown = keyGone := rfl
    have hpad : padTeardown = padGone := rfl
    have hteardown : gateTeardown padFirst u = inOrder padFirst keyGone padGone u := by
      rw [gateTeardown, hkey, hpad]
    have hexec : exec (.inputGateTeardown padFirst) s = .next (sLook (gateTeardown padFirst u)) :=
      congrArg Host.Outcome.next (takingOne_of_front h _)
    exact hexec.trans (congrArg (fun t => Host.Outcome.next (sLook t)) hteardown)

end Sys2Proof.Machine
end

section
/-! PROOFS. The moves of the sleep vote: its two timers, activity, posture changes and policy events (R155 to R162). -/

namespace Sys2Proof.Machine

section
variable {s : State} {row : PolicyRow} {new : Posture}

/-! ### AWAKE entered -/

theorem Power.awake_counters (p : Power) (row : PolicyRow) : (p.awake row).counters = p.counters := by
  unfold awake
  split <;> rfl

/-- A withdrawn request is counted and delivered, and the vote is AWAKE under the row (R162). -/
theorem withdraw_eq (row : PolicyRow) (s : State) : withdraw row s = { s with
    power := { s.power.awake row with
      counters := { s.power.counters with withdrawals := satInc s.power.counters.withdrawals } }
    deliveries := s.deliveries ++ [.event .sleepWithdrawn] } := by
  simp only [withdraw, countPower, enterAwake, State.setPower_power, Power.awake_counters]
  rfl

/-! ### Activity -/

theorem activity_of_awake (h : s.power.vote = .awake) : activity s =
    if (rowNow s).idleTimeout = 0 then noteActivity s
    else (noteActivity s).setPower { (noteActivity s).power with idle := some (rowNow s).idleTimeout } := by
  have hvote : (noteActivity s).power.vote = .awake := h
  simp only [activity, hvote]
  rfl

theorem activity_of_pending (h : s.power.vote = .pending) (hidle : s.power.reason = .idle) :
    activity s = enterAwake (rowNow s) (noteActivity s) := by
  have hvote : (noteActivity s).power.vote = .pending := h
  have hreason : (noteActivity s).power.reason = .idle := hidle
  simp only [activity, hvote, hreason]
  rfl

theorem activity_of_requested (h : s.power.vote = .requested) (hidle : s.power.reason = .idle) :
    activity s = withdraw (rowNow s) (noteActivity s) := by
  have hvote : (noteActivity s).power.vote = .requested := h
  have hreason : (noteActivity s).power.reason = .idle := hidle
  simp only [activity, hvote, hreason]
  rfl

/-- Activity ends no reason but idleness (R158). -/
theorem activity_of_not_idle (h : s.power.vote = .pending ∨ s.power.vote = .requested)
    (hidle : s.power.reason ≠ .idle) : activity s = noteActivity s := by
  simp only [activity]
  split
  · next hawake => exact (h.elim (fun hp => nomatch hp.symm.trans hawake) fun hr => nomatch hr.symm.trans hawake)
  · next hreason => exact absurd hreason hidle
  · next hreason => exact absurd hreason hidle
  · rfl

theorem activity_of_sleeping (h : s.power.vote = .asleep ∨ s.power.vote = .waking) :
    activity s = noteActivity s := by
  have hvote : (noteActivity s).power.vote = .asleep ∨ (noteActivity s).power.vote = .waking := h
  rcases hvote with hvote | hvote <;> simp only [activity, hvote]

/-! ### Posture changes -/

theorem powerPostureChanged_of_entering (h : s.power.vote = .awake ∨ s.power.vote = .pending) :
    powerPostureChanged new row s = enterAwake row (postureWake new (noteActivity s)) := by
  rcases h with h | h <;> simp only [powerPostureChanged, h]

theorem powerPostureChanged_of_requested (h : s.power.vote = .requested) :
    powerPostureChanged new row s = withdraw row (postureWake new (noteActivity s)) := by
  simp only [powerPostureChanged, h]

theorem powerPostureChanged_of_sleeping (h : s.power.vote = .asleep ∨ s.power.vote = .waking) :
    powerPostureChanged new row s = postureWake new (noteActivity s) := by
  rcases h with h | h <;> simp only [powerPostureChanged, h]

/-! ### Policy events -/

theorem powerPolicyChanged_of_awake (h : s.power.vote = .awake) : powerPolicyChanged row s = enterAwake row s := by
  simp only [powerPolicyChanged, h]

theorem powerPolicyChanged_of_sleeping (h : s.power.vote = .asleep ∨ s.power.vote = .waking) :
    powerPolicyChanged row s = s := by
  rcases h with h | h <;> simp only [powerPolicyChanged, h]

/-- Idleness ends where the row no longer has an idle timeout (R161). -/
theorem powerPolicyChanged_of_idle (h : s.power.vote = .pending ∨ s.power.vote = .requested)
    (hidle : s.power.reason = .idle) :
    powerPolicyChanged row s = if row.idleTimeout = 0 then endReason row s else s := by
  rcases h with h | h <;> simp only [powerPolicyChanged, h, hidle]

theorem powerPolicyChanged_of_closed (h : s.power.vote = .pending ∨ s.power.vote = .requested)
    (hclosed : s.power.reason = .closed) : powerPolicyChanged row s = policyClosed row s := by
  rcases h with h | h <;> simp only [powerPolicyChanged, h, hclosed]

theorem policyClosed_of_none (h : row.sleepDelay = none) : policyClosed row s = endReason row s := by
  simp only [policyClosed, h]

theorem policyClosed_of_delay {d : Nat} (h : row.sleepDelay = some d) : policyClosed row s =
    if s.power.vote = .pending then s.setPower { s.power with sleepDelay := some d } else s := by
  simp only [policyClosed, h]

end

/-- Settles O49: each of the five events by the vote and its reason. -/
theorem sleepVoteMoves : Obligations.SleepVoteMoves := by
  intro before after s u awake withdrawn now
  have hawake (row : PolicyRow) (p : Power) : p.awake row = awake row p := rfl
  have henter (row : PolicyRow) (v : State) : enterAwake row v = v.setPower (awake row v.power) :=
    congrArg v.setPower (hawake row v.power)
  have hwithdraw (row : PolicyRow) (v : State) : withdraw row v = withdrawn row v := by
    rw [withdraw_eq, hawake]
  refine ⟨fun hvote hdue => ?delay, fun hvote hdue => ?idle, fun f h => ?activity, fun old new row h => ?posture,
    fun current row h => ?policy⟩
  case delay => exact congrArg Host.Outcome.next (if_pos ⟨hvote, Timer.due_iff.2 hdue⟩)
  case idle => exact congrArg Host.Outcome.next (if_pos ⟨hvote, Timer.due_iff.2 hdue⟩)
  case activity =>
    intro t
    have hexec : exec (.activityEvent f) s = .next (activity u) := congrArg _ (takingOne_of_front h _)
    rw [hexec, ← henter, ← hwithdraw]
    exact ⟨fun hvote => congrArg _ (activity_of_awake (s := u) hvote),
      fun hvote hidle => congrArg _ (activity_of_pending (s := u) hvote hidle),
      fun hvote hidle => congrArg _ (activity_of_requested (s := u) hvote hidle),
      fun hvote hidle => congrArg _ (activity_of_not_idle (s := u) hvote hidle),
      fun hvote => congrArg _ (activity_of_sleeping (s := u) hvote)⟩
  case posture =>
    intro t
    have hexec : exec .powerPostureChange s = .next (powerPostureChanged new row u) :=
      congrArg Host.Outcome.next (taking_of_front (sel := powerChangeOf) h rfl _)
    rw [hexec, ← henter, ← hwithdraw]
    exact ⟨fun hvote => congrArg _ (powerPostureChanged_of_entering (s := u) hvote),
      fun hvote => congrArg _ (powerPostureChanged_of_requested (s := u) hvote),
      fun hvote => congrArg _ (powerPostureChanged_of_sleeping (s := u) hvote)⟩
  case policy =>
    intro ended
    have hexec : exec .powerPolicyEvent s = .next (powerPolicyChanged row u) :=
      congrArg Host.Outcome.next (taking_of_front (sel := powerRowOf) h rfl _)
    have hended : endReason row u = ended := by
      simp only [endReason, hwithdraw, henter]
      rfl
    rw [hexec]
    refine ⟨fun hvote => congrArg _ ((powerPolicyChanged_of_awake (s := u) hvote).trans (henter row u)),
      fun hvote => congrArg _ (powerPolicyChanged_of_sleeping (s := u) hvote),
      fun hvote => ⟨fun hidle hnone => ?_, fun hidle hsome => ?_, fun hclosed hnone => ?_⟩,
      fun d hclosed hdelay => ⟨fun hvote => ?_, fun hvote => ?_⟩⟩
    · rw [powerPolicyChanged_of_idle (s := u) hvote hidle, if_pos hnone, hended]
    · rw [powerPolicyChanged_of_idle (s := u) hvote hidle, if_neg hsome]
    · rw [powerPolicyChanged_of_closed (s := u) hvote hclosed, policyClosed_of_none hnone, hended]
    · rw [powerPolicyChanged_of_closed (s := u) (.inl hvote) hclosed, policyClosed_of_delay hdelay]
      exact congrArg _ (if_pos hvote)
    · rw [powerPolicyChanged_of_closed (s := u) (.inr hvote) hclosed, policyClosed_of_delay hdelay]
      have hother : u.power.vote ≠ .pending := fun hpending => nomatch hvote.symm.trans hpending
      exact congrArg _ (if_neg hother)

end Sys2Proof.Machine
end

section
/-! PROOFS. The two filters' transitions and the Key Filter's binding: a closing with a synthetic frame placed or left
pending, an opening, and the gate of a new class (R99, R103, R105, R107, R108). -/

namespace Sys2Proof.Machine

section
variable {s : State} {q : HostQueue} {frame : List Byte} {c : Chan} {g : GateClass}

/-! ### Placements of synthetic frames -/

/-- A synthetic frame is placed without regard to the Key Filter. -/
theorem placeSynthetic_setKey (k : KeyFilter) : placeSynthetic q frame (setKey k s)
    = ((placeSynthetic q frame s).1, setKey k (placeSynthetic q frame s).2) := by
  simp only [placeSynthetic, setKey_frame]
  split <;> rfl

/-- A synthetic frame is placed without regard to the Pad Filter. -/
theorem placeSynthetic_setPad (p : PadFilter) : placeSynthetic q frame (setPad p s)
    = ((placeSynthetic q frame s).1, setPad p (placeSynthetic q frame s).2) := by
  simp only [placeSynthetic, setPad_frame]
  split <;> rfl

theorem setPad_setPad (p p' : PadFilter) (s : State) : setPad p (setPad p' s) = setPad p s := rfl

/-! ### The Key Filter -/

/-- A release that is placed is counted, and does the work of a pending one (R103). -/
theorem makeRelease_of_placed (h : (placeSynthetic q (releaseFrame c) s).1 = true) :
    makeRelease c q s = setKey { s.gate.key with
      lastForwarded := []
      pending := none
      counters := { s.gate.key.counters with releases := satInc s.gate.key.counters.releases } }
        (placeSynthetic q (releaseFrame c) s).2 := by
  have hgate : (placeSynthetic q (releaseFrame c) s).2.gate = s.gate := by simp
  simp only [makeRelease]
  split
  next t heq => rw [heq] at hgate ⊢; simp only [← hgate]
  next t heq => rw [heq] at h; cases h

/-- A release that finds no place is left pending (R103). -/
theorem makeRelease_of_failed (h : (placeSynthetic q (releaseFrame c) s).1 = false) :
    makeRelease c q s = setKey { s.gate.key with
      lastForwarded := []
      pending := some { channel := c, queue := q }
      counters := { s.gate.key.counters with releaseFailures := satInc s.gate.key.counters.releaseFailures } } s := by
  simp only [makeRelease, placeSynthetic_of_failed h]

theorem releaseIfForwarded_of_untold (h : s.gate.key.bound = none ∨ s.gate.key.lastForwarded = []) :
    releaseIfForwarded s = s := by
  simp only [releaseIfForwarded]
  split
  · rfl
  · next b hb => exact if_pos (h.resolve_left fun hnone => nomatch hb.symm.trans hnone)

theorem releaseIfForwarded_of_told (hb : s.gate.key.bound = some c) (hlast : s.gate.key.lastForwarded ≠ []) :
    releaseIfForwarded s = makeRelease c s.gate.key.queue s := by
  simp only [releaseIfForwarded, hb]
  exact if_neg hlast

theorem keyToGate_of_eq {v : Bool} (h : s.gate.key.gateOpen = v) : keyToGate v s = s := if_pos h

theorem keyToGate_of_closed (h : s.gate.key.gateOpen = false) : keyToGate true s = keyOpen s := by
  simp [keyToGate, h]

theorem keyToGate_of_open (h : s.gate.key.gateOpen = true) : keyToGate false s = keyClose s := by
  simp [keyToGate, h]

/-! ### The binding of the Key Filter -/

theorem keyBind_of_unbound (h : s.gate.key.bound = none) : keyBind c g q s = some (setKey { s.gate.key with
    bound := some c, cls := g, queue := q, gateOpen := gateOf s.gate.gates g } s) := by
  simp only [keyBind, h]

theorem keyBind_of_same_class (h : s.gate.key.bound = some c) (hg : g = s.gate.key.cls) :
    keyBind c g q s = some (setKey { s.gate.key with queue := q } s) := by
  simp only [keyBind, h, if_true, if_pos hg]

theorem keyBind_of_other_class (h : s.gate.key.bound = some c) (hg : g ≠ s.gate.key.cls) : keyBind c g q s =
    some (keyToGate (gateOf s.gate.gates g) (setKey { s.gate.key with queue := q, cls := g } s)) := by
  simp only [keyBind, h, if_true, if_neg hg]

theorem keyBind_of_foreign {b : Chan} (h : s.gate.key.bound = some b) (hc : b ≠ c) : keyBind c g q s = none := by
  simp only [keyBind, h, if_neg hc]

/-! ### The Pad Filter -/

theorem liftIfContacts_of_no_contacts (h : s.gate.pad.hadContacts = false) : liftIfContacts s = s := by
  simp [liftIfContacts, h]

/-- A lift that is placed is counted, and does the work of a pending one (R108). -/
theorem liftIfContacts_of_placed (hc : s.gate.pad.hadContacts = true)
    (h : (placeSynthetic s.gate.pad.queue (liftFrame s.gate.pad.channel) s).1 = true) :
    liftIfContacts s = setPad { s.gate.pad with
      hadContacts := false
      pending := none
      counters := { s.gate.pad.counters with lifts := satInc s.gate.pad.counters.lifts } }
        (placeSynthetic s.gate.pad.queue (liftFrame s.gate.pad.channel) s).2 := by
  simp only [liftIfContacts, hc, if_true]
  split
  next t heq => rw [heq]
  next t heq => rw [heq] at h; cases h

/-- A lift that finds no place is left pending (R108). -/
theorem liftIfContacts_of_failed (hc : s.gate.pad.hadContacts = true)
    (h : (placeSynthetic s.gate.pad.queue (liftFrame s.gate.pad.channel) s).1 = false) :
    liftIfContacts s = setPad { s.gate.pad with
      hadContacts := false
      pending := some { channel := s.gate.pad.channel, queue := s.gate.pad.queue }
      counters := { s.gate.pad.counters with liftFailures := satInc s.gate.pad.counters.liftFailures } } s := by
  simp only [liftIfContacts, hc, if_true, placeSynthetic_of_failed h]

theorem padToGate_of_eq {v : Bool} (h : s.gate.pad.gateOpen = v) : padToGate v s = s := if_pos h

theorem padToGate_of_closed (h : s.gate.pad.gateOpen = false) : padToGate true s = padOpen s := by
  simp [padToGate, h]

theorem padToGate_of_open (h : s.gate.pad.gateOpen = true) : padToGate false s = padClose s := by
  simp [padToGate, h]

/-- A frame of the class followed moves no gate (R107). -/
theorem padFollow_of_same_class (h : g = s.gate.pad.cls) :
    padFollow c g q s = setPad { s.gate.pad with channel := c, queue := q, cls := g } s := by
  subst h
  exact if_pos rfl

theorem padFollow_of_other_class (h : g ≠ s.gate.pad.cls) : padFollow c g q s =
    padToGate (gateOf s.gate.gates g) (setPad { s.gate.pad with channel := c, queue := q, cls := g } s) :=
  if_neg h

end

/-- Settles O36: the binding by what is bound and by the class, the closing by whether the host was told of keys and
whether the release finds a place. -/
theorem keyBindingAndTransitions : Obligations.KeyBindingAndTransitions := by
  intro c cls q s k
  refine ⟨keyBind_of_unbound, keyBind_of_same_class, fun hb hcls => ?other, rfl,
    releaseIfForwarded_of_untold (s := setKey { k with gateOpen := false, masked := k.held } s),
    fun b hb hlast => ?told⟩
  case other =>
    intro v
    rw [keyBind_of_other_class hb hcls]
    refine ⟨fun heq => congrArg some (keyToGate_of_eq heq.symm), fun hnew hold => ?_, fun hnew hold => ?_⟩
    · rw [show gateOf s.gate.gates cls = true from hnew]
      exact congrArg some (keyToGate_of_closed hold)
    · rw [show gateOf s.gate.gates cls = false from hnew]
      exact congrArg some (keyToGate_of_open hold)
  case told =>
    intro closed r
    have hclose : keyClose s
        = makeRelease b k.queue (setKey { k with gateOpen := false, masked := k.held } s) :=
      releaseIfForwarded_of_told (s := setKey { k with gateOpen := false, masked := k.held } s) hb hlast
    have hplace := placeSynthetic_setKey (q := k.queue) (frame := releaseFrame b) (s := s)
      { k with gateOpen := false, masked := k.held }
    rw [hclose]
    refine ⟨fun hr => ?_, fun hr => ?_⟩
    · rw [makeRelease_of_placed (by rw [hplace]; exact hr), hplace]
      rfl
    · rw [makeRelease_of_failed (by rw [hplace]; exact hr)]
      rfl

end Sys2Proof.Machine
end

section
/-! PROOFS. Touch reports at the Pad Filter, and the closing of its gate (R107, R108). -/

namespace Sys2Proof.Machine

section
variable {f : Frame} {d : GatedDecision} {q : HostQueue} {s : State}

/-! ### Forwarding -/

/-- A touch report that is placed tells the host of its contacts, and does the work of a pending lift (R107). -/
theorem padForward_of_placed (h : (placeReceived q.id f.raw s).1 = true) : padForward f q s =
    (true, postAll (if 0 < contactCount f.payload then [.activity .pad, .wakeSource .point] else [])
      (setPad { s.gate.pad with
        hadContacts := decide (0 < contactCount f.payload), awaitLift := false, pending := none
        counters := { s.gate.pad.counters with forwarded := satInc s.gate.pad.counters.forwarded } }
          (placeReceived q.id f.raw s).2)) := by
  simp only [padForward]
  split
  next t heq => simp only [heq, decide_eq_true_eq]
  next t heq => rw [heq] at h; cases h

theorem padForward_of_refused (h : (placeReceived q.id f.raw s).1 = false) : padForward f q s =
    (false, setPad { s.gate.pad with counters :=
      { s.gate.pad.counters with refused := satInc s.gate.pad.counters.refused } }
        (placeReceived q.id f.raw s).2) := by
  simp only [padForward]
  split
  next t heq => rw [heq] at h; cases h
  next t heq => simp only [heq]

/-! ### Reports -/

section
variable {t : State} (ht : padFollow f.channel d.gate d.queue s = t)
include ht

theorem padFilterFrame_of_closed (h : t.gate.pad.gateOpen = false) : padFilterFrame f d s =
    (true, setPad { t.gate.pad with counters :=
      { t.gate.pad.counters with suppressed := satInc t.gate.pad.counters.suppressed } } t) := by
  simp [padFilterFrame, ht, h]

theorem padFilterFrame_of_awaited (h : t.gate.pad.gateOpen = true) (hlift : t.gate.pad.awaitLift = true)
    (hc : 0 < contactCount f.payload) : padFilterFrame f d s =
    (true, setPad { t.gate.pad with counters :=
      { t.gate.pad.counters with awaitLiftDrops := satInc t.gate.pad.counters.awaitLiftDrops } } t) := by
  simp [padFilterFrame, ht, h, hlift, hc]

theorem padFilterFrame_of_open (h : t.gate.pad.gateOpen = true)
    (hlift : t.gate.pad.awaitLift = false ∨ ¬ 0 < contactCount f.payload) :
    padFilterFrame f d s = padForward f d.queue t := by
  have hno : (t.gate.pad.awaitLift && decide (0 < contactCount f.payload)) = false := by
    rcases hlift with hlift | hc
    · rw [hlift, Bool.false_and]
    · rw [decide_eq_false hc, Bool.and_false]
  simp [padFilterFrame, ht, h, hno]

end

/-! ### The closing -/

theorem padClose_of_no_contacts (h : s.gate.pad.hadContacts = false) :
    padClose s = setPad { s.gate.pad with gateOpen := false } s :=
  liftIfContacts_of_no_contacts (s := setPad { s.gate.pad with gateOpen := false } s) h

section
variable (hc : s.gate.pad.hadContacts = true)
include hc

theorem padClose_of_placed (h : (placeSynthetic s.gate.pad.queue (liftFrame s.gate.pad.channel) s).1 = true) :
    padClose s = setPad { s.gate.pad with
      gateOpen := false, hadContacts := false, pending := none
      counters := { s.gate.pad.counters with lifts := satInc s.gate.pad.counters.lifts } }
        (placeSynthetic s.gate.pad.queue (liftFrame s.gate.pad.channel) s).2 := by
  have hplace := placeSynthetic_setPad (q := s.gate.pad.queue) (frame := liftFrame s.gate.pad.channel) (s := s)
    { s.gate.pad with gateOpen := false }
  refine (liftIfContacts_of_placed (s := setPad { s.gate.pad with gateOpen := false } s) hc
    ((congrArg Prod.fst hplace).trans h)).trans ?_
  simp only [setPad_frame, hplace, setPad_setPad]

theorem padClose_of_failed (h : (placeSynthetic s.gate.pad.queue (liftFrame s.gate.pad.channel) s).1 = false) :
    padClose s = setPad { s.gate.pad with
      gateOpen := false, hadContacts := false
      pending := some { channel := s.gate.pad.channel, queue := s.gate.pad.queue }
      counters := { s.gate.pad.counters with liftFailures := satInc s.gate.pad.counters.liftFailures } } s := by
  have hplace := placeSynthetic_setPad (q := s.gate.pad.queue) (frame := liftFrame s.gate.pad.channel) (s := s)
    { s.gate.pad with gateOpen := false }
  exact liftIfContacts_of_failed (s := setPad { s.gate.pad with gateOpen := false } s) hc
    ((congrArg Prod.fst hplace).trans h)

end

end

/-- Settles O37: a report by the gate, the lift awaited and the placement; the gate of a new class; the closing by
whether the host was told of contacts and whether the lift finds a place. -/
theorem padReportsAndTransitions : Obligations.PadReportsAndTransitions := by
  intro f d s cls q t p touches r
  refine ⟨padFilterFrame_of_closed rfl, padFilterFrame_of_awaited rfl, fun hopen hlift hr => ?placed,
    fun hopen hlift hr => ?refused, ⟨fun h => ?same, fun hcls hnew hold => ?opened, fun hcls hnew hold => ?closed⟩,
    padClose_of_no_contacts, fun hc => ⟨padClose_of_placed hc, padClose_of_failed hc⟩⟩
  case placed => exact (padFilterFrame_of_open rfl hopen hlift).trans (padForward_of_placed hr)
  case refused => exact (padFilterFrame_of_open rfl hopen hlift).trans (padForward_of_refused hr)
  case same =>
    by_cases hcls : cls = s.gate.pad.cls
    · exact padFollow_of_same_class hcls
    · exact (padFollow_of_other_class hcls).trans (padToGate_of_eq (h.resolve_left hcls).symm)
  case opened =>
    have hgate : gateOf s.gate.gates cls = true := hnew
    exact (padFollow_of_other_class hcls).trans ((congrArg (padToGate · _) hgate).trans (padToGate_of_closed hold))
  case closed =>
    have hgate : gateOf s.gate.gates cls = false := hnew
    exact (padFollow_of_other_class hcls).trans ((congrArg (padToGate · _) hgate).trans (padToGate_of_open hold))

end Sys2Proof.Machine
end

section
/-! PROOFS. Key reports at the Key Filter: the cleaning, and a report foreign, suppressed, unchanged, forwarded or
refused (R99 to R102). -/

namespace Sys2Proof.Machine

section
variable {f : Frame} {d : GatedDecision} {q : HostQueue} {s t : State}

/-! ### The cleaning -/

theorem hasRepeat_iff {report : List Byte} : hasRepeat report = true ↔
    ¬ (firstPlaces (nonzeroCodes report)).length = (nonzeroCodes report).length := by
  simp [hasRepeat]

theorem hasOverflow_iff {report : List Byte} : hasOverflow report = true ↔
    ¬ (firstPlaces (nonzeroCodes report)).length ≤ Config.heldCapacity := by
  simp [hasOverflow]

/-- The Key Filter after the cleaning, its two counters told by the lengths of the lists (R100). -/
theorem KeyFilter.takeReport_eq (k : KeyFilter) (report : List Byte) : k.takeReport report = { k with
    held := updateHeld k.held (cleanReport report)
    masked := k.masked.filter (fun c => c ∈ updateHeld k.held (cleanReport report))
    counters := { k.counters with
      fixups := if (firstPlaces (nonzeroCodes report)).length = (nonzeroCodes report).length
        then k.counters.fixups else satInc k.counters.fixups
      overflow := if (firstPlaces (nonzeroCodes report)).length ≤ Config.heldCapacity
        then k.counters.overflow else satInc k.counters.overflow } } := by
  simp only [takeReport, hasRepeat_iff, hasOverflow_iff, ite_not]

/-! ### Reports -/

theorem keyFilterFrame_of_foreign {b : Chan} (h : s.gate.key.bound = some b) (hc : b ≠ f.channel) :
    keyFilterFrame f d s = (true, setKey { s.gate.key with counters :=
      { s.gate.key.counters with foreign := satInc s.gate.key.counters.foreign } } s) := by
  simp only [keyFilterFrame, keyBind_of_foreign h hc]

/-- With the gate closed every held key is masked (R101). -/
theorem keyFilterFrame_of_closed {k : KeyFilter} (hb : keyBind f.channel d.gate d.queue s = some t)
    (hk : t.gate.key.takeReport f.payload = k) (h : k.gateOpen = false) :
    keyFilterFrame f d s = (true, setKey { k with
      masked := k.held, counters := { k.counters with suppressed := satInc k.counters.suppressed } } t) := by
  simp [keyFilterFrame, hb, hk, h]

theorem keyFilterFrame_of_open {k : KeyFilter} (hb : keyBind f.channel d.gate d.queue s = some t)
    (hk : t.gate.key.takeReport f.payload = k) (h : k.gateOpen = true) :
    keyFilterFrame f d s = keyForward f d.queue (setKey k t) := by
  simp [keyFilterFrame, hb, hk, h]

/-! ### Forwarding -/

theorem postAll_append (ds es : List Delivery) (s : State) :
    postAll (ds ++ es) s = s.setDeliveries (s.deliveries ++ ds ++ es) := by
  rw [postAll, List.append_assoc]

section
variable {k : KeyFilter}

theorem keyForward_of_unchanged (h : k.visible = k.lastForwarded) : keyForward f q (setKey k t) =
    (true, setKey { k with counters := { k.counters with unchanged := satInc k.counters.unchanged } } t) :=
  if_pos h

/-- Keys that are placed become the last ones forwarded; those newly shown wake the host (R102, R158, R165). -/
theorem keyForward_of_placed (h : k.visible ≠ k.lastForwarded)
    (hr : (placeReceived q.id (buildFrame f.kind f.channel f.dest f.toggle k.visible) (setKey k t)).1 = true) :
    keyForward f q (setKey k t) =
      (true, postAll ((if k.visible = [] then [] else [.activity .key])
          ++ (if ∃ c ∈ k.visible, c ∉ k.lastForwarded then [.wakeSource .key] else []))
        (setKey { k with
          lastForwarded := k.visible
          pending := none
          counters := { k.counters with forwarded := satInc k.counters.forwarded } }
            (placeReceived q.id (buildFrame f.kind f.channel f.dest f.toggle k.visible) (setKey k t)).2)) := by
  simp only [keyForward, setKey_frame, if_neg h]
  split
  next u heq => simp only [heq, List.any_eq_true, decide_eq_true_eq]
  next u heq => rw [heq] at hr; cases hr

theorem keyForward_of_refused (h : k.visible ≠ k.lastForwarded)
    (hr : (placeReceived q.id (buildFrame f.kind f.channel f.dest f.toggle k.visible) (setKey k t)).1 = false) :
    keyForward f q (setKey k t) =
      (false, setKey { k with counters := { k.counters with refused := satInc k.counters.refused } }
        (placeReceived q.id (buildFrame f.kind f.channel f.dest f.toggle k.visible) (setKey k t)).2) := by
  simp only [keyForward, setKey_frame, if_neg h]
  split
  next u heq => rw [heq] at hr; cases hr
  next u heq => simp only [heq]

end

end

/-- Settles O35: a report by its channel, by the gate after its binding, and by the keys it shows and their placement. -/
theorem keyReports : Obligations.KeyReports := by
  intro f d s t k codes distinct cleaned held masked counted shown taken last r
  refine ⟨fun ⟨b, hb, hne⟩ => keyFilterFrame_of_foreign hb hne, fun hbind => ?bound⟩
  have htaken : t.gate.key.takeReport f.payload = taken := t.gate.key.takeReport_eq f.payload
  refine ⟨keyFilterFrame_of_closed hbind htaken, fun hopen hsame => ?unchanged, fun hopen hne hr => ?placed,
    fun hopen hne hr => ?refused⟩
  case unchanged => exact (keyFilterFrame_of_open hbind htaken hopen).trans (keyForward_of_unchanged hsame)
  case placed =>
    exact ((keyFilterFrame_of_open hbind htaken hopen).trans (keyForward_of_placed hne hr)).trans
      (congrArg (Prod.mk true) (postAll_append _ _ _))
  case refused => exact (keyFilterFrame_of_open hbind htaken hopen).trans (keyForward_of_refused hne hr)

end Sys2Proof.Machine
end

section
/-! PROOFS. What the law of the Input Gate asks of each filter, and what the cleaning of a report makes of the key sets
(R98, R100, R107). -/

namespace Sys2Proof.Machine

/-! ### The law of each filter -/

/-- What the law asks of the Key Filter by itself: its key sets, and a pending release only where the host was told of
nothing since (R98, R104). -/
structure KeyFilter.Settled (k : KeyFilter) : Prop where
  nodup : k.held.Nodup
  atMost : k.held.length ≤ Config.heldCapacity
  nonzero : (0 : Byte) ∉ k.held
  masked : ∀ c ∈ k.masked, c ∈ k.held
  untold : k.pending.isSome = true → k.lastForwarded = []

/-- What the law asks of the Key Filter under these gates: settled, and the gate of the class it is bound to (R99). -/
structure KeyFilter.Lawful (gates : BitVec 8) (k : KeyFilter) : Prop where
  settled : k.Settled
  follows : k.bound.isSome = true → k.gateOpen = gateOf gates k.cls

/-- What the law asks of the Pad Filter by itself: a pending lift only where the host was told of no contacts since
(R108). -/
def PadFilter.Settled (p : PadFilter) : Prop := p.pending.isSome = true → p.hadContacts = false

/-- What the law asks of the Pad Filter under these gates: settled, and the gate of its class (R107). -/
structure PadFilter.Lawful (gates : BitVec 8) (p : PadFilter) : Prop where
  settled : p.Settled
  follows : p.gateOpen = gateOf gates p.cls

theorem gateLaw_iff {s : State} :
    GateLaw s ↔ s.gate.key.Lawful s.gate.gates ∧ s.gate.pad.Lawful s.gate.gates := by
  constructor
  · rintro ⟨hnodup, hatMost, hnonzero, hmasked, huntold, hpad, hkeyGate, hpadGate⟩
    exact ⟨⟨⟨hnodup, hatMost, hnonzero, hmasked, huntold⟩, hkeyGate⟩, hpad, hpadGate⟩
  · rintro ⟨⟨⟨hnodup, hatMost, hnonzero, hmasked, huntold⟩, hkeyGate⟩, hpad, hpadGate⟩
    exact ⟨hnodup, hatMost, hnonzero, hmasked, huntold, hpad, hkeyGate, hpadGate⟩

/-- A Key Filter whose key sets and promises to the host stand as they were is as settled. -/
theorem KeyFilter.Settled.of_sets {k k' : KeyFilter} (h : k.Settled) (hheld : k'.held = k.held)
    (hmasked : k'.masked = k.masked) (huntold : k'.pending.isSome = true → k'.lastForwarded = []) : k'.Settled where
  nodup := hheld ▸ h.nodup
  atMost := hheld ▸ h.atMost
  nonzero := hheld ▸ h.nonzero
  masked := by rw [hheld, hmasked]; exact h.masked
  untold := huntold

/-- A Key Filter that masks every held key is as settled as before. -/
theorem KeyFilter.Settled.maskHeld {k : KeyFilter} (h : k.Settled) : { k with masked := k.held }.Settled :=
  { h with masked := fun _ => id }

/-- The law does not read the counters. -/
theorem KeyFilter.Lawful.counted {gates : BitVec 8} {k : KeyFilter} (h : k.Lawful gates) (n : KeyCounters) :
    { k with counters := n }.Lawful gates :=
  ⟨h.settled.of_sets rfl rfl h.settled.untold, h.follows⟩

theorem PadFilter.Lawful.counted {gates : BitVec 8} {p : PadFilter} (h : p.Lawful gates) (n : PadCounters) :
    { p with counters := n }.Lawful gates :=
  ⟨h.settled, h.follows⟩

/-! ### The cleaning of a report -/

theorem mem_firstPlaces {c : Byte} {l : List Byte} : c ∈ firstPlaces l ↔ c ∈ l := by
  induction l with
  | nil => simp [firstPlaces]
  | cons d ds ih => by_cases h : c = d <;> simp [firstPlaces, ih, h]

theorem nodup_firstPlaces (l : List Byte) : (firstPlaces l).Nodup := by
  induction l with
  | nil => exact List.nodup_nil
  | cons d ds ih => exact List.nodup_cons.2 ⟨by simp, ih.filter _⟩

/-- A cleaned report lists at most 14 codes (R100, step 3). -/
theorem length_cleanReport_le (report : List Byte) : (cleanReport report).length ≤ Config.heldCapacity :=
  List.length_take_le _ _

/-- A cleaned report lists no code twice (R100, step 2). -/
theorem nodup_cleanReport (report : List Byte) : (cleanReport report).Nodup :=
  (nodup_firstPlaces _).sublist (List.take_sublist _ _)

/-- A cleaned report does not list the code 0 (R100, step 1). -/
theorem zero_notMem_cleanReport (report : List Byte) : (0 : Byte) ∉ cleanReport report := by
  intro h
  have hmem : (0 : Byte) ∈ nonzeroCodes report := mem_firstPlaces.1 (List.mem_of_mem_take h)
  simp [nonzeroCodes] at hmem

/-- Held has the members of the cleaned report (R100). -/
theorem mem_updateHeld {c : Byte} {held cleaned : List Byte} : c ∈ updateHeld held cleaned ↔ c ∈ cleaned := by
  by_cases h : c ∈ held <;> simp [updateHeld, h]

theorem nodup_updateHeld {held cleaned : List Byte} (hheld : held.Nodup) (hcleaned : cleaned.Nodup) :
    (updateHeld held cleaned).Nodup := by
  refine (hheld.filter _).append (hcleaned.filter _) fun c hold hnew => ?_
  have hin := (List.mem_filter.1 hold).1
  have hout := (List.mem_filter.1 hnew).2
  exact (of_decide_eq_true hout) hin

/-- The cleaning of a report leaves the Key Filter settled: Held becomes a list of the cleaned report's codes, each once,
and Masked loses what has left it (R100). -/
theorem KeyFilter.Settled.takeReport {k : KeyFilter} (h : k.Settled) (report : List Byte) :
    (k.takeReport report).Settled := by
  have hnodup := nodup_updateHeld h.nodup (nodup_cleanReport report)
  exact {
    nodup := hnodup
    atMost := (hnodup.length_le_of_subset fun _ => mem_updateHeld.1).trans (length_cleanReport_le report)
    nonzero := fun hzero => zero_notMem_cleanReport report (mem_updateHeld.1 hzero)
    masked := fun _ hc => of_decide_eq_true (List.mem_filter.1 hc).2
    untold := h.untold }

end Sys2Proof.Machine
end

section
/-! PROOFS. The operations of the two filters keep the law of the Input Gate: the transitions set the gate they are run
for, a release or a lift leaves nothing told, and neither filter touches the other or the gates (R97 to R109). -/

namespace Sys2Proof.Machine

/-! ### Synthetic frames -/

/-- A release changes nothing of the Input Gate but what the host was last told, what is pending and the counters
(R103). -/
@[simp] theorem releaseIfForwarded_gate (s : State) :
    (releaseIfForwarded s).gate.gates = s.gate.gates ∧ (releaseIfForwarded s).gate.pad = s.gate.pad
      ∧ (releaseIfForwarded s).gate.key.held = s.gate.key.held
      ∧ (releaseIfForwarded s).gate.key.masked = s.gate.key.masked
      ∧ (releaseIfForwarded s).gate.key.bound = s.gate.key.bound
      ∧ (releaseIfForwarded s).gate.key.cls = s.gate.key.cls
      ∧ (releaseIfForwarded s).gate.key.gateOpen = s.gate.key.gateOpen := by
  by_cases h : s.gate.key.bound = none ∨ s.gate.key.lastForwarded = []
  · simp [releaseIfForwarded_of_untold h]
  · obtain ⟨hbound, hlast⟩ := not_or.1 h
    obtain ⟨c, hc⟩ := Option.ne_none_iff_exists'.1 hbound
    rw [releaseIfForwarded_of_told hc hlast]
    cases hp : (placeSynthetic s.gate.key.queue (releaseFrame c) s).1
    · simp [makeRelease_of_failed hp]
    · simp [makeRelease_of_placed hp]

/-- After a release nothing is left told, whatever its placement (R103). -/
theorem KeyFilter.Settled.releaseIfForwarded {s : State} (h : s.gate.key.Settled) :
    (releaseIfForwarded s).gate.key.Settled := by
  refine h.of_sets (by simp) (by simp) ?_
  by_cases hno : s.gate.key.bound = none ∨ s.gate.key.lastForwarded = []
  · simpa [releaseIfForwarded_of_untold hno] using h.untold
  · obtain ⟨hbound, hlast⟩ := not_or.1 hno
    obtain ⟨c, hc⟩ := Option.ne_none_iff_exists'.1 hbound
    rw [releaseIfForwarded_of_told hc hlast]
    cases hp : (placeSynthetic s.gate.key.queue (releaseFrame c) s).1
    · simp [makeRelease_of_failed hp]
    · simp [makeRelease_of_placed hp]

/-- A lift changes nothing of the Input Gate but what the host was last told, what is pending and the counters
(R108). -/
@[simp] theorem liftIfContacts_gate (s : State) :
    (liftIfContacts s).gate.gates = s.gate.gates ∧ (liftIfContacts s).gate.key = s.gate.key
      ∧ (liftIfContacts s).gate.pad.cls = s.gate.pad.cls
      ∧ (liftIfContacts s).gate.pad.gateOpen = s.gate.pad.gateOpen
      ∧ (liftIfContacts s).gate.pad.hadContacts = false := by
  cases hc : s.gate.pad.hadContacts
  · simp [liftIfContacts_of_no_contacts hc, hc]
  · cases hp : (placeSynthetic s.gate.pad.queue (liftFrame s.gate.pad.channel) s).1
    · simp [liftIfContacts_of_failed hc hp]
    · simp [liftIfContacts_of_placed hc hp]

/-! ### Transitions -/

@[simp] theorem keyToGate_gate (v : Bool) (s : State) :
    (keyToGate v s).gate.gates = s.gate.gates ∧ (keyToGate v s).gate.pad = s.gate.pad
      ∧ (keyToGate v s).gate.key.bound = s.gate.key.bound ∧ (keyToGate v s).gate.key.cls = s.gate.key.cls
      ∧ (keyToGate v s).gate.key.gateOpen = v := by
  simp only [keyToGate]
  split
  · next h => exact ⟨rfl, rfl, rfl, rfl, h⟩
  · split
    · next h => exact ⟨rfl, rfl, rfl, rfl, h.symm⟩
    · next h => simp [keyClose, h]

/-- Each transition of the Key Filter leaves it settled (R103, R105). -/
theorem KeyFilter.Settled.keyToGate {s : State} (h : s.gate.key.Settled) (v : Bool) :
    (keyToGate v s).gate.key.Settled := by
  have hmask : { s.gate.key with gateOpen := v, masked := s.gate.key.held }.Settled := h.maskHeld.of_sets rfl rfl h.untold
  simp only [Machine.keyToGate]
  split
  · exact h
  · split
    · next hv =>
      subst hv
      exact hmask
    · next hv =>
      obtain rfl := Bool.eq_false_of_not_eq_true hv
      exact KeyFilter.Settled.releaseIfForwarded (s := setKey _ s) hmask

@[simp] theorem padToGate_gate (v : Bool) (s : State) :
    (padToGate v s).gate.gates = s.gate.gates ∧ (padToGate v s).gate.key = s.gate.key
      ∧ (padToGate v s).gate.pad.cls = s.gate.pad.cls ∧ (padToGate v s).gate.pad.gateOpen = v := by
  simp only [padToGate]
  split
  · next h => exact ⟨rfl, rfl, rfl, h⟩
  · split
    · next h => exact ⟨rfl, rfl, rfl, h.symm⟩
    · next h => simp [padClose, h]

/-- Each transition of the Pad Filter leaves it settled (R108). -/
theorem PadFilter.Settled.padToGate {s : State} (h : s.gate.pad.Settled) (v : Bool) :
    (padToGate v s).gate.pad.Settled := by
  simp only [Machine.padToGate]
  split
  · exact h
  · split
    · exact h
    · exact fun _ => by simp [padClose]

/-! ### Frames at the Key Filter -/

theorem keyBind_gate {c : Chan} {g : GateClass} {q : HostQueue} {s t : State} (h : keyBind c g q s = some t) :
    t.gate.gates = s.gate.gates ∧ t.gate.pad = s.gate.pad := by
  simp only [keyBind] at h
  (repeat' split at h) <;> cases h <;> simp

/-- A binding leaves the Key Filter with the gate of the class bound (R99). -/
theorem KeyFilter.Lawful.keyBind {c : Chan} {g : GateClass} {q : HostQueue} {s t : State}
    (h : s.gate.key.Lawful s.gate.gates) (hb : keyBind c g q s = some t) : t.gate.key.Lawful s.gate.gates := by
  simp only [Machine.keyBind] at hb
  split at hb
  · cases hb -- unbound
    exact ⟨h.settled.of_sets rfl rfl h.settled.untold, fun _ => rfl⟩
  · split at hb
    · split at hb
      · cases hb -- the class bound before
        exact ⟨h.settled.of_sets rfl rfl h.settled.untold, h.follows⟩
      · cases hb -- another class
        refine ⟨KeyFilter.Settled.keyToGate (s := setKey _ s) ?_ _, fun _ => by simp⟩
        exact h.settled.of_sets rfl rfl h.settled.untold
    · cases hb -- foreign

/-- Forwarding touches neither the gates nor the Pad Filter. -/
theorem keyForward_gate (f : Frame) (q : HostQueue) (k : KeyFilter) (t : State) :
    (keyForward f q (setKey k t)).2.gate.gates = t.gate.gates
      ∧ (keyForward f q (setKey k t)).2.gate.pad = t.gate.pad := by
  by_cases h : k.visible = k.lastForwarded
  · simp [keyForward_of_unchanged h]
  · cases hr : (placeReceived q.id (buildFrame f.kind f.channel f.dest f.toggle k.visible) (setKey k t)).1
    · simp [keyForward_of_refused h hr]
    · simp [keyForward_of_placed h hr, postAll]

/-- Forwarding keeps the key sets; a frame placed for the host cancels the pending release (R102, R104). -/
theorem KeyFilter.Lawful.keyForward {gates : BitVec 8} {k : KeyFilter} (h : k.Lawful gates) (f : Frame)
    (q : HostQueue) (t : State) : (keyForward f q (setKey k t)).2.gate.key.Lawful gates := by
  by_cases hsame : k.visible = k.lastForwarded
  · rw [keyForward_of_unchanged hsame]
    exact h.counted _
  · cases hr : (placeReceived q.id (buildFrame f.kind f.channel f.dest f.toggle k.visible) (setKey k t)).1
    · rw [keyForward_of_refused hsame hr]
      exact h.counted _
    · rw [keyForward_of_placed hsame hr]
      exact ⟨h.settled.of_sets rfl rfl nofun, h.follows⟩

@[simp] theorem keyFilterFrame_gate (f : Frame) (d : GatedDecision) (s : State) :
    (keyFilterFrame f d s).2.gate.gates = s.gate.gates ∧ (keyFilterFrame f d s).2.gate.pad = s.gate.pad := by
  simp only [keyFilterFrame]
  split
  · simp
  · next t hb =>
    obtain ⟨hgates, hpad⟩ := keyBind_gate hb
    split <;> simp [keyForward_gate, hgates, hpad]

/-- A key report keeps the law: it is foreign, or it is cleaned after its binding and then suppressed or forwarded. -/
theorem KeyFilter.Lawful.keyFilterFrame {s : State} (h : s.gate.key.Lawful s.gate.gates) (f : Frame)
    (d : GatedDecision) : (keyFilterFrame f d s).2.gate.key.Lawful s.gate.gates := by
  cases hb : Machine.keyBind f.channel d.gate d.queue s with
  | none =>
    simp only [Machine.keyFilterFrame, hb]
    exact h.counted _
  | some t =>
    have hbound := h.keyBind hb
    have htaken : (t.gate.key.takeReport f.payload).Lawful s.gate.gates :=
      ⟨hbound.settled.takeReport f.payload, hbound.follows⟩
    cases hopen : (t.gate.key.takeReport f.payload).gateOpen
    · rw [keyFilterFrame_of_closed hb rfl hopen]
      exact ⟨htaken.settled.maskHeld.of_sets rfl rfl htaken.settled.untold, htaken.follows⟩
    · rw [keyFilterFrame_of_open hb rfl hopen]
      exact htaken.keyForward f d.queue t

/-! ### Frames at the Pad Filter -/

@[simp] theorem padFollow_gate (c : Chan) (g : GateClass) (q : HostQueue) (s : State) :
    (padFollow c g q s).gate.gates = s.gate.gates ∧ (padFollow c g q s).gate.key = s.gate.key := by
  simp only [padFollow]
  split <;> simp

/-- A frame's class followed, the Pad Filter has the gate of that class (R107). -/
theorem PadFilter.Lawful.padFollow {s : State} (h : s.gate.pad.Lawful s.gate.gates) (c : Chan) (g : GateClass)
    (q : HostQueue) : (padFollow c g q s).gate.pad.Lawful s.gate.gates := by
  simp only [Machine.padFollow]
  split
  · exact ⟨h.settled, h.follows⟩
  · have hnew : { s.gate.pad with channel := c, queue := q, cls := g }.Settled := h.settled
    exact ⟨PadFilter.Settled.padToGate (s := setPad _ s) hnew _, by simp⟩

@[simp] theorem padForward_gate (f : Frame) (q : HostQueue) (s : State) :
    (padForward f q s).2.gate.gates = s.gate.gates ∧ (padForward f q s).2.gate.key = s.gate.key := by
  cases hr : (placeReceived q.id f.raw s).1
  · simp [padForward_of_refused hr]
  · simp [padForward_of_placed hr, postAll]

/-- A frame placed for the host cancels the pending lift (R107, R108). -/
theorem PadFilter.Lawful.padForward {gates : BitVec 8} {s : State} (h : s.gate.pad.Lawful gates) (f : Frame)
    (q : HostQueue) : (padForward f q s).2.gate.pad.Lawful gates := by
  cases hr : (placeReceived q.id f.raw s).1
  · rw [padForward_of_refused hr]
    exact h.counted _
  · rw [padForward_of_placed hr]
    exact ⟨nofun, h.follows⟩

@[simp] theorem padFilterFrame_gate (f : Frame) (d : GatedDecision) (s : State) :
    (padFilterFrame f d s).2.gate.gates = s.gate.gates ∧ (padFilterFrame f d s).2.gate.key = s.gate.key := by
  simp only [padFilterFrame]
  (repeat' split) <;> simp

/-- A touch report keeps the law: its class is followed, and it is then dropped or forwarded. -/
theorem PadFilter.Lawful.padFilterFrame {s : State} (h : s.gate.pad.Lawful s.gate.gates) (f : Frame)
    (d : GatedDecision) : (padFilterFrame f d s).2.gate.pad.Lawful s.gate.gates := by
  have hfollow := h.padFollow f.channel d.gate d.queue
  simp only [Machine.padFilterFrame]
  split
  · split
    · exact hfollow.counted _
    · exact hfollow.padForward f d.queue
  · exact hfollow.counted _

end Sys2Proof.Machine
end

section
/-! PROOFS. The Input Gate's own events keep its law: the retries, the gate update and the teardown, each filter turned
for itself in either order (R97, R104, R106, R108, R109; assumption 7). -/

namespace Sys2Proof.Machine

/-- The law reads nothing but the Input Gate. -/
theorem GateLaw.of_gate {s t : State} (h : GateLaw s) (ht : t.gate = s.gate) : GateLaw t := by
  rw [gateLaw_iff, ht]
  exact gateLaw_iff.1 h

/-- A step of the Key Filter alone keeps the law where it leaves the filter lawful. -/
theorem GateLaw.of_key {s t : State} (h : GateLaw s)
    (hrest : t.gate.gates = s.gate.gates ∧ t.gate.pad = s.gate.pad)
    (hkey : t.gate.key.Lawful s.gate.gates) : GateLaw t := by
  rw [gateLaw_iff, hrest.1, hrest.2]
  exact ⟨hkey, (gateLaw_iff.1 h).2⟩

/-- A step of the Pad Filter alone keeps the law where it leaves the filter lawful. -/
theorem GateLaw.of_pad {s t : State} (h : GateLaw s)
    (hrest : t.gate.gates = s.gate.gates ∧ t.gate.key = s.gate.key)
    (hpad : t.gate.pad.Lawful s.gate.gates) : GateLaw t := by
  rw [gateLaw_iff, hrest.1, hrest.2]
  exact ⟨(gateLaw_iff.1 h).1, hpad⟩

/-! ### Retries -/

theorem GateLaw.retryRelease {s : State} (h : GateLaw s) : GateLaw (retryRelease s) := by
  cases hw : s.gate.key.pending with
  | none => simpa only [Machine.retryRelease, hw] using h
  | some w =>
    cases hp : (placeSynthetic w.queue (releaseFrame w.channel) s).1
    · rw [retryRelease_of_failed hw hp]
      exact h
    · obtain ⟨hkey, -⟩ := gateLaw_iff.1 h
      rw [retryRelease_of_placed hw hp]
      exact h.of_key (by simp) ⟨hkey.settled.of_sets rfl rfl nofun, hkey.follows⟩

theorem GateLaw.retryLift {s : State} (h : GateLaw s) : GateLaw (retryLift s) := by
  cases hw : s.gate.pad.pending with
  | none => simpa only [Machine.retryLift, hw] using h
  | some w =>
    cases hp : (placeSynthetic w.queue (liftFrame w.channel) s).1
    · rw [retryLift_of_failed hw hp]
      exact h
    · obtain ⟨-, hpad⟩ := gateLaw_iff.1 h
      rw [retryLift_of_placed hw hp]
      exact h.of_pad (by simp) ⟨nofun, hpad.follows⟩

theorem GateLaw.tryRelease {s : State} (h : GateLaw s) (o : RetryOccasion) : GateLaw (tryRelease o s) := by
  simp only [Machine.tryRelease]
  split
  · exact h.retryRelease
  · exact h

theorem GateLaw.tryLift {s : State} (h : GateLaw s) (o : RetryOccasion) : GateLaw (tryLift o s) := by
  simp only [Machine.tryLift]
  split
  · exact h.retryLift
  · exact h

/-! ### Events of both filters -/

/-- An event at which each filter acts for itself, and comes out lawful under the gates as they stand, ends within the
law, whichever filter acts first. -/
theorem gateLaw_inOrder {key pad : State → State} {s : State}
    (hkeyRest : ∀ t, (key t).gate.gates = t.gate.gates ∧ (key t).gate.pad = t.gate.pad)
    (hpadRest : ∀ t, (pad t).gate.gates = t.gate.gates ∧ (pad t).gate.key = t.gate.key)
    (hkey : ∀ t, t.gate.key = s.gate.key → (key t).gate.key.Lawful s.gate.gates)
    (hpad : ∀ t, t.gate.pad = s.gate.pad → (pad t).gate.pad.Lawful s.gate.gates) (padFirst : Bool) :
    GateLaw (inOrder padFirst key pad s) := by
  cases padFirst
  · obtain ⟨hgates, hkept⟩ := hkeyRest s
    obtain ⟨hgates', hkept'⟩ := hpadRest (key s)
    refine gateLaw_iff.2 ?_
    rw [show inOrder false key pad s = pad (key s) from rfl, hgates', hkept', hgates]
    exact ⟨hkey s rfl, hpad (key s) hkept⟩
  · obtain ⟨hgates, hkept⟩ := hpadRest s
    obtain ⟨hgates', hkept'⟩ := hkeyRest (pad s)
    refine gateLaw_iff.2 ?_
    rw [show inOrder true key pad s = key (pad s) from rfl, hgates', hkept', hgates]
    exact ⟨hkey (pad s) hkept, hpad s rfl⟩

/-- The Key Filter's turn in a gate update: bound, it comes out with the new gate of its class, moved or not (R97). -/
theorem KeyFilter.Lawful.turned {gates mask : BitVec 8} {t : State} (h : t.gate.key.Lawful gates) :
    (if gateOf gates t.gate.key.followed = gateOf mask t.gate.key.followed then t
      else keyToGate (gateOf mask t.gate.key.followed) t).gate.key.Lawful mask := by
  have hfollowed : t.gate.key.bound.isSome = true → t.gate.key.followed = t.gate.key.cls := fun hb => if_pos hb
  split
  · next hsame => exact ⟨h.settled, fun hb => by rw [h.follows hb, ← hfollowed hb, hsame]⟩
  · refine ⟨h.settled.keyToGate _, fun hb => ?_⟩
    obtain ⟨-, -, hbound, hcls, hopen⟩ := keyToGate_gate (gateOf mask t.gate.key.followed) t
    rw [hopen, hcls, hfollowed (hbound ▸ hb)]

/-- The Pad Filter's turn in a gate update: it comes out with the new gate of its class, moved or not (R97). -/
theorem PadFilter.Lawful.turned {gates mask : BitVec 8} {t : State} (h : t.gate.pad.Lawful gates) :
    (if gateOf gates t.gate.pad.cls = gateOf mask t.gate.pad.cls then t
      else padToGate (gateOf mask t.gate.pad.cls) t).gate.pad.Lawful mask := by
  split
  · next hsame => exact ⟨h.settled, h.follows.trans hsame⟩
  · exact ⟨h.settled.padToGate _, by simp⟩

/-- A gate update keeps the law: each filter turns where the gate it follows has moved (R97). -/
theorem GateLaw.updateGates {s : State} (h : GateLaw s) (mask : BitVec 8) (padFirst : Bool) :
    GateLaw (updateGates mask padFirst s) := by
  obtain ⟨hkey, hpad⟩ := gateLaw_iff.1 h
  rw [updateGates_eq]
  refine gateLaw_inOrder (fun t => ?_) (fun t => ?_) (fun t ht => ?_) (fun t ht => ?_) padFirst
  · split <;> simp
  · split <;> simp
  · have hold : t.gate.key = s.gate.key := ht
    exact hold ▸ KeyFilter.Lawful.turned (hold ▸ hkey)
  · have hold : t.gate.pad = s.gate.pad := ht
    exact hold ▸ PadFilter.Lawful.turned (hold ▸ hpad)

/-- A teardown leaves the Key Filter unbound and with nothing held (R106). -/
theorem keyTeardown_lawful (gates : BitVec 8) (s : State) : (keyTeardown s).gate.key.Lawful gates where
  settled := {
    nodup := List.nodup_nil
    atMost := Nat.zero_le _
    nonzero := List.not_mem_nil
    masked := fun _ => id
    untold := fun _ => rfl }
  follows := nofun

/-- A teardown leaves the Pad Filter with nothing told and the gate it had (R109). -/
theorem PadFilter.Lawful.padTeardown {gates : BitVec 8} {s : State} (h : s.gate.pad.Lawful gates) :
    (padTeardown s).gate.pad.Lawful gates :=
  ⟨fun _ => rfl, by simpa [Machine.padTeardown] using h.follows⟩

theorem GateLaw.gateTeardown {s : State} (h : GateLaw s) (padFirst : Bool) : GateLaw (gateTeardown padFirst s) := by
  obtain ⟨-, hpad⟩ := gateLaw_iff.1 h
  exact gateLaw_inOrder (fun t => by simp [keyTeardown]) (fun t => by simp [padTeardown])
    (fun t _ => keyTeardown_lawful _ t) (fun t ht => PadFilter.Lawful.padTeardown (ht ▸ hpad)) padFirst

/-- A soft reset sets the gates from a mask and both filters to class 0 of it (R97, R98, R107). -/
theorem GateLaw.softResetState (s : State) : GateLaw (softResetState s) :=
  gateLaw_iff.2 ⟨⟨⟨List.nodup_nil, Nat.zero_le _, List.not_mem_nil, fun _ => id, nofun⟩, nofun⟩, ⟨nofun, rfl⟩⟩

end Sys2Proof.Machine
end

section
/-! PROOFS. Every command keeps the law of the Input Gate: gated frames, retries, gate updates, teardowns, resets and a
clearing of counters reach the gate, and nothing else does (R97 to R110). -/

namespace Sys2Proof.Machine

/-! ### What leaves the gate alone -/

/-- A delivery taken keeps the law where what is done with it does. -/
theorem GateLaw.taking {α : Type} {r : Block × Block} {sel : Delivery → Option α} {f : α → State → State} {s : State}
    (h : GateLaw s) (hf : ∀ a t, GateLaw t → GateLaw (f a t)) : GateLaw (taking r sel f s) := by
  rcases taking_cases r sel f s with he | ⟨a, ds, -, he⟩ <;> rw [he]
  · exact h
  · exact hf a _ h

theorem GateLaw.takingOne {d : Delivery} {f : State → State} {s : State} (h : GateLaw s)
    (hf : ∀ t, GateLaw t → GateLaw (f t)) : GateLaw (takingOne d f s) :=
  h.taking fun _ => hf

/-- An event that acts only under a condition leaves the gate alone where its act does. -/
theorem guarded_gate {p : Prop} [Decidable p] {s t : State} (h : t.gate = s.gate) :
    (if p then t else s).gate = s.gate := by
  split
  · exact h
  · rfl

@[simp] theorem hostReady_gate (level : Bool) (s : State) : (hostReady level s).gate = s.gate := by
  simp [hostReady]

theorem takingOne_gate (d : Delivery) {f : State → State} (hf : ∀ t, (f t).gate = t.gate) (s : State) :
    (takingOne d f s).gate = s.gate := by
  rcases taking_cases d.route _ (fun _ : Unit => f) s with he | ⟨a, ds, -, he⟩
  · exact congrArg State.gate he
  · exact (congrArg State.gate he).trans (hf _)

@[simp] theorem presenceAsserted_gate (s : State) : (presenceAsserted s).gate = s.gate := by
  simp only [presenceAsserted]
  split
  · exact takingOne_gate _ (by simp) s
  · simp

@[simp] theorem presenceReleased_gate (s : State) : (presenceReleased s).gate = s.gate := by
  simp only [presenceReleased]; split <;> simp

@[simp] theorem handshakeExpired_gate (s : State) : (handshakeExpired s).gate = s.gate := by
  simp only [handshakeExpired]; (repeat' split) <;> simp

@[simp] theorem hostFrameSent_gate (s : State) : (hostFrameSent s).gate = s.gate := by
  simp only [hostFrameSent]; split <;> simp

@[simp] theorem lookWhereAsked_gate (s : State) : (lookWhereAsked s).gate = s.gate := by
  simp only [lookWhereAsked]; split <;> simp

/-- The transmitters' looks after a step leave the gate alone. -/
theorem GateLaw.sLook {s : State} (h : GateLaw s) : GateLaw (sLook s) := h.of_gate (by simp)

theorem GateLaw.lookAfter {s t : State} (h : GateLaw t) : GateLaw (lookAfter s t) := h.of_gate (by simp)

/-! ### Classification and the ports -/

@[simp] theorem consume_gate (c : Consumer) (port : UpPort) (payload : List Byte) (s : State) :
    (consume c port payload s).gate = s.gate := by
  simp only [consume]
  split
  · cases c <;> simp [Consumer.take]
  · simp

@[simp] theorem forward_gate (q : Option HostQueue) (f : Frame) (s : State) : (forward q f s).2.gate = s.gate := by
  cases q <;> simp [forward]

/-- A forwarded frame reaches the gate only as a key or touch report of a gated entry (R47, R52). -/
theorem GateLaw.forwardDecided {s : State} (h : GateLaw s) (d : Decision) (f : Frame) :
    GateLaw (forwardDecided d f s).2 := by
  have hcounted : GateLaw (countGated s) := h
  obtain ⟨hkey, hpad⟩ := gateLaw_iff.1 hcounted
  simp only [Machine.forwardDecided]
  split
  · exact hcounted.of_key (by simp) (hkey.keyFilterFrame f _)
  · exact hcounted.of_pad (by simp) (hpad.padFilterFrame f _)
  · exact h.of_gate (by simp)

theorem GateLaw.act {s : State} (h : GateLaw s) (d : Decision) (port : UpPort) (f : Frame) :
    GateLaw (act d port f s).2 := by
  simp only [Machine.act]
  split
  · exact h.forwardDecided d f
  all_goals exact h.of_gate (by simp)

theorem GateLaw.classify {s : State} (h : GateLaw s) (port : UpPort) (f : Frame) : GateLaw (classify port f s).2 :=
  GateLaw.act (h.of_gate (by simp)) _ port f

theorem GateLaw.checkDeclared {s : State} (h : GateLaw s) (d : Descriptor) (f : Frame) :
    GateLaw (checkDeclared d f s) := by
  simp only [Machine.checkDeclared]
  split
  · exact h.of_gate (by simp)
  split
  · exact h.of_gate (by simp)
  split
  · exact h.of_gate (by simp)
  · exact (h.classify .b f).of_gate (by simp)

theorem GateLaw.checkAttached {s : State} (h : GateLaw s) (f : Frame) : GateLaw (checkAttached f s) := by
  simp only [Machine.checkAttached]
  split
  · split
    · exact h.of_gate (by simp)
    · split
      · exact h.checkDeclared _ f
      · exact h.of_gate (by simp)
  · exact h.of_gate (by simp)

theorem GateLaw.takeBaseFrame {s : State} (h : GateLaw s) (f : Frame) : GateLaw (takeBaseFrame f s) := by
  simp only [Machine.takeBaseFrame]
  split
  · exact h.of_gate (by simp)
  · exact h.of_gate (by simp)
  · exact GateLaw.checkAttached (h.of_gate (by simp)) f

theorem GateLaw.receiveB {s : State} (h : GateLaw s) (unit : List Byte) : GateLaw (receiveB unit s) := by
  simp only [Machine.receiveB]
  split
  · split
    · exact GateLaw.takeBaseFrame (h.of_gate (by simp)) _
    · exact h.of_gate (by simp)
  · exact h.of_gate (by simp)

theorem GateLaw.receiveL {s : State} (h : GateLaw s) (unit : List Byte) : GateLaw (receiveL unit s) := by
  simp only [Machine.receiveL]
  split
  · split
    · exact GateLaw.classify (h.of_gate (by simp)) .l _
    · exact h.of_gate (by simp)
  · exact h.of_gate (by simp)

theorem GateLaw.receiveP {s : State} (h : GateLaw s) (unit : List Byte) : GateLaw (receiveP unit s) := by
  simp only [Machine.receiveP]
  split
  · split
    · exact GateLaw.classify (h.of_gate (by simp)) .p _
    · exact h.of_gate (by simp)
  · exact h.of_gate (by simp)

/-! ### The management commands -/

/-- Of the counter groups two are the filters' own (R110, R176). -/
theorem GateLaw.clearGroup {s : State} (h : GateLaw s) (g : Fin 11) : GateLaw (clearGroup g s) := by
  obtain ⟨hkey, hpad⟩ := gateLaw_iff.1 h
  simp only [Machine.clearGroup]
  split
  case h_5 => exact h.of_key ⟨rfl, rfl⟩ (hkey.counted _)
  case h_6 => exact h.of_pad ⟨rfl, rfl⟩ (hpad.counted _)
  all_goals exact h.of_gate rfl

theorem GateLaw.cmdReadCounters {s : State} (h : GateLaw s) (args : List Byte) :
    GateLaw (cmdReadCounters args s).state := by
  simp only [Machine.cmdReadCounters]
  split
  case h_2 => exact h
  split
  · exact h
  · next g _ =>
    split
    · exact h
    · simp only [okay_state]
      split
      · exact h.clearGroup g
      · exact h

/-- Every command that a code names, SOFT_RESET aside, keeps the law in its execution: all but READ_COUNTERS leave the
gate alone. -/
theorem GateLaw.commandOf {code : Nat} {run : List Byte → State → Answer} (hc : commandOf code = some run)
    (args : List Byte) {s : State} (h : GateLaw s) : GateLaw (run args s).state := by
  unfold Machine.commandOf at hc
  split at hc <;> cases hc
  case h_37 => exact h.cmdReadCounters args
  all_goals exact h.of_gate (by simp)

/-! ### Answers and the S-port -/

@[simp] theorem complete_gate (code : Byte) (i : BufIdx) (a : Answer) : (complete code i a).gate = a.state.gate := by
  simp [complete]

/-- A command with its response place taken keeps the law where its execution does. -/
theorem GateLaw.respond {code : Byte} {unit : List Byte} {run : State → Answer} {s : State} (h : GateLaw s)
    (hrun : ∀ t, GateLaw t → GateLaw (run t).state) : GateLaw (respond code unit run s) := by
  rcases respond_cases code unit run s with ⟨-, i, p, -, he⟩ | he <;> rw [he]
  · exact (hrun (s.setPool p) h).of_gate (by simp)
  · exact h.of_gate (by simp)

@[simp] theorem placeResetResponse_gate (s : State) : (placeResetResponse s).gate = s.gate := by
  simp only [placeResetResponse]; split <;> simp [okay]

theorem GateLaw.runSoftReset {s : State} (h : GateLaw s) (unit args : List Byte) :
    GateLaw (runSoftReset unit args s) := by
  simp only [Machine.runSoftReset]
  split
  · split
    · exact (GateLaw.softResetState s).of_gate (by simp)
    · exact h.of_gate (by simp)
  · exact h.respond fun _ => id

theorem GateLaw.manage {s : State} (h : GateLaw s) (unit payload : List Byte) : GateLaw (manage unit payload s) := by
  cases payload with
  | nil => exact h.respond fun _ => id
  | cons code args =>
    simp only [Machine.manage]
    split
    · exact h.runSoftReset unit args
    · split
      · next run hrun => exact h.respond fun _ => .commandOf hrun args
      · exact h.respond fun _ => id

@[simp] theorem placeDownstream_gate (f : Frame) (s : State) : (placeDownstream f s).gate = s.gate := by
  have hp := placeReceived_frame .qd f.raw s
  simp only [placeDownstream]
  split <;> simp_all

theorem GateLaw.takeHostFrame {s : State} (h : GateLaw s) (f : Frame) : GateLaw (takeHostFrame f s) := by
  simp only [Machine.takeHostFrame, badDest]
  split
  · split
    · exact GateLaw.manage (h.of_gate (by simp)) _ _
    · exact h.of_gate (by simp)
  · (repeat' split) <;> exact h.of_gate (by simp)

theorem GateLaw.receiveS {s : State} (h : GateLaw s) (unit : List Byte) : GateLaw (receiveS unit s) := by
  simp only [Machine.receiveS]
  split
  · split
    · exact GateLaw.takeHostFrame (h.of_gate (by simp)) _
    · exact h.of_gate (by simp)
  · exact h.of_gate (by simp)

/-- A management command given as a command of its own keeps the law. -/
theorem GateLaw.mgmtEvent {code : Byte} {run : List Byte → State → Answer} {s : State} (h : GateLaw s)
    (hc : Machine.commandOf code.toNat = some run) (channel : Chan) (args : List Byte) :
    GateLaw (mgmtEvent code channel args run s) :=
  (h.respond fun _ => .commandOf hc args).lookAfter

/-! ### Every command -/

/-- Every command keeps the law, taken by the kind of its meaning. -/
theorem GateLaw.exec {s : State} (h : GateLaw s) (c : Instr) : ∃ t, exec c s = .next t ∧ GateLaw t := by
  cases c with
  | powerOnReset => exact ⟨_, rfl, gateLaw_reset⟩
  -- Units at the four ports.
  | bPortUnitCompleted => exact ⟨_, rfl, (h.receiveB _).lookAfter⟩
  | lPortUnitCompleted lidsw =>
    have hlines : GateLaw (s.setLines { s.lines with lidsw := lidsw }) := h
    exact ⟨_, rfl, (hlines.receiveL _).sLook⟩
  | pPortUnitCompleted => exact ⟨_, rfl, (h.receiveP _).lookAfter⟩
  | sPortUnitCompleted => exact ⟨_, rfl, (h.receiveS _).lookAfter⟩
  -- Time, lines and the ends of what the transmitters send.
  | timeCountTick => exact ⟨_, rfl, h.of_gate rfl⟩
  | hostReadyChange | presenceAsserted | presenceReleased | bPortSymbolReceived | handshakeWaitExpiry
  | sPortFrameEnd | bPortSymbolSent | partOriginatedFrameSent | downstreamFrameSent | drivePeriodEnd =>
    exact ⟨_, rfl, h.of_gate (by simp)⟩
  -- Timers.
  | contactDebounceExpiry | identTimeoutExpiry | aliveWindowExpiry | baseFreshnessExpiry | pingExpiry
  | probeWindowExpiry | penSilenceExpiry | topUpExpiry | cooldownExpiry | sleepDelayExpiry | idleTimerExpiry =>
    exact ⟨_, rfl, h.of_gate (guarded_gate (by simp))⟩
  -- Deliveries taken, by the Input Gate first.
  | releaseRetry => exact ⟨_, rfl, h.taking fun o t ht => (ht.tryRelease o).sLook⟩
  | liftRetry => exact ⟨_, rfl, h.taking fun o t ht => (ht.tryLift o).sLook⟩
  | gateUpdate padFirst => exact ⟨_, rfl, h.taking fun m t ht => (ht.updateGates m padFirst).sLook⟩
  | inputGateTeardown padFirst => exact ⟨_, rfl, h.takingOne fun t ht => (ht.gateTeardown padFirst).sLook⟩
  | owedFrameEmission | pendingItemRetry | postureAdmission | postureTeardown | toggleAndHaltReset
  | transmitterTeardown | railTeardown | activityEvent | wakeSourceEvent | eventDelivery =>
    exact ⟨_, rfl, h.takingOne fun t ht => ht.of_gate (by simp [admitPosture, tearPosture, resetToggles])⟩
  | admissionGrant => exact ⟨_, rfl, h.takingOne fun t ht => ht.of_gate (by split <;> simp)⟩
  | capChange | powerPostureChange | powerPolicyEvent =>
    exact ⟨_, rfl, h.taking fun a t ht => ht.of_gate (by simp)⟩
  -- Management commands.
  | softReset => exact ⟨_, rfl, (h.runSoftReset _ _).lookAfter⟩
  | getInfo | writeRoute | invalidateRoute | readRoute | setDefaultRoute | writePosture | invalidatePosture
  | readPostureEntry | writePolicy | writeAxisMap | writeAngleParams | readPostureRecord | setRotationLock
  | writeBaseClass | readBaseRecord | setLinkTiming | channelHalt | channelResume | setBudget | readBudget
  | writeDriveLevel | writeChargeCell | setChargeParams | chargeEnable | readChargeRecord | setHostState
  | writeWakeTable | readSleepRecord | setQueue | flushQueue | readQueues | readEvents | clearEvents
  | setEventEnable | readLog | clearLog | readCounters =>
    exact ⟨_, rfl, h.mgmtEvent rfl _ _⟩

/-- Settles O6, command by command: a transition sets the gate it is run for, the cleaning of a report keeps the key sets
within their bounds, and each filter acts for itself. -/
theorem everyStepKeepsTheGateLaw : Obligations.EveryStepKeepsTheGateLaw := by
  intro s t h hstep
  simp only [step] at hstep
  split at hstep
  · cases hstep
    exact h
  · next c rest _ =>
    obtain ⟨u, hu, hlaw⟩ := GateLaw.exec (s := s.setPending rest) h c
    obtain rfl := Host.Outcome.next.inj (hu.symm.trans hstep)
    exact hlaw

end Sys2Proof.Machine
end

section
/-! PROOFS. PRESENCE asserted and released, and the reading of its level after a reset (R111, R112, R120; assumption
1). -/

namespace Sys2Proof.Machine

section
variable {s : State}

/-! ### Asserted -/

/-- CONTACT entered from another state than IDENTIFY concerns the link alone (R112). -/
theorem enterContact_of_not_identify (h : s.link.state ≠ .identify) : enterContact s = s.setLink
    { s.link.at .contact (some s.link.timing.contactDebounce) none none with
      counters := { s.link.counters with contacts := satInc s.link.counters.contacts } } := by
  rw [enterContact, moveLink_of_not_identify h]
  rfl

theorem presenceUp_of_starting (h : s.link.state = .detached ∨ s.link.state = .rejected) :
    presenceUp s = enterContact s := by
  rcases h with h | h <;> simp only [presenceUp, h]

theorem presenceUp_of_not_starting (h : ¬ (s.link.state = .detached ∨ s.link.state = .rejected)) :
    presenceUp s = s := by
  obtain ⟨hdetached, hrejected⟩ := not_or.1 h
  unfold presenceUp
  cases hx : s.link.state with
  | detached => exact absurd hx hdetached
  | rejected => exact absurd hx hrejected
  | contact | identify | attached | suspect => rfl

/-- PRESENCE asserted moves the link only out of DETACHED and REJECTED (R112). -/
theorem presenceUp_eq (s : State) : presenceUp s = if s.link.state = .detached ∨ s.link.state = .rejected then
    s.setLink { s.link.at .contact (some s.link.timing.contactDebounce) none none with
      counters := { s.link.counters with contacts := satInc s.link.counters.contacts } }
    else s := by
  split
  · next h =>
    have hother : s.link.state ≠ .identify := by rcases h with h | h <;> simp [h]
    rw [presenceUp_of_starting h, enterContact_of_not_identify hother]
  · next h => exact presenceUp_of_not_starting h

theorem presenceAsserted_of_released (h : s.lines.presence = false) :
    presenceAsserted s = presenceUp (s.setLines { s.lines with presence := true }) :=
  if_neg (by simp [h])

/-- The reading of an asserted level after a reset is one delivery taken. -/
theorem presenceAsserted_of_front {before after : List Delivery} (h : s.lines.presence = true)
    (hfront : Front .presenceRead before after s) :
    presenceAsserted s = presenceUp (s.setDeliveries (before ++ after)) :=
  (if_pos h).trans (takingOne_of_front hfront _)

/-! ### Released -/

theorem presenceDown_of_waiting (h : s.link.state = .contact ∨ s.link.state = .identify ∨ s.link.state = .rejected) :
    presenceDown s = moveLink .detached {} s := by
  rcases h with h | h | h <;> simp only [presenceDown, h]

theorem presenceDown_of_known (h : s.link.state = .attached ∨ s.link.state = .suspect) :
    presenceDown s = moveLink .detached {} (teardown .presence s) := by
  rcases h with h | h <;> simp only [presenceDown, h]

/-- DETACHED entered from IDENTIFY cancels the IDENT_REQ (R20, R112). -/
theorem moveLink_detached_of_identify (h : s.link.state = .identify) : moveLink .detached {} s =
    (s.setLink { s.link.at .detached none none none with attempts := 0 }).setBport
      { s.bport with pendingIdent := false } := by
  rw [moveLink_eq, if_pos ⟨h, by decide⟩]
  rfl

theorem moveLink_detached_of_not_identify (h : s.link.state ≠ .identify) :
    moveLink .detached {} s = s.setLink { s.link.at .detached none none none with attempts := 0 } :=
  moveLink_of_not_identify h _ _

/-- The teardown of a known base with the move to DETACHED (R112, R120). -/
theorem presenceDown_of_known_eq (h : s.link.state = .attached ∨ s.link.state = .suspect) : presenceDown s = { s with
    link := { s.link.at .detached none none none with
      attempts := 0, record := {}, lastTeardown := .presence
      counters := { s.link.counters with teardowns := satInc s.link.counters.teardowns } }
    deliveries := s.deliveries ++ teardownDeliveries } := by
  have hother : (teardown .presence s).link.state ≠ .identify := by
    rw [show (teardown .presence s).link.state = s.link.state from rfl]
    rcases h with h | h <;> simp [h]
  rw [presenceDown_of_known h, moveLink_detached_of_not_identify hother]
  rfl

/-- The line released, and with it a reading still outstanding withdrawn. -/
theorem presenceReleased_of_asserted (h : s.lines.presence = true) :
    presenceReleased s = presenceDown ((s.setLines { s.lines with presence := false }).setDeliveries
      (s.deliveries.filter (fun d => d ≠ .presenceRead))) :=
  if_pos h

end

/-- Settles O20: each event of the line by the state of the link it finds. -/
theorem presenceMovesTheLink : Obligations.PresenceMovesTheLink := by
  intro s contact starts up down
  have hup {t : State} (hp : s.lines.presence = false) (h : presenceUp up = t) :
      exec .presenceAsserted s = .next t :=
    congrArg Host.Outcome.next ((presenceAsserted_of_released hp).trans h)
  have hdown {t : State} (hp : s.lines.presence = true) (h : presenceDown down = t) :
      exec .presenceReleased s = .next t :=
    congrArg Host.Outcome.next ((presenceReleased_of_asserted hp).trans h)
  refine ⟨fun hp h => hup hp ((presenceUp_eq up).trans (if_pos h)),
    fun hp h => hup hp ((presenceUp_eq up).trans (if_neg h)), fun before after hp hfront => ?reading,
    fun hp h => hdown hp ?detached, fun hp h => hdown hp ?waiting, fun hp h => hdown hp ?identify,
    fun hp h => hdown hp (presenceDown_of_known_eq (s := down) h), fun hp => congrArg Host.Outcome.next ?already⟩
  case reading =>
    exact congrArg Host.Outcome.next ((presenceAsserted_of_front hp hfront).trans (presenceUp_eq _))
  case detached =>
    have hstate : down.link.state = .detached := h
    simp only [presenceDown, hstate]
  case waiting =>
    have hother : s.link.state ≠ .identify := by rcases h with h | h <;> simp [h]
    exact (presenceDown_of_waiting (s := down) (h.elim .inl (.inr ∘ .inr))).trans
      (moveLink_detached_of_not_identify (s := down) hother)
  case identify =>
    exact (presenceDown_of_waiting (s := down) (.inr (.inl h))).trans (moveLink_detached_of_identify (s := down) h)
  case already => exact if_neg (by simp [hp])

end Sys2Proof.Machine
end

section
/-! PROOFS. The commands of the Base Class Table, the link timing and the halt flags of the channels (R13, R123, R124,
R170). -/

namespace Sys2Proof.Machine

section
variable {i : Fin 4} {b v cls rev load : Byte} {s : State}

/-! ### Base Class Table -/

theorem cmdWriteBaseClass_of_entry {x : Bool} (hload : load.toNat ≤ 40) :
    cmdWriteBaseClass [byteNat i.val, byteBool x, cls, rev, load] s = okay [] (s.setLink { s.link with
      classes := s.link.classes.set i { valid := x, cls := cls, minRevision := rev, loadCap := load.toNat } }) := by
  simp only [cmdWriteBaseClass, finOf_byteNat i (by decide), flagOf_byteBool]
  exact if_pos hload

theorem cmdWriteBaseClass_of_badLoad {x : Bool} (hload : 41 ≤ load.toNat) :
    cmdWriteBaseClass [byteNat i.val, byteBool x, cls, rev, load] s = refuse .badValue s := by
  simp only [cmdWriteBaseClass, finOf_byteNat i (by decide), flagOf_byteBool]
  exact if_neg (Nat.not_le.2 hload)

theorem cmdWriteBaseClass_of_badFlag (hb : b.toNat ≤ 3) (hv : 2 ≤ v.toNat) :
    cmdWriteBaseClass [b, v, cls, rev, load] s = refuse .badValue s := by
  simp only [cmdWriteBaseClass, finOf_of_lt (Nat.lt_succ_of_le hb), flagOf_of_two_le hv]

theorem cmdWriteBaseClass_of_badIndex (hb : 5 ≤ b.toNat) :
    cmdWriteBaseClass [b, v, cls, rev, load] s = refuse .badIndex s := by
  simp only [cmdWriteBaseClass, finOf_of_le (show 4 ≤ b.toNat by omega), if_neg (show ¬ b.toNat = 4 by omega)]

/-- Index 4 names the Default Base Load, whatever the entry's other bytes (R123). -/
theorem cmdWriteBaseClass_of_default (hb : b.toNat = 4) : cmdWriteBaseClass [b, v, cls, rev, load] s =
    if load.toNat ≤ 40 then okay [] (s.setLink { s.link with defaultLoad := load.toNat }) else refuse .badValue s := by
  simp only [cmdWriteBaseClass, finOf_of_le hb.ge, if_pos hb]
  rfl

end

/-! ### Link timing -/

theorem LinkTiming.valid_iff (t : LinkTiming) : t.valid = true ↔
    10 ≤ t.contactDebounce ∧ t.contactDebounce ≤ 500 ∧ 50 ≤ t.identTimeout ∧ t.identTimeout ≤ 2000
      ∧ 20 ≤ t.aliveWindow ∧ t.aliveWindow ≤ 1000 := by
  simp only [valid, Bool.and_eq_true, inRange_iff, and_assoc]

/-- SET_LINK_TIMING reads the three parameters its bytes carry, and stores all or none; no timer is touched (R124). -/
theorem cmdSetLinkTiming_eq {d i a : Nat} (hd : d ≤ 65535) (hi : i ≤ 65535) (ha : a ≤ 65535) (s : State) :
    let t : LinkTiming := { contactDebounce := d, identTimeout := i, aliveWindow := a }
    cmdSetLinkTiming (le16Nat d ++ le16Nat i ++ le16Nat a) s =
      if t.valid then okay [] (s.setLink { s.link with timing := t }) else refuse .badValue s := by
  simp only [le16Nat_eq, List.cons_append, List.nil_append, cmdSetLinkTiming, nat16_bytes, hd, hi, ha]

/-! ### Halt flags -/

theorem cmdChannelHalt_eq (i : Chan) (s : State) : cmdChannelHalt [byteNat i.val] s = okay [] (setHalt i true s) := by
  simp only [cmdChannelHalt, finOf_byteNat i (by decide)]

theorem cmdChannelResume_eq (i : Chan) (s : State) :
    cmdChannelResume [byteNat i.val] s = okay [] (setHalt i false s) := by
  simp only [cmdChannelResume, finOf_byteNat i (by decide)]

theorem cmdChannelHalt_of_badIndex {b : Byte} (h : 16 ≤ b.toNat) (s : State) :
    cmdChannelHalt [b] s = refuse .badIndex s := by
  simp only [cmdChannelHalt, finOf_of_le h]

theorem cmdChannelResume_of_badIndex {b : Byte} (h : 16 ≤ b.toNat) (s : State) :
    cmdChannelResume [b] s = refuse .badIndex s := by
  simp only [cmdChannelResume, finOf_of_le h]

/-! ### The statement -/

/-- Settles O57: each command by its checks, in their order. -/
theorem linkAndChannelCommands : Obligations.LinkAndChannelCommands := by
  intro ch s hroom p l answer
  have hokay {c : Instr} {code : Byte} {args : List Byte} {run : List Byte → State → Answer} {t : State}
      (hc : exec c s = .next (mgmtEvent code ch args run s)) (h : run args p = okay [] t) : answer c code .ok t :=
    exec_of_answer (a := okay [] t) hroom hc h
  have hrefuse {c : Instr} {code : Byte} {args : List Byte} {run : List Byte → State → Answer} {st : Status}
      (hc : exec c s = .next (mgmtEvent code ch args run s)) (h : run args p = refuse st p) : answer c code st p :=
    exec_of_answer (a := refuse st p) hroom hc h
  obtain ⟨pool, hp⟩ : ∃ pool, p = s.setPool pool := withPlace_eq s
  clear_value p
  subst hp
  refine ⟨fun i v cls rev load => ⟨fun h => hokay rfl (cmdWriteBaseClass_of_entry h),
      fun h => hrefuse rfl (cmdWriteBaseClass_of_badLoad h)⟩,
    fun b v cls rev load => ⟨fun hb => hrefuse rfl (cmdWriteBaseClass_of_badIndex hb),
      fun hb hv => hrefuse rfl (cmdWriteBaseClass_of_badFlag hb hv),
      fun hb h => hokay rfl ((cmdWriteBaseClass_of_default hb).trans (if_pos h)),
      fun hb h => hrefuse rfl ((cmdWriteBaseClass_of_default hb).trans (if_neg (Nat.not_le.2 h)))⟩,
    fun d i a hd hi ha => ?timing,
    fun i => ⟨hokay rfl (cmdChannelHalt_eq i _), hokay rfl (cmdChannelResume_eq i _)⟩,
    fun b hb => ⟨hrefuse rfl (cmdChannelHalt_of_badIndex hb _), hrefuse rfl (cmdChannelResume_of_badIndex hb _)⟩⟩
  case timing =>
    intro c good
    have hwrite : cmdSetLinkTiming _ (s.setPool pool) = _ := cmdSetLinkTiming_eq hd hi ha _
    exact ⟨fun h => hokay rfl (hwrite.trans (if_pos ((LinkTiming.valid_iff _).2 h))),
      fun h => hrefuse rfl (hwrite.trans (if_neg fun hvalid => h ((LinkTiming.valid_iff _).1 hvalid)))⟩

end Sys2Proof.Machine
end

section
/-! PROOFS. The Rail Allocator: the budget cap by the room, a level request and its account, and what the completion
tests complete (R128, R129, R131). -/

namespace Sys2Proof.Machine

/-! ### The budget cap -/

section
variable {c : Charge} {room : Int} {l : Level}

/-- Of the levels that fit the room the cap is the last in ascending order (R128). -/
theorem capFor_of_highest (hfit : (c.power l : Int) ≤ room) (habove : ∀ m : Level, l < m → room < c.power m) :
    capFor c room = l := by
  have hsplit : List.finRange 8 = (List.finRange 8).take l.val ++ l :: (List.finRange 8).drop (l.val + 1) := by
    clear hfit habove
    revert l; decide
  have hhigher : ∀ m ∈ (List.finRange 8).drop (l.val + 1), l < m := by
    clear hfit habove hsplit
    revert l; decide
  have hnone : ((List.finRange 8).drop (l.val + 1)).filter (fun m => decide ((c.power m : Int) ≤ room)) = [] := by
    simpa using fun m hm => habove m (hhigher m hm)
  rw [capFor, hsplit, List.filter_append, List.filter_cons_of_pos (by simpa using hfit), hnone]
  simp

theorem capFor_of_none (h : ∀ m : Level, room < c.power m) : capFor c room = 0 := by
  have hnone : (List.finRange 8).filter (fun m => decide ((c.power m : Int) ≤ room)) = [] := by simpa using h
  rw [capFor, hnone]
  rfl

/-- The cap fits the room, or it is level 0 (R128). -/
theorem capFor_fits (c : Charge) (room : Int) : (c.power (capFor c room) : Int) ≤ room ∨ capFor c room = 0 := by
  cases h : ((List.finRange 8).filter (fun m => decide ((c.power m : Int) ≤ room))).getLast? with
  | none => exact .inr (by rw [capFor, h]; rfl)
  | some m =>
    have hm := List.mem_of_getLast? h
    have hcap : capFor c room = m := by rw [capFor, h]; rfl
    exact .inl (by simpa [hcap] using hm)

end

@[simp] theorem recomputeCap_rail (s : State) :
    (recomputeCap s).rail = { s.rail with cap := capFor s.charge s.rail.room } := by
  simp only [recomputeCap]; split <;> simp

/-- The recomputation written out: the cap of the room, delivered where it moved (R128). -/
theorem recomputeCap_eq (s : State) : recomputeCap s =
    (s.setRail { s.rail with cap := capFor s.charge s.rail.room }).setDeliveries
      (s.deliveries ++ if capFor s.charge s.rail.room = s.rail.cap then [] else [.capChange .rail]) := by
  simp only [recomputeCap]
  split
  · rw [List.append_nil]; rfl
  · rfl

/-! ### The completion tests -/

/-- A pending grant fits beside the pen (R131, test 1). -/
abbrev Rail.GrantCompletes (r : Rail) : Prop := r.grantPending = true ∧ r.penAlloc + r.pendingGrant ≤ r.effective

/-- A pending lowering has room for the pen and the base (R131, test 2). -/
abbrev Rail.BudgetCompletes (r : Rail) : Prop := r.budgetPending = true ∧ r.penAlloc + r.grant ≤ r.total

section
variable {s : State}

theorem completeGrant_of_completes (h : s.rail.GrantCompletes) : completeGrant s =
    requestGrant s.rail.pendingGrant (s.setRail { s.rail with
      grant := s.rail.pendingGrant, pendingGrant := 0, grantPending := false
      counters := { s.rail.counters with grants := satInc s.rail.counters.grants } }) :=
  if_pos h

theorem completeGrant_of_not (h : ¬ s.rail.GrantCompletes) : completeGrant s = s := if_neg h

theorem completeBudget_of_completes (h : s.rail.BudgetCompletes) : completeBudget s =
    s.setRail { s.rail with effective := s.rail.total, budgetPending := false } :=
  if_pos h

theorem completeBudget_of_not (h : ¬ s.rail.BudgetCompletes) : completeBudget s = s := if_neg h

theorem completionTests_of_none (hgrant : ¬ s.rail.GrantCompletes) (hbudget : ¬ s.rail.BudgetCompletes) :
    completionTests s = s := by
  simp [completionTests, completeGrant_of_not hgrant, completeBudget_of_not hbudget]

/-- A test that completed clears its flag, so the cap is recomputed (R131). -/
theorem completionTests_of_completed (h : s.rail.GrantCompletes ∨ (completeGrant s).rail.BudgetCompletes) :
    completionTests s = recomputeCap (completeBudget (completeGrant s)) := by
  refine if_neg ?_
  rintro ⟨hgrant, hbudget⟩
  by_cases hg : s.rail.GrantCompletes
  · have hflag : (completeBudget (completeGrant s)).rail.grantPending = false := by
      rw [completeGrant_of_completes hg, completeBudget]
      split <;> rfl
    exact absurd (hgrant.symm.trans hflag) (by simp [hg.1])
  · rw [completeGrant_of_not hg] at h hbudget
    have hb := h.resolve_left hg
    rw [completeBudget_of_completes hb] at hbudget
    exact absurd (hbudget.symm.trans rfl) (by simp [hb.1])

theorem completionTests_cases (s : State) :
    completionTests s = s ∨ completionTests s = recomputeCap (completeBudget (completeGrant s)) := by
  by_cases hg : s.rail.GrantCompletes
  · exact .inr (completionTests_of_completed (.inl hg))
  · by_cases hb : s.rail.BudgetCompletes
    · exact .inr (completionTests_of_completed (.inr (by rwa [completeGrant_of_not hg])))
    · exact .inl (completionTests_of_none hg hb)

end

/-! ### The statement -/

/-- Settles O42: the cap by the levels that fit, the account of a request, and the two tests in their order. -/
theorem levelRequestsAndCaps : Obligations.LevelRequestsAndCaps := by
  refine ⟨fun _ _ _ => capFor_of_highest, fun _ _ => capFor_of_none, fun l s => rfl, fun s => ?_⟩
  intro granting one lowering two
  have hone : completeGrant s = one := rfl
  have hkept : one.rail.budgetPending = s.rail.budgetPending ∧ one.rail.penAlloc = s.rail.penAlloc
      ∧ one.rail.total = s.rail.total := by
    simp only [one]; split <;> exact ⟨rfl, rfl, rfl⟩
  have hlowering : one.rail.BudgetCompletes ↔ lowering := by
    obtain ⟨hpending, halloc, htotal⟩ := hkept
    rw [Rail.BudgetCompletes, hpending, halloc, htotal]
  have htwo : completeBudget one = two := by
    simp only [completeBudget, two, ← hkept.2.2]
    exact if_congr hlowering rfl rfl
  by_cases hdone : granting ∨ lowering
  · rw [if_pos hdone, completionTests_of_completed (hdone.imp id hlowering.2), hone, htwo]
  · obtain ⟨hg, hl⟩ := not_or.1 hdone
    have hsame : one = s := if_neg hg
    rw [if_neg hdone]
    exact completionTests_of_none hg (hsame ▸ fun h => hl (hlowering.1 h))

end Sys2Proof.Machine
end

section
/-! PROOFS. The Rail Allocator at an admission and a teardown, and the coil with the reports of its drive changes (R128
to R130, R133, R137, R138). -/

namespace Sys2Proof.Machine

/-! ### Admission and teardown -/

section
variable {g : Nat} {s : State}

theorem putGrant_of_fits (h : s.rail.penAlloc + g ≤ s.rail.effective) : putGrant g s =
    requestGrant g (s.setRail { s.rail with
      grant := g, counters := { s.rail.counters with grants := satInc s.rail.counters.grants } }) :=
  if_pos h

theorem putGrant_of_exceeds (h : s.rail.effective < s.rail.penAlloc + g) : putGrant g s =
    s.setRail { s.rail with
      pendingGrant := g, grantPending := true
      counters := { s.rail.counters with deferredGrants := satInc s.rail.counters.deferredGrants } } :=
  if_neg (Nat.not_le.2 h)

/-- A grant below the requested load is counted and delivered, and one that meets it leaves everything (R130). -/
theorem noteLimited_eq (g : Nat) (s : State) :
    let limited : Bool := decide (g < s.link.record.requestedLoad)
    noteLimited g s = (s.setRail { s.rail with counters := if limited then
        { s.rail.counters with limitedGrants := satInc s.rail.counters.limitedGrants }
          else s.rail.counters }).setDeliveries
      (s.deliveries ++ if limited then [.event .grantLimited] else []) := by
  intro limited
  by_cases h : g < s.link.record.requestedLoad
  · have hl : limited = true := decide_eq_true h
    simp only [noteLimited, if_pos h, hl]
    rfl
  · have hl : limited = false := decide_eq_false h
    simp only [noteLimited, if_neg h, hl, List.append_nil, Bool.false_eq_true, if_false]
    rfl

end

/-- Settles O41: the two deliveries by what fits beside the pen, the cap recomputed at the end of each. -/
theorem railAtAdmissionAndTeardown : Obligations.RailAtAdmissionAndTeardown := by
  intro before after s u g limited recapped noted noteds
  refine ⟨fun h => ?admission, fun h => ?teardown⟩
  case admission =>
    have hexec : exec .admissionGrant s = .next (if grantFits u then bLook (admitLoad u) else admitLoad u) :=
      congrArg Host.Outcome.next (takingOne_of_front h _)
    have hadmit : admitLoad u = recomputeCap (noteLimited g (putGrant g u)) := rfl
    rw [hexec, hadmit, noteLimited_eq, recomputeCap_eq]
    refine ⟨fun hfits => ?_, fun hexceeds => ?_⟩
    · have hgrant : grantFits u = true := decide_eq_true hfits
      rw [if_pos hgrant, putGrant_of_fits (s := u) hfits]
      rfl
    · have hgrant : ¬ grantFits u = true := fun hg => absurd (of_decide_eq_true hg) (Nat.not_le.2 hexceeds)
      rw [if_neg hgrant, putGrant_of_exceeds (s := u) hexceeds]
      rfl
  case teardown =>
    intro released
    have hexec : exec .railTeardown s = .next (recomputeCap (completeBudget (u.setRail released))) :=
      congrArg Host.Outcome.next (takingOne_of_front h releaseLoad)
    rw [hexec, recomputeCap_eq]
    refine ⟨fun hlowers => ?_, fun hstays => ?_⟩
    · have hdone : (u.setRail released).rail.BudgetCompletes := hlowers
      rw [completeBudget_of_completes hdone]
      rfl
    · have hpending : ¬ (u.setRail released).rail.BudgetCompletes := by
        rintro ⟨hflag, hroom⟩
        exact hstays.elim (fun hf => absurd (hflag.symm.trans hf) (by decide)) (Nat.not_lt.2 hroom)
      rw [completeBudget_of_not hpending]
      rfl

/-! ### The coil -/

section
variable {s : State}

theorem stopCoil_of_driving (h : s.pport.coil.driving = true) : stopCoil s = stopReport (setCoil {} s) := if_pos h

theorem stopCoil_of_idle (h : s.pport.coil.driving = false) : stopCoil s = s := if_neg (by simp [h])

theorem endPeriod_of_swap (h : s.pport.coil.driving = true) (hswap : s.pport.coil.swapPending = true) :
    endPeriod s = swapReport (setCoil s.pport.coil.swapped s) :=
  if_pos (by simp [h, hswap])

theorem endPeriod_of_none (h : s.pport.coil.driving = false ∨ s.pport.coil.swapPending = false) : endPeriod s = s :=
  if_neg (by simpa [imp_iff_not_or] using h)

/-- After a swap the active and the allocated level are the same, and so is their power (R129). -/
theorem swapReport_eq (s : State) : swapReport s = completionTests (s.setRail { s.rail with
    active := s.rail.allocated, penAlloc := s.charge.power s.rail.allocated }) := by
  simp only [swapReport, Rail.account, max_self]

theorem startCoil_of_zero {l : Level} (h : (levelRequest l s).1 = 0) : startCoil l s = (false, (levelRequest l s).2) :=
  if_pos h

theorem startCoil_of_level {l : Level} (h : (levelRequest l s).1 ≠ 0) : startCoil l s =
    (true, swapReport (setCoil (coilAt s.charge (levelRequest l s).1) (levelRequest l s).2)) := by
  rw [startCoil, if_neg h]
  simp

end

/-- Settles O43: the three events of the coil, each with what it reports to the Rail Allocator. -/
theorem coilStartsPeriodsAndStops : Obligations.CoilStartsPeriodsAndStops := by
  intro s k reported
  refine ⟨fun hd hs => ?_, fun h => ?_, fun h => ?_, stopCoil_of_idle, fun l => ⟨startCoil_of_zero, fun h => ?_⟩⟩
  · exact congrArg (fun t => Host.Outcome.next (bLookAfter s t)) (endPeriod_of_swap hd hs)
  · have hexec : exec .drivePeriodEnd s = .next (bLookAfter s (endPeriod s)) := rfl
    rw [hexec, endPeriod_of_none h, bLookAfter_self]
  · exact stopCoil_of_driving h
  · have hcharge : (levelRequest l s).2.charge = s.charge := by simp
    have hpport : (levelRequest l s).2.pport = s.pport := by simp
    rw [startCoil_of_level h, swapReport_eq, setCoil, State.setPport_rail, State.setPport_charge, hcharge, hpport]
    rfl

end Sys2Proof.Machine
end

section
/-! PROOFS. What the law of the rail asks of the Rail Allocator and of the coil, and the operations of both that keep it
(R127 to R133, R135, R137, R138). -/

namespace Sys2Proof.Machine

/-! ### The law in parts -/

/-- The rail figures beside the powers of the drive levels, the cap aside: what every operation of the Rail Allocator
keeps before it recomputes the cap. -/
structure Rail.Figures (r : Rail) (c : Charge) : Prop where
  within : r.grant + r.penAlloc ≤ r.effective
  total_le : r.total ≤ r.effective
  settled : r.budgetPending = false → r.effective = r.total
  ungranted : r.grantPending = false → r.pendingGrant = 0
  account : r.penAlloc = max (c.power r.active) (c.power r.allocated)
  idleLevel : c.levels[(0 : Fin 8)] = {}

/-- The law of the Rail Allocator alone. -/
structure RailSound (s : State) : Prop where
  figures : s.rail.Figures s.charge
  cap : s.rail.cap = capFor s.charge s.rail.room

/-- The law of the Rail Allocator and of the coil it supplies, whatever the session. -/
structure DriveSound (s : State) : Prop where
  sound : RailSound s
  idle : s.pport.coil.driving = false → s.pport.coil = {} ∧ s.rail.active = 0 ∧ s.rail.allocated = 0

theorem railLaw_iff {s : State} : RailLaw s ↔ DriveSound s
    ∧ (s.charge.session.drives = false → s.pport.coil.driving = false)
    ∧ s.charge.enabled = (s.charge.session != .off) := by
  constructor
  · rintro ⟨hwithin, htotal, hsettled, hungranted, haccount, hidle, hcap, hlevel, hcoil, henabled⟩
    exact ⟨⟨⟨⟨hwithin, htotal, hsettled, hungranted, haccount, hlevel⟩, hcap⟩, hidle⟩, hcoil, henabled⟩
  · rintro ⟨⟨⟨⟨hwithin, htotal, hsettled, hungranted, haccount, hlevel⟩, hcap⟩, hidle⟩, hcoil, henabled⟩
    exact ⟨hwithin, htotal, hsettled, hungranted, haccount, hidle, hcap, hlevel, hcoil, henabled⟩

/-! ### What the law reads -/

theorem Charge.power_of_levels {c d : Charge} (h : d.levels = c.levels) : d.power = c.power := by
  funext l
  simp only [Charge.power, h]

theorem capFor_of_levels {c d : Charge} (h : d.levels = c.levels) : capFor d = capFor c := by
  funext room
  simp only [capFor, Charge.power_of_levels h]

/-- Of the Charge Controller the figures read the drive levels alone. -/
theorem Rail.Figures.of_levels {r : Rail} {c d : Charge} (h : r.Figures c) (hl : d.levels = c.levels) :
    r.Figures d :=
  { h with
    account := by rw [Charge.power_of_levels hl]; exact h.account
    idleLevel := by rw [hl]; exact h.idleLevel }

theorem RailSound.congr {s t : State} (h : RailSound s) (hr : t.rail = s.rail := by simp)
    (hl : t.charge.levels = s.charge.levels := by simp) : RailSound t where
  figures := hr ▸ h.figures.of_levels hl
  cap := by rw [hr, capFor_of_levels hl]; exact h.cap

theorem DriveSound.congr {s t : State} (h : DriveSound s) (hr : t.rail = s.rail := by simp)
    (hl : t.charge.levels = s.charge.levels := by simp) (hk : t.pport.coil = s.pport.coil := by simp) :
    DriveSound t where
  sound := h.sound.congr hr hl
  idle := by rw [hk, hr]; exact h.idle

/-! ### The figures -/

section
variable {r : Rail} {c : Charge}

theorem Rail.Figures.power_zero (h : r.Figures c) : c.power 0 = 0 := congrArg DriveLevel.power h.idleLevel

/-- The account of two levels whose powers fit beside the grant (R129). -/
theorem Rail.Figures.at_levels (h : r.Figures c) {x y : Level} (k : RailCounters)
    (hx : r.grant + c.power x ≤ r.effective) (hy : r.grant + c.power y ≤ r.effective) :
    (({ r with active := x, allocated := y, counters := k } : Rail).account c).Figures c :=
  { h with
    within := by
      have hmax : max (c.power x) (c.power y) ≤ r.effective - r.grant := max_le (by omega) (by omega)
      have hgrant : r.grant ≤ r.effective := by omega
      simp only [Rail.account]
      omega
    account := rfl }

theorem Rail.Figures.active_fits (h : r.Figures c) : r.grant + c.power r.active ≤ r.effective :=
  (Nat.add_le_add_left (h.account ▸ le_max_left ..) _).trans h.within

theorem Rail.Figures.allocated_fits (h : r.Figures c) : r.grant + c.power r.allocated ≤ r.effective :=
  (Nat.add_le_add_left (h.account ▸ le_max_right ..) _).trans h.within

theorem Rail.Figures.zero_fits (h : r.Figures c) : r.grant + c.power 0 ≤ r.effective := by
  have hwithin := h.within
  rw [h.power_zero]
  omega

end

section
variable {s : State}

theorem Rail.Figures.recomputeCap (h : s.rail.Figures s.charge) : RailSound (recomputeCap s) where
  figures := by
    rw [recomputeCap_rail]
    exact { h.of_levels (by simp) with }
  cap := by
    have hlevels : (Machine.recomputeCap s).charge.levels = s.charge.levels := by simp
    rw [recomputeCap_rail, capFor_of_levels hlevels]
    rfl

theorem Rail.Figures.completeGrant (h : s.rail.Figures s.charge) :
    (completeGrant s).rail.Figures (completeGrant s).charge := by
  by_cases hg : s.rail.GrantCompletes
  · rw [completeGrant_of_completes hg]
    exact { h with
      within := (Nat.add_comm ..).trans_le hg.2
      ungranted := fun _ => rfl }
  · rwa [completeGrant_of_not hg]

theorem Rail.Figures.completeBudget (h : s.rail.Figures s.charge) :
    (completeBudget s).rail.Figures (completeBudget s).charge := by
  by_cases hb : s.rail.BudgetCompletes
  · rw [completeBudget_of_completes hb]
    exact { h with
      within := (Nat.add_comm ..).trans_le hb.2
      total_le := le_rfl
      settled := fun _ => rfl }
  · rwa [completeBudget_of_not hb]

theorem RailSound.completionTests (h : RailSound s) : RailSound (completionTests s) := by
  rcases completionTests_cases s with he | he <;> rw [he]
  · exact h
  · exact h.figures.completeGrant.completeBudget.recomputeCap

/-! ### Level requests and reports -/

/-- The completion tests leave the levels of the coil as they were reported (R131). -/
@[simp] theorem completionTests_levels (s : State) : (completionTests s).rail.active = s.rail.active
    ∧ (completionTests s).rail.allocated = s.rail.allocated := by
  rcases completionTests_cases s with he | he <;> rw [he]
  · exact ⟨rfl, rfl⟩
  · simp only [recomputeCap_rail, completeBudget, completeGrant]
    (repeat' split) <;> exact ⟨rfl, rfl⟩

@[simp] theorem levelRequest_levels (l : Level) (s : State) : (levelRequest l s).2.rail.active = s.rail.active
    ∧ (levelRequest l s).2.rail.allocated = (levelRequest l s).1 := by
  simp [levelRequest, Rail.account]

@[simp] theorem stopReport_levels (s : State) :
    (stopReport s).rail.active = 0 ∧ (stopReport s).rail.allocated = 0 := by
  simp [stopReport, Rail.account]

/-- The level allocated to a request fits beside the grant: the room leaves out the grant in force (R128, R129). -/
theorem RailSound.allocation_fits (h : RailSound s) (l : Level) :
    s.rail.grant + s.charge.power (allocation s l) ≤ s.rail.effective := by
  have htotal := h.figures.total_le
  have hroom (m : Level) (hm : (s.charge.power m : Int) ≤ s.rail.room) :
      s.rail.grant + s.charge.power m ≤ s.rail.effective := by
    simp only [Rail.room] at hm
    omega
  simp only [allocation]
  split
  · next hfits => exact hroom l hfits
  · rw [h.cap]
    rcases capFor_fits s.charge s.rail.room with hcap | hcap
    · exact hroom _ hcap
    · rw [hcap]; exact h.figures.zero_fits

theorem RailSound.levelRequest (h : RailSound s) (l : Level) : RailSound (levelRequest l s).2 :=
  RailSound.completionTests
    { figures := h.figures.at_levels _ h.figures.active_fits (h.allocation_fits l), cap := h.cap }

theorem RailSound.swapReport (h : RailSound s) : RailSound (swapReport s) :=
  RailSound.completionTests
    { figures := h.figures.at_levels _ h.figures.allocated_fits h.figures.allocated_fits, cap := h.cap }

theorem RailSound.stopReport (h : RailSound s) : RailSound (stopReport s) :=
  RailSound.completionTests { figures := h.figures.at_levels _ h.figures.zero_fits h.figures.zero_fits, cap := h.cap }

/-! ### Grants and budgets -/

theorem Rail.Figures.putGrant (h : s.rail.Figures s.charge) (g : Nat) :
    (putGrant g s).rail.Figures (putGrant g s).charge := by
  rcases Nat.lt_or_ge s.rail.effective (s.rail.penAlloc + g) with hexceeds | hfits
  · rw [putGrant_of_exceeds hexceeds]
    exact { h with ungranted := nofun }
  · rw [putGrant_of_fits hfits]
    exact { h with within := (Nat.add_comm ..).trans_le hfits }

theorem RailSound.admitLoad (h : RailSound s) : RailSound (admitLoad s) := by
  refine Rail.Figures.recomputeCap ?_
  rw [noteLimited_eq]
  exact { h.figures.putGrant (grantOf s) with }

theorem RailSound.releaseLoad (h : RailSound s) : RailSound (releaseLoad s) := by
  refine Rail.Figures.recomputeCap (Rail.Figures.completeBudget ?_)
  have hwithin := h.figures.within
  exact { h.figures with
    within := (Nat.zero_add _).trans_le (by simp only [State.setRail_rail]; omega)
    ungranted := fun _ => rfl }

theorem RailSound.newBudget (h : RailSound s) (v : Nat) : RailSound (newBudget v s).2 := by
  have hwithin := h.figures.within
  simp only [Machine.newBudget]
  split
  · next hv =>
    exact Rail.Figures.recomputeCap { h.figures with
      within := hv
      total_le := le_rfl
      settled := fun _ => rfl }
  · next hv =>
    exact Rail.Figures.recomputeCap { h.figures with
      total_le := by simp only [State.setRail_rail]; omega
      settled := nofun }

/-! ### The coil -/

theorem DriveSound.levelRequest (h : DriveSound s) (hd : s.pport.coil.driving = true) (l : Level) :
    DriveSound (levelRequest l s).2 where
  sound := h.sound.levelRequest l
  idle := by simp [hd]

/-- A coil started from idle is driven exactly where the start reports that it was started (R137). -/
theorem startCoil_driving (hd : s.pport.coil.driving = false) (l : Level) :
    (startCoil l s).2.pport.coil.driving = (startCoil l s).1 := by
  by_cases hl : (Machine.levelRequest l s).1 = 0
  · rw [startCoil_of_zero hl]; simp [hd]
  · rw [startCoil_of_level hl]; simp [coilAt]

theorem DriveSound.startCoil (h : DriveSound s) (hd : s.pport.coil.driving = false) (l : Level) :
    DriveSound (startCoil l s).2 := by
  obtain ⟨hcoil, hactive, -⟩ := h.idle hd
  by_cases hl : (Machine.levelRequest l s).1 = 0
  · rw [startCoil_of_zero hl]
    exact ⟨h.sound.levelRequest l, fun _ => by simp [hcoil, hactive, hl]⟩
  · rw [startCoil_of_level hl]
    exact ⟨RailSound.swapReport ((h.sound.levelRequest l).congr), by simp [coilAt]⟩

theorem stopCoil_driving (s : State) : (stopCoil s).pport.coil.driving = false := by
  cases hd : s.pport.coil.driving with
  | false => rwa [stopCoil_of_idle hd]
  | true => rw [stopCoil_of_driving hd]; simp

theorem DriveSound.stopCoil (h : DriveSound s) : DriveSound (stopCoil s) := by
  cases hd : s.pport.coil.driving with
  | false => rwa [stopCoil_of_idle hd]
  | true =>
    rw [stopCoil_of_driving hd]
    exact ⟨RailSound.stopReport h.sound.congr, by simp⟩

theorem endPeriod_driving (s : State) : (endPeriod s).pport.coil.driving = s.pport.coil.driving := by
  simp only [endPeriod]; split <;> simp [Coil.swapped]

theorem DriveSound.endPeriod (h : DriveSound s) : DriveSound (endPeriod s) := by
  simp only [Machine.endPeriod]
  split
  · next hswap => exact ⟨RailSound.swapReport h.sound.congr, by simp_all [Coil.swapped]⟩
  · exact h

end

end Sys2Proof.Machine
end

section
/-! PROOFS. The moves of the charge session keep the law of the rail: the coil is driven in PROBE and CHARGING alone,
and the charger stays enabled in every state but OFF (R137, R138, R140 to R152). -/

namespace Sys2Proof.Machine

/-! ### What a session starts from -/

/-- The charger enabled over a sound rail and coil: what every move to a session state but OFF starts from. -/
structure ChargerOn (s : State) : Prop where
  drive : DriveSound s
  enabled : s.charge.enabled = true

section
variable {s t : State}

theorem ChargerOn.congr (h : ChargerOn s) (hr : t.rail = s.rail := by simp)
    (hl : t.charge.levels = s.charge.levels := by simp) (hk : t.pport.coil = s.pport.coil := by simp)
    (he : t.charge.enabled = s.charge.enabled := by simp) : ChargerOn t :=
  ⟨h.drive.congr hr hl hk, he.trans h.enabled⟩

/-- The law of the rail reads the rail, the drive levels, the coil, the session state and the enabled flag. -/
theorem RailLaw.congr (h : RailLaw s) (hr : t.rail = s.rail := by simp)
    (hl : t.charge.levels = s.charge.levels := by simp) (hk : t.pport.coil = s.pport.coil := by simp)
    (he : t.charge.enabled = s.charge.enabled := by simp)
    (hx : t.charge.session = s.charge.session := by simp) : RailLaw t := by
  obtain ⟨hdrive, hcoil, henabled⟩ := railLaw_iff.1 h
  refine railLaw_iff.2 ⟨hdrive.congr hr hl hk, ?_, ?_⟩
  · rw [hx, hk]; exact hcoil
  · rw [he, hx]; exact henabled

theorem RailLaw.drive (h : RailLaw s) : DriveSound s := (railLaw_iff.1 h).1

theorem RailLaw.chargerOn (h : RailLaw s) (hx : s.charge.session ≠ .off) : ChargerOn s :=
  ⟨h.drive, (railLaw_iff.1 h).2.2.trans (by simpa using hx)⟩

/-- Outside PROBE and CHARGING the coil is idle (R144). -/
theorem RailLaw.idle (h : RailLaw s) (hx : s.charge.session.drives = false) : s.pport.coil.driving = false :=
  (railLaw_iff.1 h).2.1 hx

theorem ChargerOn.railLaw (h : ChargerOn s) (hoff : s.charge.session ≠ .off)
    (hcoil : s.charge.session.drives = true ∨ s.pport.coil.driving = false) : RailLaw s :=
  railLaw_iff.2 ⟨h.drive, fun hx => hcoil.resolve_left (by simp [hx]), h.enabled.trans (by simpa using hoff)⟩

/-- A move to a session state but OFF, which drives or finds the coil idle, meets the law. -/
theorem ChargerOn.enterSession (h : ChargerOn s) {x : Session} (hoff : x ≠ .off)
    (hcoil : x.drives = true ∨ s.pport.coil.driving = false) (timers : ChargeTimers) :
    RailLaw (enterSession x timers s) :=
  ChargerOn.railLaw (h.congr rfl rfl rfl rfl) hoff hcoil

theorem ChargerOn.stopCoil (h : ChargerOn s) : ChargerOn (stopCoil s) := ⟨h.drive.stopCoil, by simp [h.enabled]⟩

theorem ChargerOn.startCoil (h : ChargerOn s) (hd : s.pport.coil.driving = false) (l : Level) :
    ChargerOn (startCoil l s).2 :=
  ⟨h.drive.startCoil hd l, by simp [h.enabled]⟩

theorem RailLaw.ite {p : Prop} [Decidable p] (hs : p → RailLaw s) (ht : ¬ p → RailLaw t) :
    RailLaw (if p then s else t) := by
  split
  · next h => exact hs h
  · next h => exact ht h

theorem RailLaw.countCharge (h : RailLaw s) (f : ChargeCounters → ChargeCounters) : RailLaw (countCharge f s) := h

theorem RailLaw.postAll (h : RailLaw s) (ds : List Delivery) : RailLaw (postAll ds s) := h

theorem RailLaw.deliver (h : RailLaw s) (c : EventCause) : RailLaw (deliver c s) := h

/-! ### SCAN, HOLD and the probes -/

theorem ChargerOn.enterScan (h : ChargerOn s) (hd : s.pport.coil.driving = false) : RailLaw (enterScan s) :=
  h.enterSession (by decide) (.inr hd) _

theorem ChargerOn.enterScan_stopCoil (h : ChargerOn s) : RailLaw (Machine.enterScan (Machine.stopCoil s)) :=
  h.stopCoil.enterScan (stopCoil_driving s)

theorem ChargerOn.enterHold (h : ChargerOn s) : RailLaw (enterHold s) :=
  h.stopCoil.enterSession (by decide) (.inr (stopCoil_driving s)) _

theorem RailLaw.removePen (h : RailLaw s) : RailLaw (removePen s) := h

/-- A probe started from an idle coil: PROBE where the coil is driven, and otherwise the state that remains, reached
with the coil idle and the Charge Controller as it was (R146, R151). -/
theorem ChargerOn.startProbe (h : ChargerOn s) (hd : s.pport.coil.driving = false) {started starved : State → State}
    (hstarted : ∀ u, RailLaw u → RailLaw (started u))
    (hstarved : ∀ u, ChargerOn u → u.pport.coil.driving = false → u.charge = s.charge → RailLaw (starved u)) :
    RailLaw (startProbe started starved s) := by
  have hon := h.startCoil hd 1
  have hdriving := startCoil_driving hd 1
  have hcharge : (Machine.startCoil 1 s).2.charge = s.charge := by simp
  simp only [Machine.startProbe]
  split
  · next u hu =>
    rw [hu] at hon
    exact hstarted _ (hon.enterSession (by decide) (.inl rfl) _)
  · next u hu =>
    rw [hu] at hon hdriving hcharge
    exact (hstarved u hon hdriving hcharge).countCharge _

theorem RailLaw.recheckHold (h : RailLaw s) (hx : s.charge.session = .hold) : RailLaw (recheckHold s) := by
  simp only [Machine.recheckHold]
  split
  · exact h
  · have hon : ChargerOn s := h.chargerOn (by simp [hx])
    exact hon.startProbe (h.idle (by simp [hx, Session.drives])) (fun u hu => hu.countCharge _)
      fun u hu hd hc => hu.railLaw (by simp [hc, hx]) (.inr hd)

/-! ### CHARGING -/

/-- A level change leaves a driven coil driven at another level, or stops it in HOLD (R137, R140, R149). -/
theorem ChargerOn.changeLevel (h : ChargerOn s) (hx : s.charge.session = .charging)
    (hd : s.pport.coil.driving = true) (l : Level) : RailLaw (changeLevel l s) := by
  have hrequest : ChargerOn (Machine.levelRequest l s).2 := ⟨h.drive.levelRequest hd l, by simp [h.enabled]⟩
  simp only [Machine.changeLevel]
  split
  · exact hrequest.enterHold
  · refine ChargerOn.railLaw ⟨⟨hrequest.drive.sound.congr, ?_⟩, ?_⟩ ?_ (.inl ?_)
    · simp [Coil.swapTo, hd]
    · simp [h.enabled]
    · simp [hx]
    · simp [hx, Session.drives]

theorem ChargerOn.driveAt (h : ChargerOn s) (hx : s.charge.session = .charging) (l : Level) :
    RailLaw (driveAt l s) := by
  have hsame : RailLaw s := h.railLaw (by simp [hx]) (.inl (by simp [hx, Session.drives]))
  simp only [Machine.driveAt]
  split
  · next hd =>
    split
    · exact hsame
    · exact h.changeLevel hx hd l
  · next hd =>
    have hon := h.startCoil (by simpa using hd) l
    have hsession : (Machine.startCoil l s).2.charge.session = .charging := by simp [hx]
    split
    · next u hu =>
      rw [hu] at hon
      replace hsession : u.charge.session = .charging := by rwa [hu] at hsession
      exact hon.railLaw (by simp [hsession]) (.inl (by simp [hsession, Session.drives]))
    · next u hu =>
      rw [hu] at hon
      exact hon.enterHold

theorem ChargerOn.findPen (h : ChargerOn s) : ChargerOn (findPen s) := by
  simp only [Machine.findPen]
  split
  · exact h
  · exact h.congr rfl rfl rfl rfl

@[simp] theorem findPen_session (s : State) : (findPen s).charge.session = s.charge.session := by
  simp only [findPen]
  split <;> rfl

theorem ChargerOn.enterCharging (h : ChargerOn s) : RailLaw (enterCharging s) := by
  have hcharging : ChargerOn (Machine.enterSession .charging { silence := some s.charge.params.penSilence } s) :=
    h.congr rfl rfl rfl rfl
  exact hcharging.findPen.driveAt (by simp [Machine.enterSession]) _

theorem ChargerOn.stayCharging (h : ChargerOn s) : RailLaw (stayCharging s) := by
  have hcharging : ChargerOn (Machine.enterSession .charging { silence := some s.charge.params.penSilence } s) :=
    h.congr rfl rfl rfl rfl
  exact hcharging.driveAt rfl _

/-! ### TOPPED and faults -/

theorem ChargerOn.enterTopped (h : ChargerOn s) : RailLaw (enterTopped s) := by
  have hon := h.stopCoil
  have hd := stopCoil_driving s
  simp only [Machine.enterTopped]
  generalize Machine.stopCoil s = t at hon hd ⊢
  have hcleared : ChargerOn (t.setCharge { t.charge with faultCount := 0 }) := hon.congr rfl rfl rfl rfl
  exact ((hcleared.enterSession (by decide) (.inr hd) _).countCharge _).postAll _

theorem ChargerOn.enterFault (h : ChargerOn s) : RailLaw (enterFault s) := by
  have hon := h.stopCoil
  have hd := stopCoil_driving s
  simp only [Machine.enterFault]
  generalize Machine.stopCoil s = t at hon hd ⊢
  refine RailLaw.ite (fun _ => RailLaw.deliver (RailLaw.countCharge ?_ _) _) (fun _ => ?_)
  all_goals
    refine ChargerOn.enterSession ?_ (by decide) (.inr (by simpa using hd)) _
    exact hon.congr rfl rfl rfl rfl

/-! ### Pen frames and cap changes -/

theorem ChargerOn.probeFrame (h : ChargerOn s) : RailLaw (probeFrame s) := by
  simp only [Machine.probeFrame]
  split
  · exact h.enterFault
  · exact h.enterTopped
  · exact h.enterHold
  · exact h.enterCharging

theorem ChargerOn.chargingFrame (h : ChargerOn s) : RailLaw (chargingFrame s) := by
  simp only [Machine.chargingFrame]
  split
  · exact h.enterFault
  · exact h.enterTopped
  · exact h.enterHold
  · exact h.stayCharging

theorem RailLaw.toppedFrame (h : RailLaw s) (hx : s.charge.session = .topped) : RailLaw (toppedFrame s) := by
  have hon : ChargerOn s := h.chargerOn (by simp [hx])
  simp only [Machine.toppedFrame]
  split
  · split
    · exact hon.enterFault
    · exact h
    · exact hon.enterHold
    · exact hon.enterCharging
  · exact h

theorem RailLaw.takePenFrame (h : RailLaw s) (payload : List Byte) : RailLaw (takePenFrame payload s) := by
  simp only [Machine.takePenFrame]
  split
  · exact h.countCharge _
  · next hoff =>
    have hfilled : RailLaw (s.setCharge { s.charge with pen := penOf payload s.time }) := h
    have hon := hfilled.chargerOn hoff
    split
    · exact hon.probeFrame
    · exact hon.chargingFrame
    · next hx => exact hfilled.toppedFrame hx
    · next hx => exact hfilled.recheckHold hx
    · exact hfilled

theorem RailLaw.takeCapChange (h : RailLaw s) : RailLaw (takeCapChange s) := by
  simp only [Machine.takeCapChange]
  split
  · next hx =>
    split
    · exact (h.chargerOn (by simp [hx])).enterScan_stopCoil.countCharge _
    · exact h
  · next hx =>
    have hon : ChargerOn s := h.chargerOn (by simp [hx])
    split
    · exact hon.enterHold
    · exact hon.driveAt hx _
  · next hx => exact h.recheckHold hx
  · exact h

/-! ### Timers -/

theorem RailLaw.pingExpired (h : RailLaw s) (hx : s.charge.session = .scan) : RailLaw (pingExpired s) := by
  have hon : ChargerOn s := h.chargerOn (by simp [hx])
  have hd : s.pport.coil.driving = false := h.idle (by simp [hx, Session.drives])
  simp only [Machine.pingExpired]
  split
  · exact (hon.enterScan hd).countCharge _
  · exact hon.startProbe hd (fun u hu => hu.countCharge _) fun u hu hidle _ => hu.enterScan hidle

theorem RailLaw.probeExpired (h : RailLaw s) (hx : s.charge.session = .probe) : RailLaw (probeExpired s) := by
  have hscan := (h.chargerOn (by simp [hx])).enterScan_stopCoil
  simp only [Machine.probeExpired]
  split
  · exact (hscan.countCharge _).removePen
  · exact hscan.countCharge _

theorem RailLaw.silenceExpired (h : RailLaw s) (hx : s.charge.session = .charging) : RailLaw (silenceExpired s) :=
  (h.chargerOn (by simp [hx])).enterScan_stopCoil.removePen

theorem RailLaw.topUpExpired (h : RailLaw s) (hx : s.charge.session = .topped) : RailLaw (topUpExpired s) := by
  have hon : ChargerOn s := h.chargerOn (by simp [hx])
  have hd : s.pport.coil.driving = false := h.idle (by simp [hx, Session.drives])
  have hrestart (u : State) (hu : ChargerOn u) (hidle : u.pport.coil.driving = false) : RailLaw (restartTopUp u) :=
    hu.enterSession (by decide) (.inr hidle) _
  simp only [Machine.topUpExpired]
  split
  · exact (hrestart s hon hd).countCharge _
  · exact hon.startProbe hd (fun _ => id) fun u hu hidle _ => hrestart u hu hidle

theorem RailLaw.enterScan_of_cooldown (h : RailLaw s) (hx : s.charge.session = .cooldown) : RailLaw (enterScan s) :=
  (h.chargerOn (by simp [hx])).enterScan (h.idle (by simp [hx, Session.drives]))

theorem RailLaw.endPeriod (h : RailLaw s) : RailLaw (endPeriod s) := by
  obtain ⟨hdrive, hcoil, henabled⟩ := railLaw_iff.1 h
  exact railLaw_iff.2 ⟨hdrive.endPeriod, by simpa [endPeriod_driving] using hcoil, by simpa using henabled⟩

/-! ### Enabling and disabling -/

theorem RailLaw.enableCharger (h : RailLaw s) (hx : s.charge.session.drives = false) : RailLaw (enableCharger s) := by
  have hon : ChargerOn (s.setCharge { s.charge with enabled := true, faultCount := 0, lastFault := .none }) :=
    ⟨h.drive.congr rfl rfl rfl, rfl⟩
  exact hon.enterScan (h.idle hx)

theorem RailLaw.disableCharger (h : RailLaw s) : RailLaw (disableCharger s) :=
  railLaw_iff.2 ⟨h.drive.stopCoil.congr rfl rfl rfl, fun _ => stopCoil_driving s, rfl⟩

end

end Sys2Proof.Machine
end

section
/-! PROOFS. Every command keeps the law of the rail: pen frames, cap changes, the charge session's timers, admissions,
teardowns, the rail's and the charger's commands and the resets reach the rail or the coil, and nothing else does
(R127 to R152). -/

namespace Sys2Proof.Machine

/-! ### What leaves the rail and the coil alone -/

section
variable {s t : State}

/-- A delivery taken keeps the law where what is done with it does. -/
theorem RailLaw.taking {α : Type} {r : Block × Block} {sel : Delivery → Option α} {f : α → State → State}
    (h : RailLaw s) (hf : ∀ a t, RailLaw t → RailLaw (f a t)) : RailLaw (taking r sel f s) := by
  rcases taking_cases r sel f s with he | ⟨a, ds, -, he⟩ <;> rw [he]
  · exact h
  · exact hf a _ h

theorem RailLaw.takingOne {d : Delivery} {f : State → State} (h : RailLaw s)
    (hf : ∀ t, RailLaw t → RailLaw (f t)) : RailLaw (takingOne d f s) :=
  h.taking fun _ => hf

/-- An event that acts only under a condition keeps the law where its act does under that condition. -/
theorem RailLaw.guarded {p : Prop} [Decidable p] (h : RailLaw s) (ht : p → RailLaw t) :
    RailLaw (if p then t else s) :=
  .ite ht fun _ => h

theorem RailLaw.sLook (h : RailLaw s) : RailLaw (sLook s) := h.congr

theorem RailLaw.bLookAfter (h : RailLaw t) : RailLaw (bLookAfter s t) := h.congr

theorem RailLaw.lookAfter (h : RailLaw t) : RailLaw (lookAfter s t) := h.congr

theorem RailLaw.tick (h : RailLaw s) : RailLaw (tick s) := h

theorem RailLaw.presenceAsserted (h : RailLaw s) : RailLaw (presenceAsserted s) := by
  simp only [Machine.presenceAsserted]
  split
  · exact h.takingOne fun t ht => ht.congr
  · exact h.congr

theorem RailLaw.presenceReleased (h : RailLaw s) : RailLaw (presenceReleased s) := by
  simp only [Machine.presenceReleased]
  split
  · exact h.congr
  · exact h

theorem RailLaw.handshakeExpired (h : RailLaw s) : RailLaw (handshakeExpired s) := by
  simp only [Machine.handshakeExpired]
  split
  · exact h.guarded fun _ => h.congr
  · exact h

theorem RailLaw.hostFrameSent (h : RailLaw s) : RailLaw (hostFrameSent s) := by
  simp only [Machine.hostFrameSent]
  split
  · exact h.congr
  · exact h

theorem RailLaw.freshnessExpired (h : RailLaw s) : RailLaw (freshnessExpired s) := h.guarded fun _ => h

theorem RailLaw.lookWhereAsked (h : RailLaw s) : RailLaw (lookWhereAsked s) := h.guarded fun _ => h.congr

theorem RailLaw.admitPosture (h : RailLaw s) : RailLaw (admitPosture s) := by
  simp only [Machine.admitPosture]
  exact h.congr

theorem RailLaw.tearPosture (h : RailLaw s) : RailLaw (tearPosture s) := by
  simp only [Machine.tearPosture]
  exact h.congr

theorem RailLaw.tryRelease (h : RailLaw s) (o : RetryOccasion) : RailLaw (tryRelease o s) :=
  h.guarded fun _ => h.congr

theorem RailLaw.tryLift (h : RailLaw s) (o : RetryOccasion) : RailLaw (tryLift o s) := h.guarded fun _ => h.congr

/-! ### Pen frames and the ports -/

/-- Of the consumers the Charge Controller alone reaches the rail and the coil (R51). -/
theorem RailLaw.consume (h : RailLaw s) (c : Consumer) (port : UpPort) (payload : List Byte) :
    RailLaw (consume c port payload s) := by
  refine .ite (fun _ => ?_) (fun _ => ?_)
  · cases c with
    | lidSample => exact RailLaw.congr (t := takeLidSample payload s) h
    | baseSample => exact RailLaw.congr (t := takeBaseSample payload s) h
    | penFrame => exact h.takePenFrame payload
  · cases port <;> exact h

theorem RailLaw.act (h : RailLaw s) (d : Decision) (port : UpPort) (f : Frame) : RailLaw (act d port f s).2 := by
  simp only [Machine.act]
  split
  · exact h.congr
  · next c _ _ => exact (h.consume c port f.payload).congr
  · exact h.congr
  · exact h.consume _ port f.payload
  · exact h
  · exact h

theorem RailLaw.classify (h : RailLaw s) (port : UpPort) (f : Frame) : RailLaw (classify port f s).2 := by
  have hcounted : RailLaw (s.setClassifier (s.classifier.countMatch port f)) := h
  exact hcounted.act _ port f

theorem RailLaw.checkDeclared (h : RailLaw s) (d : Descriptor) (f : Frame) : RailLaw (checkDeclared d f s) := by
  refine .ite (fun _ => h.congr) fun _ => .ite (fun _ => h.congr) fun _ => .ite (fun _ => h.congr) fun _ => ?_
  exact (h.classify .b f).congr

theorem RailLaw.checkAttached (h : RailLaw s) (f : Frame) : RailLaw (checkAttached f s) := by
  simp only [Machine.checkAttached]
  split
  · split
    · exact h.congr
    · exact .ite (fun _ => h.checkDeclared _ f) fun _ => h.congr
  · exact h.congr

theorem RailLaw.takeBaseFrame (h : RailLaw s) (f : Frame) : RailLaw (takeBaseFrame f s) := by
  simp only [Machine.takeBaseFrame]
  split
  · exact h.congr
  · exact h.congr
  · exact RailLaw.checkAttached h.congr f

theorem RailLaw.receiveB (h : RailLaw s) (unit : List Byte) : RailLaw (receiveB unit s) := by
  simp only [Machine.receiveB]
  split
  · split
    · exact RailLaw.takeBaseFrame h.congr _
    · exact h.congr
  · exact h.congr

theorem RailLaw.receiveL (h : RailLaw s) (unit : List Byte) : RailLaw (receiveL unit s) := by
  simp only [Machine.receiveL]
  split
  · split
    · exact RailLaw.classify h.congr .l _
    · exact h.congr
  · exact h.congr

@[simp] theorem countP_coil (f : PCounters → PCounters) (s : State) :
    (countP f s).pport.coil = s.pport.coil := rfl

theorem RailLaw.receiveP (h : RailLaw s) (unit : List Byte) : RailLaw (receiveP unit s) := by
  simp only [Machine.receiveP]
  split
  · split
    · exact RailLaw.classify h.congr .p _
    · exact h.congr
  · exact h.congr

/-! ### The Rail Allocator and its commands -/

/-- An operation of the Rail Allocator that leaves the coil's levels, the coil and the Charge Controller keeps the law
where it keeps that of the rail. -/
theorem RailLaw.of_sound (h : RailLaw s) (hsound : RailSound t) (hk : t.pport.coil = s.pport.coil)
    (hlevels : t.rail.active = s.rail.active ∧ t.rail.allocated = s.rail.allocated)
    (hc : t.charge = s.charge) : RailLaw t := by
  obtain ⟨hdrive, hcoil, henabled⟩ := railLaw_iff.1 h
  refine railLaw_iff.2 ⟨⟨hsound, ?_⟩, ?_, ?_⟩
  · rw [hk, hlevels.1, hlevels.2]; exact hdrive.idle
  · rw [hc, hk]; exact hcoil
  · rw [hc]; exact henabled

@[simp] theorem admitLoad_levels (s : State) :
    (admitLoad s).rail.active = s.rail.active ∧ (admitLoad s).rail.allocated = s.rail.allocated := by
  simp only [admitLoad, recomputeCap_rail, noteLimited_eq, putGrant]
  split <;> exact ⟨rfl, rfl⟩

@[simp] theorem releaseLoad_levels (s : State) :
    (releaseLoad s).rail.active = s.rail.active ∧ (releaseLoad s).rail.allocated = s.rail.allocated := by
  simp only [releaseLoad, recomputeCap_rail, completeBudget]
  split <;> exact ⟨rfl, rfl⟩

@[simp] theorem newBudget_levels (v : Nat) (s : State) :
    (newBudget v s).2.rail.active = s.rail.active ∧ (newBudget v s).2.rail.allocated = s.rail.allocated := by
  simp only [newBudget]
  split <;> simp

theorem RailLaw.admitLoad (h : RailLaw s) : RailLaw (admitLoad s) :=
  h.of_sound h.drive.sound.admitLoad (by simp) (by simp) (by simp)

theorem RailLaw.releaseLoad (h : RailLaw s) : RailLaw (releaseLoad s) :=
  h.of_sound h.drive.sound.releaseLoad (by simp) (by simp) (by simp)

theorem RailLaw.cmdSetBudget (h : RailLaw s) (args : List Byte) : RailLaw (cmdSetBudget args s).state := by
  simp only [Machine.cmdSetBudget]
  (repeat' split)
  case h_1.isFalse.isFalse => exact h.of_sound (h.drive.sound.newBudget _) (by simp) (by simp) (by simp)
  all_goals exact h

/-! ### The commands of the charge tables -/

theorem driveLevelOf_ne_zero {b : Byte} {l : Level} (h : driveLevelOf b = some l) : l ≠ 0 := by
  rintro rfl
  simp only [driveLevelOf] at h
  split at h
  · cases h
  · next hb => exact hb (finOf_eq_some_iff.1 h).symm

/-- A drive level but 0 written while both levels of the coil are 0 leaves the figures, the cap aside (R135, R136). -/
theorem Rail.Figures.set_level {r : Rail} {c : Charge} (h : r.Figures c) {l : Level} (hl : l ≠ 0) (d : DriveLevel)
    (hactive : r.active = 0) (hallocated : r.allocated = 0) : r.Figures { c with levels := c.levels.set l d } := by
  have hlevel : (c.levels.set l d)[(0 : Fin 8)] = c.levels[(0 : Fin 8)] :=
    Vector.getElem_set_ne l.isLt (by decide) (Fin.val_ne_of_ne hl)
  exact { h with
    account := by
      have haccount := h.account
      simp only [hactive, hallocated, Charge.power] at haccount ⊢
      rwa [hlevel]
    idleLevel := hlevel.trans h.idleLevel }

/-- A drive level is written with the charger disabled, so the session is OFF and the coil idle (R136). -/
theorem RailLaw.writeLevel (h : RailLaw s) (hoff : s.charge.enabled = false) {l : Level} (hl : l ≠ 0) (d : DriveLevel) :
    RailLaw (recomputeCap (s.setCharge { s.charge with levels := s.charge.levels.set l d })) := by
  obtain ⟨hdrive, hcoil, henabled⟩ := railLaw_iff.1 h
  have hx : s.charge.session = .off := by simpa [hoff] using henabled
  have hidle := hdrive.idle (h.idle (by simp [hx, Session.drives]))
  refine railLaw_iff.2 ⟨⟨Rail.Figures.recomputeCap ?_, fun _ => ?_⟩, ?_, ?_⟩
  · exact hdrive.sound.figures.set_level hl d hidle.2.1 hidle.2.2
  · simpa using hidle
  · simpa using hcoil
  · simpa using henabled

theorem RailLaw.cmdWriteDriveLevel (h : RailLaw s) (args : List Byte) : RailLaw (cmdWriteDriveLevel args s).state := by
  simp only [Machine.cmdWriteDriveLevel]
  split
  case h_2 => exact h
  split
  · exact h
  next l hlevel =>
  split
  · exact h
  split
  · exact h
  split
  · exact h
  next hoff => exact h.writeLevel (by simpa using hoff) (driveLevelOf_ne_zero hlevel) _

theorem RailLaw.cmdWriteChargeCell (h : RailLaw s) (args : List Byte) : RailLaw (cmdWriteChargeCell args s).state := by
  simp only [Machine.cmdWriteChargeCell]
  split
  case h_2 => exact h
  split
  · split
    · exact h
    · exact RailLaw.takeCapChange (s := s.setCharge _) h
  · exact h

theorem RailLaw.cmdSetChargeParams (h : RailLaw s) (args : List Byte) : RailLaw (cmdSetChargeParams args s).state := by
  simp only [Machine.cmdSetChargeParams]
  split
  case h_2 => exact h
  split
  · split
    · exact RailLaw.takeCapChange (s := s.setCharge _) h
    · exact h
  · exact h

theorem RailLaw.chargeOn (h : RailLaw s) : RailLaw (chargeOn s).state := by
  simp only [Machine.chargeOn]
  split
  · next hx =>
    split
    · exact h.enableCharger (by simp [hx, Session.drives])
    · exact h
  · next hx => exact h.enableCharger (by simp [hx, Session.drives])
  · exact h

theorem RailLaw.chargeOff (h : RailLaw s) : RailLaw (chargeOff s).state := by
  simp only [Machine.chargeOff]
  split
  · exact h
  · exact h.disableCharger

theorem RailLaw.cmdChargeEnable (h : RailLaw s) (args : List Byte) : RailLaw (cmdChargeEnable args s).state := by
  simp only [Machine.cmdChargeEnable]
  split
  case h_2 => exact h
  split
  · exact h
  · exact h.chargeOn
  · exact h.chargeOff

/-! ### Answers and the S-port -/

/-- The counters of every group are outside the law (R176). -/
theorem RailLaw.cmdReadCounters (h : RailLaw s) (args : List Byte) : RailLaw (cmdReadCounters args s).state := by
  simp only [Machine.cmdReadCounters]
  split
  case h_2 => exact h
  split
  · exact h
  split
  · exact h
  refine .ite (fun _ => ?_) (fun _ => h)
  simp only [clearGroup]
  split <;> exact h

/-- Every command that a code names, SOFT_RESET aside, keeps the law in its execution: all but six leave the rail, the
coil and the charger alone. -/
theorem RailLaw.commandOf {code : Nat} {run : List Byte → State → Answer} (hc : commandOf code = some run)
    (args : List Byte) (h : RailLaw s) : RailLaw (run args s).state := by
  unfold Machine.commandOf at hc
  split at hc <;> cases hc
  case h_19 => exact h.cmdSetBudget args
  case h_21 => exact h.cmdWriteDriveLevel args
  case h_22 => exact h.cmdWriteChargeCell args
  case h_23 => exact h.cmdSetChargeParams args
  case h_24 => exact h.cmdChargeEnable args
  case h_37 => exact h.cmdReadCounters args
  all_goals exact h.congr

theorem RailLaw.complete {a : Answer} (h : RailLaw a.state) (code : Byte) (i : BufIdx) :
    RailLaw (complete code i a) := h

theorem RailLaw.respond {code : Byte} {unit : List Byte} {run : State → Answer} (h : RailLaw s)
    (hrun : ∀ t, RailLaw t → RailLaw (run t).state) : RailLaw (respond code unit run s) := by
  rcases respond_cases code unit run s with ⟨-, i, p, -, he⟩ | he <;> rw [he]
  · exact (hrun (s.setPool p) h).complete code i
  · exact h.congr

/-- After a soft reset the coil is idle, the charger off and the whole budget the room (R127, R128, R172). -/
theorem RailLaw.softResetState (h : RailLaw s) : RailLaw (softResetState s) := by
  have hfigures := h.drive.sound.figures
  have hpower : s.charge.softReset.power = s.charge.power := Charge.power_of_levels rfl
  have hcap : capFor s.charge.softReset = capFor s.charge := capFor_of_levels rfl
  refine railLaw_iff.2 ⟨⟨⟨⟨?_, le_rfl, fun _ => rfl, fun _ => rfl, ?_, hfigures.idleLevel⟩, ?_⟩,
    fun _ => ⟨rfl, rfl, rfl⟩⟩, fun _ => rfl, rfl⟩
  · exact Nat.zero_le _
  · simp [Machine.softResetState, Rail.softReset, hpower, hfigures.power_zero]
  · simp [Machine.softResetState, Rail.softReset, hcap, Rail.room]

theorem RailLaw.runSoftReset (h : RailLaw s) (unit args : List Byte) : RailLaw (runSoftReset unit args s) := by
  simp only [Machine.runSoftReset]
  split
  · refine .ite (fun _ => ?_) (fun _ => h.congr)
    simp only [placeResetResponse]
    split
    · exact h.softResetState
    · exact h.softResetState
  · exact h.respond fun _ => id

theorem RailLaw.manage (h : RailLaw s) (unit payload : List Byte) : RailLaw (manage unit payload s) := by
  cases payload with
  | nil => exact h.respond fun _ => id
  | cons code args =>
    simp only [Machine.manage]
    split
    · exact h.runSoftReset unit args
    · split
      · next run hrun => exact h.respond fun _ => .commandOf hrun args
      · exact h.respond fun _ => id

theorem RailLaw.placeDownstream (h : RailLaw s) (f : Frame) : RailLaw (placeDownstream f s) := by
  have hplaced : RailLaw (placeReceived .qd f.raw s).2 := h.congr
  simp only [Machine.placeDownstream]
  split
  · next t ht =>
    rw [ht] at hplaced
    exact RailLaw.congr hplaced
  · next t ht => rwa [ht] at hplaced

theorem RailLaw.takeHostFrame (h : RailLaw s) (f : Frame) : RailLaw (takeHostFrame f s) := by
  have hbad : RailLaw (badDest f s) := by
    simp only [badDest]
    exact h.congr
  refine .ite (fun _ => .ite (fun _ => RailLaw.manage h.congr _ _) fun _ => hbad) fun _ => ?_
  exact .ite (fun _ => .ite (fun _ => h.placeDownstream f) fun _ => hbad) fun _ => hbad

theorem RailLaw.receiveS (h : RailLaw s) (unit : List Byte) : RailLaw (receiveS unit s) := by
  simp only [Machine.receiveS]
  split
  · split
    · exact RailLaw.takeHostFrame h.congr _
    · exact h.congr
  · exact h.congr

/-- A management command given as a command of its own keeps the law. -/
theorem RailLaw.mgmtEvent {code : Byte} {run : List Byte → State → Answer} (h : RailLaw s)
    (hc : Machine.commandOf code.toNat = some run) (channel : Chan) (args : List Byte) :
    RailLaw (mgmtEvent code channel args run s) :=
  (h.respond fun _ => .commandOf hc args).lookAfter

/-! ### Every command -/

/-- Every command keeps the law, taken by the kind of its meaning. -/
theorem RailLaw.exec (h : RailLaw s) (c : Instr) : ∃ t, exec c s = .next t ∧ RailLaw t := by
  cases c with
  | powerOnReset => exact ⟨_, rfl, railLaw_reset⟩
  | timeCountTick => exact ⟨_, rfl, h.tick⟩
  -- Units at the four ports.
  | bPortUnitCompleted => exact ⟨_, rfl, (h.receiveB _).lookAfter⟩
  | lPortUnitCompleted lidsw =>
    have hlines : RailLaw (s.setLines { s.lines with lidsw := lidsw }) := h
    exact ⟨_, rfl, (hlines.receiveL _).sLook⟩
  | pPortUnitCompleted => exact ⟨_, rfl, (h.receiveP _).lookAfter⟩
  | sPortUnitCompleted => exact ⟨_, rfl, (h.receiveS _).lookAfter⟩
  -- Lines and the ends of what the transmitters send.
  | hostReadyChange level => exact ⟨_, rfl, RailLaw.sLook (s := s.setLines _) h⟩
  | presenceAsserted => exact ⟨_, rfl, h.presenceAsserted⟩
  | presenceReleased => exact ⟨_, rfl, h.presenceReleased⟩
  | handshakeWaitExpiry => exact ⟨_, rfl, h.handshakeExpired⟩
  | sPortFrameEnd => exact ⟨_, rfl, h.hostFrameSent⟩
  | bPortSymbolReceived | bPortSymbolSent | partOriginatedFrameSent | downstreamFrameSent =>
    exact ⟨_, rfl, h.congr⟩
  -- The coil and the charge session's timers.
  | drivePeriodEnd => exact ⟨_, rfl, h.endPeriod.bLookAfter⟩
  | pingExpiry => exact ⟨_, rfl, h.guarded fun ⟨hx, _⟩ => (h.pingExpired hx).bLookAfter⟩
  | probeWindowExpiry => exact ⟨_, rfl, h.guarded fun ⟨hx, _⟩ => (h.probeExpired hx).bLookAfter⟩
  | penSilenceExpiry => exact ⟨_, rfl, h.guarded fun ⟨hx, _⟩ => (h.silenceExpired hx).bLookAfter⟩
  | topUpExpiry => exact ⟨_, rfl, h.guarded fun ⟨hx, _⟩ => (h.topUpExpired hx).bLookAfter⟩
  | cooldownExpiry => exact ⟨_, rfl, h.guarded fun ⟨hx, _⟩ => h.enterScan_of_cooldown hx⟩
  -- The other timers.
  | baseFreshnessExpiry => exact ⟨_, rfl, h.freshnessExpired⟩
  | identTimeoutExpiry => exact ⟨_, rfl, h.guarded fun _ => RailLaw.lookWhereAsked h.congr⟩
  | contactDebounceExpiry | aliveWindowExpiry | sleepDelayExpiry | idleTimerExpiry =>
    exact ⟨_, rfl, h.guarded fun _ => h.congr⟩
  -- Deliveries taken, by the Rail Allocator and the Charge Controller first.
  | admissionGrant =>
    exact ⟨_, rfl, h.takingOne fun t ht => .ite (fun _ => ht.admitLoad.congr) fun _ => ht.admitLoad⟩
  | railTeardown => exact ⟨_, rfl, h.takingOne fun t ht => ht.releaseLoad⟩
  | capChange => exact ⟨_, rfl, h.taking fun _ t ht => ht.takeCapChange.bLookAfter⟩
  | releaseRetry => exact ⟨_, rfl, h.taking fun o t ht => (ht.tryRelease o).sLook⟩
  | liftRetry => exact ⟨_, rfl, h.taking fun o t ht => (ht.tryLift o).sLook⟩
  | toggleAndHaltReset => exact ⟨_, rfl, h.takingOne fun t ht => ht⟩
  | postureAdmission => exact ⟨_, rfl, h.takingOne fun t ht => ht.admitPosture.sLook⟩
  | postureTeardown => exact ⟨_, rfl, h.takingOne fun t ht => ht.tearPosture.sLook⟩
  | owedFrameEmission | pendingItemRetry | inputGateTeardown
  | transmitterTeardown | activityEvent | wakeSourceEvent | eventDelivery =>
    exact ⟨_, rfl, h.takingOne fun t ht => ht.congr⟩
  | gateUpdate | powerPostureChange | powerPolicyEvent =>
    exact ⟨_, rfl, h.taking fun a t ht => ht.congr⟩
  -- Management commands.
  | softReset => exact ⟨_, rfl, (h.runSoftReset _ _).lookAfter⟩
  | getInfo | writeRoute | invalidateRoute | readRoute | setDefaultRoute | writePosture | invalidatePosture
  | readPostureEntry | writePolicy | writeAxisMap | writeAngleParams | readPostureRecord | setRotationLock
  | writeBaseClass | readBaseRecord | setLinkTiming | channelHalt | channelResume | setBudget | readBudget
  | writeDriveLevel | writeChargeCell | setChargeParams | chargeEnable | readChargeRecord | setHostState
  | writeWakeTable | readSleepRecord | setQueue | flushQueue | readQueues | readEvents | clearEvents
  | setEventEnable | readLog | clearLog | readCounters =>
    exact ⟨_, rfl, h.mgmtEvent rfl _ _⟩

end

/-- Settles O4, command by command: an allocated level fits beside the grant in force, a grant beside the pen, and the
coil is driven in the two session states that drive it. -/
theorem everyStepKeepsTheRailLaw : Obligations.EveryStepKeepsTheRailLaw := by
  intro s t h hstep
  simp only [step] at hstep
  split at hstep
  · cases hstep
    exact h
  · next c rest _ =>
    obtain ⟨u, hu, hlaw⟩ := RailLaw.exec (s := s.setPending rest) h c
    obtain rfl := Host.Outcome.next.inj (hu.symm.trans hstep)
    exact hlaw

end Sys2Proof.Machine
end

section
/-! PROOFS. The commands of the Rail Allocator and of the Charge Controller: the budget, the drive levels, the charge
table, the charge parameters and the charger's enabling (R132, R136, R139, R141, R143, R145). -/

namespace Sys2Proof.Machine

/-! ### The budget -/

section
variable {v : Byte} {s : State}

theorem cmdSetBudget_of_badValue (h : 81 ≤ v.toNat) : cmdSetBudget [v] s = refuse .badValue s := if_pos h

theorem cmdSetBudget_of_busy (h : v.toNat ≤ 80) (hbusy : v.toNat < s.rail.grant + s.rail.pendingGrant) :
    cmdSetBudget [v] s = refuse .busy s :=
  (if_neg (Nat.not_lt.2 h)).trans (if_pos hbusy)

theorem cmdSetBudget_eq (h : v.toNat ≤ 80) (hgrants : s.rail.grant + s.rail.pendingGrant ≤ v.toNat) :
    cmdSetBudget [v] s = okay [byteBool (newBudget v.toNat s).1] (newBudget v.toNat s).2 :=
  (if_neg (Nat.not_lt.2 h)).trans (if_neg (Nat.not_lt.2 hgrants))

/-- A budget the pen and the base fit is in force at once, and the answer's data byte is 0 (R132). -/
theorem cmdSetBudget_of_fits (h : v.toNat ≤ 80) (hgrants : s.rail.grant + s.rail.pendingGrant ≤ v.toNat)
    (hfits : s.rail.grant + s.rail.penAlloc ≤ v.toNat) : cmdSetBudget [v] s = okay [0] (recomputeCap
      (s.setRail { s.rail with total := v.toNat, effective := v.toNat, budgetPending := false })) := by
  rw [cmdSetBudget_eq h hgrants, newBudget, if_pos hfits]
  rfl

/-- A budget the pen still exceeds is deferred, and the answer's data byte is 1 (R132). -/
theorem cmdSetBudget_of_exceeded (h : v.toNat ≤ 80) (hgrants : s.rail.grant + s.rail.pendingGrant ≤ v.toNat)
    (hexceeded : v.toNat < s.rail.grant + s.rail.penAlloc) : cmdSetBudget [v] s = okay [1] (recomputeCap
      (s.setRail { s.rail with
        total := v.toNat, budgetPending := true
        counters := { s.rail.counters with deferredBudgets := satInc s.rail.counters.deferredBudgets } })) := by
  rw [cmdSetBudget_eq h hgrants, newBudget, if_neg (Nat.not_le.2 hexceeded)]
  rfl

end

/-! ### Drive levels -/

section
variable {v f0 f1 d w : Byte} {l : Level} {s : State}

theorem driveLevelOf_eq_some_iff : driveLevelOf v = some l ↔ l ≠ 0 ∧ l.val = v.toNat := by
  simp only [driveLevelOf]
  split
  · next h => exact ⟨nofun, fun ⟨hl, hv⟩ => absurd (Fin.ext (hv.trans h)) hl⟩
  · next h =>
    rw [finOf_eq_some_iff]
    exact ⟨fun hv => ⟨fun hl => h (by rw [← hv, hl]; rfl), hv⟩, And.right⟩

theorem cmdWriteDriveLevel_of_badIndex (h : v.toNat = 0 ∨ 8 ≤ v.toNat) :
    cmdWriteDriveLevel [v, f0, f1, d, w] s = refuse .badIndex s := by
  have hnone : driveLevelOf v = none := by
    rcases h with h | h
    · exact if_pos h
    · exact (if_neg (by omega)).trans (finOf_of_le h)
  simp only [cmdWriteDriveLevel, hnone]

theorem cmdWriteDriveLevel_of_badValue (hl : l ≠ 0) (hv : l.val = v.toNat)
    (h : nat16 f0 f1 < 100 ∨ 400 < nat16 f0 f1 ∨ 40 < w.toNat) :
    cmdWriteDriveLevel [v, f0, f1, d, w] s = refuse .badValue s := by
  simp only [cmdWriteDriveLevel, driveLevelOf_eq_some_iff.2 ⟨hl, hv⟩]
  by_cases hrange : inRange 100 400 (nat16 f0 f1) = true
  · obtain ⟨hlow, hhigh⟩ := inRange_iff.1 hrange
    have hpower : Config.maxLoad < w.toNat := (h.resolve_left (by omega)).resolve_left (by omega)
    rw [if_neg (by simp [hrange]), if_pos hpower]
  · exact if_pos (by simpa using hrange)

/-- A drive level whose values pass is written while the charger is off, the cap recomputed (R128, R136). -/
theorem cmdWriteDriveLevel_of_values (hl : l ≠ 0) (hv : l.val = v.toNat) (hlow : 100 ≤ nat16 f0 f1)
    (hhigh : nat16 f0 f1 ≤ 400) (hpower : w.toNat ≤ 40) : cmdWriteDriveLevel [v, f0, f1, d, w] s =
      if s.charge.enabled then refuse .busy s
      else okay [] (recomputeCap (s.setCharge { s.charge with
        levels := s.charge.levels.set l { freq := nat16 f0 f1, duty := d.toNat, power := w.toNat } })) := by
  have hrange : inRange 100 400 (nat16 f0 f1) = true := inRange_iff.2 ⟨hlow, hhigh⟩
  have hmax : ¬ Config.maxLoad < w.toNat := Nat.not_lt.2 hpower
  simp only [cmdWriteDriveLevel, driveLevelOf_eq_some_iff.2 ⟨hl, hv⟩]
  rw [if_neg (by simp [hrange]), if_neg hmax]

/-! ### The charge table and the charge parameters -/

theorem cmdWriteChargeCell_of_cell {b t : Fin 4} {n : Fin 16} (hn : n.val = 4 * b.val + t.val) :
    cmdWriteChargeCell [byteNat b.val, byteNat t.val, byteNat l.val] s =
      okay [] (takeCapChange (s.setCharge { s.charge with cells := s.charge.cells.set n l })) := by
  have hcell : cellIndex b t = n := Fin.ext hn.symm
  simp only [cmdWriteChargeCell, finOf_byteNat b (by decide), finOf_byteNat t (by decide), finOf_byteNat l (by decide),
    hcell]

theorem cmdWriteChargeCell_of_badIndex {b t x : Byte} (h : 4 ≤ b.toNat ∨ 4 ≤ t.toNat) :
    cmdWriteChargeCell [b, t, x] s = refuse .badIndex s := by
  simp only [cmdWriteChargeCell]
  split
  · next hb ht =>
    have hbattery := finOf_eq_some_iff.1 hb
    have htemperature := finOf_eq_some_iff.1 ht
    omega
  · rfl

theorem cmdWriteChargeCell_of_badLevel {b t x : Byte} (hb : b.toNat ≤ 3) (ht : t.toNat ≤ 3) (hx : 8 ≤ x.toNat) :
    cmdWriteChargeCell [b, t, x] s = refuse .badValue s := by
  simp only [cmdWriteChargeCell, finOf_of_lt (Nat.lt_succ_of_le hb), finOf_of_lt (Nat.lt_succ_of_le ht), finOf_of_le hx]

theorem le32Nat_eq (n : Nat) :
    le32Nat n = [byteNat n, byteNat (n / 256), byteNat (n / 65536), byteNat (n / 65536 / 256)] := by
  simp only [le32Nat, le16Nat_eq, List.cons_append, List.nil_append]

theorem nat32_bytes {n : Nat} (h : n < 4294967296) :
    nat32 (byteNat n) (byteNat (n / 256)) (byteNat (n / 65536)) (byteNat (n / 65536 / 256)) = n := by
  simp only [nat32, nat16, byteNat, BitVec.toNat_ofNat]
  omega

theorem ChargeParams.valid_iff (p : ChargeParams) : p.valid = true ↔
    100 ≤ p.pingInterval ∧ p.pingInterval ≤ 10000 ∧ 5 ≤ p.probeWindow ∧ p.probeWindow ≤ 200 ∧ 100 ≤ p.penSilence
      ∧ p.penSilence ≤ 10000 ∧ 20 ≤ p.faultTemp ∧ p.faultTemp ≤ 100 ∧ 1000 ≤ p.cooldown ∧ p.cooldown ≤ 600000
      ∧ 1000 ≤ p.topUp ∧ p.topUp ≤ 3600000 ∧ 50 ≤ p.resume ∧ p.resume ≤ 100 := by
  simp only [valid, Bool.and_eq_true, inRange_iff, decide_eq_true_eq, and_assoc]

section
variable {ping probe silence cooldown topUp : Nat} {temp resume standby off : Byte}

theorem cmdSetChargeParams_of_badCap (h : 8 ≤ standby.toNat ∨ 8 ≤ off.toNat) :
    cmdSetChargeParams (le16Nat ping ++ le16Nat probe ++ le16Nat silence ++ [temp] ++ le32Nat cooldown
      ++ le32Nat topUp ++ [resume, standby, off]) s = refuse .badValue s := by
  simp only [le16Nat_eq, le32Nat_eq, List.cons_append, List.nil_append, cmdSetChargeParams]
  split
  · next hx hy =>
    have hstandby := finOf_eq_some_iff.1 hx
    have hoff := finOf_eq_some_iff.1 hy
    omega
  · rfl

/-- SET_CHARGE_PARAMS reads the parameters its bytes carry, and stores all or none (R143). -/
theorem cmdSetChargeParams_of_caps {x y : Level} (hping : ping ≤ 65535) (hprobe : probe ≤ 65535)
    (hsilence : silence ≤ 65535) (hcooldown : cooldown < 4294967296) (htopUp : topUp < 4294967296)
    (hx : x.val = standby.toNat) (hy : y.val = off.toNat) (s : State) :
    let q : ChargeParams :=
      { pingInterval := ping, probeWindow := probe, penSilence := silence, faultTemp := temp.toInt
        cooldown := cooldown, topUp := topUp, resume := resume.toNat, standbyCap := x, offCap := y }
    cmdSetChargeParams (le16Nat ping ++ le16Nat probe ++ le16Nat silence ++ [temp] ++ le32Nat cooldown
      ++ le32Nat topUp ++ [resume, standby, off]) s =
        if q.valid then okay [] (takeCapChange (s.setCharge { s.charge with params := q }))
        else refuse .badValue s := by
  simp only [le16Nat_eq, le32Nat_eq, List.cons_append, List.nil_append, cmdSetChargeParams, finOf_eq_some_iff.2 hx,
    finOf_eq_some_iff.2 hy, nat16_bytes hping, nat16_bytes hprobe, nat16_bytes hsilence, nat32_bytes hcooldown,
    nat32_bytes htopUp]

end

/-! ### CHARGE_ENABLE -/

theorem Charge.powersRise_iff (c : Charge) :
    c.powersRise = true ↔ ∀ l : Fin 7, c.power l.castSucc ≤ c.power l.succ := by
  simp only [powersRise, List.all_eq_true, List.mem_finRange, forall_const, decide_eq_true_eq]

theorem chargeOn_of_off (h : s.charge.session = .off) :
    chargeOn s = if s.charge.powersRise then okay [] (enableCharger s) else refuse .badValue s := by
  simp only [chargeOn, h]

theorem chargeOn_of_lockout (h : s.charge.session = .lockout) : chargeOn s = okay [] (enableCharger s) := by
  simp only [chargeOn, h]

theorem chargeOn_of_running (hoff : s.charge.session ≠ .off) (hlockout : s.charge.session ≠ .lockout) :
    chargeOn s = okay [] s := by
  simp only [chargeOn]

theorem cmdChargeEnable_of_badValue {b : Byte} (h : 2 ≤ b.toNat) : cmdChargeEnable [b] s = refuse .badValue s := by
  simp only [cmdChargeEnable, flagOf_of_two_le h]

theorem chargeOff_of_off (h : s.charge.session = .off) : chargeOff s = okay [] s := if_pos h

/-- The charger disable, with the charge record as the stop of the coil leaves it (R145). -/
theorem disableCharger_eq (s : State) : disableCharger s = (stopCoil s).setCharge { s.charge with
    enabled := false, penPresent := false, pen := { s.charge.pen with valid := false }
    session := .off, timers := {} } := by
  have hcharge : (stopCoil s).charge = s.charge := by simp
  rw [disableCharger, hcharge]
  rfl

theorem chargeOff_of_on (h : s.charge.session ≠ .off) : chargeOff s = okay [] ((stopCoil s).setCharge { s.charge with
    enabled := false, penPresent := false, pen := { s.charge.pen with valid := false }
    session := .off, timers := {} }) := by
  rw [chargeOff, if_neg h, disableCharger_eq]

end

/-! ### The statement -/

/-- Settles O58: each command by its checks, in their order. -/
theorem railAndChargeCommands : Obligations.RailAndChargeCommands := by
  intro ch s hroom p r c answer
  have hokay {i : Instr} {code : Byte} {args : List Byte} {run : List Byte → State → Answer} {data : List Byte}
      {t : State} (hi : exec i s = .next (mgmtEvent code ch args run s)) (h : run args p = okay data t) :
      exec i s = .next (answered code .ok data t s) :=
    exec_of_answer (a := okay data t) hroom hi h
  have hrefuse {i : Instr} {code : Byte} {args : List Byte} {run : List Byte → State → Answer} {st : Status}
      (hi : exec i s = .next (mgmtEvent code ch args run s)) (h : run args p = refuse st p) : answer i code st p :=
    exec_of_answer (a := refuse st p) hroom hi h
  obtain ⟨pool, hp⟩ : ∃ pool, p = s.setPool pool := withPlace_eq s
  clear_value p
  subst hp
  refine ⟨fun v => ⟨fun h => hrefuse rfl (cmdSetBudget_of_badValue h),
      fun h hbusy => hrefuse rfl (cmdSetBudget_of_busy h hbusy),
      fun h hgrants => ⟨fun hfits => hokay rfl (cmdSetBudget_of_fits h hgrants hfits),
        fun hexceeded => hokay rfl (cmdSetBudget_of_exceeded h hgrants hexceeded)⟩⟩,
    fun v f0 f1 d w => ⟨fun h => hrefuse rfl (cmdWriteDriveLevel_of_badIndex h),
      fun l hl hv => ⟨fun h => hrefuse rfl (cmdWriteDriveLevel_of_badValue hl hv h), fun hlow hhigh hpower => ?level⟩⟩,
    fun b t l n hn => hokay rfl (cmdWriteChargeCell_of_cell hn),
    fun b t l => ⟨fun h => hrefuse rfl (cmdWriteChargeCell_of_badIndex h),
      fun hb ht hl => hrefuse rfl (cmdWriteChargeCell_of_badLevel hb ht hl)⟩,
    fun ping probe silence cooldown topUp temp resume standby off hping hprobe hsilence hcooldown htopUp => ?params,
    ?enable⟩
  case level =>
    have hwrite : cmdWriteDriveLevel [v, f0, f1, d, w] (s.setPool pool) = _ :=
      cmdWriteDriveLevel_of_values hl hv hlow hhigh hpower
    exact ⟨fun hon => hrefuse rfl (hwrite.trans (if_pos hon)),
      fun hoff => hokay rfl (hwrite.trans (if_neg (Bool.eq_false_iff.1 hoff)))⟩
  case params =>
    intro i good
    have hwrite {x y : Level} (hx : x.val = standby.toNat) (hy : y.val = off.toNat) :=
      cmdSetChargeParams_of_caps (temp := temp) (resume := resume) hping hprobe hsilence hcooldown htopUp hx hy
        (s.setPool pool)
    have hvalid (x y : Level) (hstandby : standby.toNat ≤ 7) (hoff : off.toNat ≤ 7) :
        ({ pingInterval := ping, probeWindow := probe, penSilence := silence, faultTemp := temp.toInt
           cooldown := cooldown, topUp := topUp, resume := resume.toNat, standbyCap := x, offCap := y } :
          ChargeParams).valid = true ↔ good := by
      simp only [ChargeParams.valid_iff, good, hstandby, hoff, and_true]
    refine ⟨fun hbad => ?_, fun x y hgood hx hy => ?_⟩
    · by_cases hcaps : standby.toNat ≤ 7 ∧ off.toNat ≤ 7
      · obtain ⟨hstandby, hoff⟩ := hcaps
        have hx : (⟨standby.toNat, Nat.lt_succ_of_le hstandby⟩ : Level).val = standby.toNat := rfl
        have hy : (⟨off.toNat, Nat.lt_succ_of_le hoff⟩ : Level).val = off.toNat := rfl
        exact hrefuse rfl ((hwrite hx hy).trans (if_neg fun h => hbad ((hvalid _ _ hstandby hoff).1 h)))
      · exact hrefuse rfl (cmdSetChargeParams_of_badCap (by omega))
    · have hvalues := (hvalid x y (by omega) (by omega)).2 hgood
      exact hokay rfl ((hwrite hx hy).trans (if_pos hvalues))
  case enable =>
    intro rising on
    have hrising := Charge.powersRise_iff c
    refine ⟨fun hx hflat => hrefuse rfl
        ((chargeOn_of_off (s := s.setPool pool) hx).trans (if_neg (mt hrising.1 hflat))),
      fun hx hrise => hokay rfl ((chargeOn_of_off (s := s.setPool pool) hx).trans (if_pos (hrising.2 hrise))),
      fun hx => hokay rfl (chargeOn_of_lockout (s := s.setPool pool) hx),
      fun hoff hlockout => hokay rfl (chargeOn_of_running (s := s.setPool pool) hoff hlockout),
      fun hx => hokay rfl (chargeOff_of_off (s := s.setPool pool) hx),
      fun hx => hokay rfl (chargeOff_of_on (s := s.setPool pool) hx),
      fun b hb => hrefuse rfl (cmdChargeEnable_of_badValue hb)⟩

end Sys2Proof.Machine
end

section
/-! PROOFS. The caps and targets of the charge session and the order of the pen tests (R139, R140, R147). -/

namespace Sys2Proof.Machine

/-! ### The bands of the Charge Table -/

theorem batteryBand_eq {battery : Nat} {b : Fin 4}
    (h : (b = 0 ∧ battery < 20) ∨ (b = 1 ∧ 20 ≤ battery ∧ battery < 80)
      ∨ (b = 2 ∧ 80 ≤ battery ∧ battery < 95) ∨ (b = 3 ∧ 95 ≤ battery)) : batteryBand battery = b := by
  rcases h with ⟨rfl, h⟩ | ⟨rfl, hlow, hhigh⟩ | ⟨rfl, hlow, hhigh⟩ | ⟨rfl, h⟩
  · exact if_pos h
  · rw [batteryBand, if_neg (by omega), if_pos hhigh]
  · rw [batteryBand, if_neg (by omega), if_neg (by omega), if_pos hhigh]
  · rw [batteryBand, if_neg (by omega), if_neg (by omega), if_neg (by omega)]

theorem temperatureBand_eq {temperature : Int} {t : Fin 4}
    (h : (t = 0 ∧ temperature < 0) ∨ (t = 1 ∧ 0 ≤ temperature ∧ temperature < 35)
      ∨ (t = 2 ∧ 35 ≤ temperature ∧ temperature < 45) ∨ (t = 3 ∧ 45 ≤ temperature)) :
    temperatureBand temperature = t := by
  rcases h with ⟨rfl, h⟩ | ⟨rfl, hlow, hhigh⟩ | ⟨rfl, hlow, hhigh⟩ | ⟨rfl, h⟩
  · exact if_pos h
  · rw [temperatureBand, if_neg (by omega), if_pos hhigh]
  · rw [temperatureBand, if_neg (by omega), if_neg (by omega), if_pos hhigh]
  · rw [temperatureBand, if_neg (by omega), if_neg (by omega), if_neg (by omega)]

theorem Charge.cellCap_of_not_valid {c : Charge} (h : c.pen.valid = false) : c.cellCap = 0 :=
  if_neg (by simp [h])

theorem Charge.cellCap_of_bands {c : Charge} {b t : Fin 4} {n : Fin 16} (h : c.pen.valid = true)
    (hb : batteryBand c.pen.battery = b) (ht : temperatureBand c.pen.temperature.toInt = t)
    (hn : n.val = 4 * b.val + t.val) : c.cellCap = c.cells[n] := by
  have hindex : cellIndex (batteryBand c.pen.battery) (temperatureBand c.pen.temperature.toInt) = n := by
    rw [hb, ht]
    exact Fin.ext hn.symm
  simp only [Charge.cellCap, h, hindex, if_true]

/-! ### The pen tests -/

/-- The pen reports an error, or is at the fault temperature (R147, the first test). -/
def Charge.PenFaulty (c : Charge) : Prop := c.pen.error = true ∨ c.params.faultTemp ≤ c.pen.temperature.toInt

/-- The pen reports that it is full, or its battery is in the last band and at the Resume Threshold (R147, the second
test). -/
def Charge.PenFull (c : Charge) : Prop :=
  c.pen.full = true ∨ (95 ≤ c.pen.battery ∧ c.params.resume ≤ c.pen.battery)

section
variable {s : State}

theorem penTests_of_faulty (h : s.charge.PenFaulty) : penTests s = .fault := if_pos h

theorem penTests_of_full (hfaulty : ¬ s.charge.PenFaulty) (h : s.charge.PenFull) : penTests s = .full :=
  (if_neg hfaulty).trans (if_pos h)

theorem penTests_of_no_target (hfaulty : ¬ s.charge.PenFaulty) (hfull : ¬ s.charge.PenFull) (h : chargeTarget s = 0) :
    penTests s = .noTarget :=
  ((if_neg hfaulty).trans (if_neg hfull)).trans (if_pos h)

theorem penTests_of_target (hfaulty : ¬ s.charge.PenFaulty) (hfull : ¬ s.charge.PenFull) (h : chargeTarget s ≠ 0) :
    penTests s = .charge :=
  ((if_neg hfaulty).trans (if_neg hfull)).trans (if_neg h)

/-- The tests in their order: one outcome, told by the first test that is met. -/
theorem penTests_cases (s : State) :
    (s.charge.PenFaulty ∧ penTests s = .fault)
    ∨ (¬ s.charge.PenFaulty ∧ s.charge.PenFull ∧ penTests s = .full)
    ∨ (¬ s.charge.PenFaulty ∧ ¬ s.charge.PenFull ∧ chargeTarget s = 0 ∧ penTests s = .noTarget)
    ∨ (¬ s.charge.PenFaulty ∧ ¬ s.charge.PenFull ∧ chargeTarget s ≠ 0 ∧ penTests s = .charge) := by
  by_cases hfaulty : s.charge.PenFaulty
  · exact .inl ⟨hfaulty, penTests_of_faulty hfaulty⟩
  by_cases hfull : s.charge.PenFull
  · exact .inr (.inl ⟨hfaulty, hfull, penTests_of_full hfaulty hfull⟩)
  by_cases htarget : chargeTarget s = 0
  · exact .inr (.inr (.inl ⟨hfaulty, hfull, htarget, penTests_of_no_target hfaulty hfull htarget⟩))
  · exact .inr (.inr (.inr ⟨hfaulty, hfull, htarget, penTests_of_target hfaulty hfull htarget⟩))

theorem penTests_eq_fault_iff : penTests s = .fault ↔ s.charge.PenFaulty := by
  rcases penTests_cases s with h | h | h | h <;> simp [h]

theorem penTests_eq_full_iff : penTests s = .full ↔ ¬ s.charge.PenFaulty ∧ s.charge.PenFull := by
  rcases penTests_cases s with h | h | h | h <;> simp [h]

theorem penTests_eq_noTarget_iff :
    penTests s = .noTarget ↔ ¬ s.charge.PenFaulty ∧ ¬ s.charge.PenFull ∧ chargeTarget s = 0 := by
  rcases penTests_cases s with h | h | h | h <;> simp [h]

/-- The pen tests lead to CHARGING only with a charge target to drive at (R147). -/
theorem chargeTarget_ne_zero_of_penTests (h : penTests s = .charge) : chargeTarget s ≠ 0 := by
  rcases penTests_cases s with ⟨-, ho⟩ | ⟨-, -, ho⟩ | ⟨-, -, -, ho⟩ | ⟨-, -, htarget, -⟩
  · simp [ho] at h
  · simp [ho] at h
  · simp [ho] at h
  · exact htarget

end

/-! ### The statement -/

/-- Settles O44: the targets are minima of the caps by definition, the cell cap goes by the two bands, and the pen
tests by the first that is met. -/
theorem targetsAndPenTests : Obligations.TargetsAndPenTests := by
  intro s c posture sleep outer hot topped
  exact ⟨rfl, rfl, Charge.cellCap_of_not_valid,
    fun b t hvalid hb ht n hn => Charge.cellCap_of_bands hvalid (batteryBand_eq hb) (temperatureBand_eq ht) hn,
    penTests_eq_fault_iff, penTests_eq_full_iff, penTests_eq_noTarget_iff⟩

end Sys2Proof.Machine
end

section
/-! PROOFS. The moves of the charge session written out, with the Charge Controller as the coil's stop or start leaves
it, and the session's timers (R137, R146 to R152, R154). -/

namespace Sys2Proof.Machine

/-! ### A target above 0 is answered with a level above 0 -/

section
variable {s : State}

/-- A request of 1 or more under a budget cap of 1 or more is never answered with level 0: it is allocated as asked, or
at the cap (R129). -/
theorem levelRequest_ne_zero {l : Level} (hl : l ≠ 0) (hcap : s.rail.cap ≠ 0) : (levelRequest l s).1 ≠ 0 := by
  have hallocated : (levelRequest l s).1 = allocation s l := rfl
  rw [hallocated, allocation]
  split
  · exact hl
  · exact hcap

theorem ne_zero_of_min_ne_zero {x y : Level} (h : min x y ≠ 0) : x ≠ 0 ∧ y ≠ 0 := by
  simpa only [← Fin.pos_iff_ne_zero, lt_min_iff] using h

/-- The budget cap is among the outer caps (R140). -/
theorem cap_ne_zero_of_outerCap (h : outerCap s ≠ 0) : s.rail.cap ≠ 0 :=
  (ne_zero_of_min_ne_zero (ne_zero_of_min_ne_zero h).2).1

theorem cap_ne_zero_of_chargeTarget (h : chargeTarget s ≠ 0) : s.rail.cap ≠ 0 :=
  cap_ne_zero_of_outerCap (ne_zero_of_min_ne_zero h).2

theorem cap_ne_zero_of_probeTarget (h : probeTarget s ≠ 0) : s.rail.cap ≠ 0 :=
  cap_ne_zero_of_outerCap (ne_zero_of_min_ne_zero h).2

/-- Under a budget cap of 1 or more a start at level 1 drives the coil (R137). -/
theorem startCoil_one (hcap : s.rail.cap ≠ 0) : startCoil 1 s = (true, (startCoil 1 s).2) := by
  rw [startCoil_of_level (levelRequest_ne_zero (by decide) hcap)]

theorem startProbe_of_cap (hcap : s.rail.cap ≠ 0) (started starved : State → State) :
    startProbe started starved s = started (enterProbe (startCoil 1 s).2) := by
  rw [startProbe, startCoil_one hcap]

/-! ### HOLD -/

theorem recheckHold_of_zero (h : chargeTarget s = 0) : recheckHold s = s := if_pos h

/-- A charge target of 1 or more leads HOLD to PROBE, counted as a ping (R146, R150; assumption 12). -/
theorem recheckHold_of_target (h : chargeTarget s ≠ 0) : recheckHold s = (startCoil 1 s).2.setCharge { s.charge with
    session := .probe, timers := { probe := some s.charge.params.probeWindow }
    counters := { s.charge.counters with pings := satInc s.charge.counters.pings } } := by
  have hcharge : (startCoil 1 s).2.charge = s.charge := by simp
  rw [recheckHold, if_neg h, startProbe_of_cap (cap_ne_zero_of_chargeTarget h), ← hcharge]
  rfl

theorem enterHold_eq (s : State) :
    enterHold s = (stopCoil s).setCharge { s.charge with session := .hold, timers := {} } := by
  have hcharge : (stopCoil s).charge = s.charge := by simp
  rw [← hcharge]
  rfl

/-! ### The drive in CHARGING -/

section
variable {l : Level}

theorem driveAt_of_buffered (hd : s.pport.coil.driving = true) (h : l = s.pport.coil.buffered) : driveAt l s = s :=
  (if_pos hd).trans (if_pos h)

theorem driveAt_of_other (hd : s.pport.coil.driving = true) (h : l ≠ s.pport.coil.buffered) :
    driveAt l s = changeLevel l s :=
  (if_pos hd).trans (if_neg h)

theorem changeLevel_of_zero (h : (levelRequest l s).1 = 0) : changeLevel l s = enterHold (levelRequest l s).2 :=
  if_pos h

/-- A level change buffers the values of the level returned, for the swap at the end of the period (R137). -/
theorem changeLevel_of_level (h : (levelRequest l s).1 ≠ 0) : changeLevel l s = { (levelRequest l s).2 with
    pport := { s.pport with coil := { s.pport.coil with
      bufferedFreq := s.charge.levels[(levelRequest l s).1].freq
      bufferedDuty := s.charge.levels[(levelRequest l s).1].duty
      buffered := (levelRequest l s).1, swapPending := true } } } := by
  have hcharge : (levelRequest l s).2.charge = s.charge := by simp
  have hpport : (levelRequest l s).2.pport = s.pport := by simp
  rw [changeLevel, if_neg h, setCoil, hcharge, hpport]
  rfl

theorem driveAt_of_idle_of_zero (hd : s.pport.coil.driving = false) (h : (levelRequest l s).1 = 0) :
    driveAt l s = enterHold (levelRequest l s).2 := by
  rw [driveAt, if_neg (by simp [hd]), startCoil_of_zero h]

theorem driveAt_of_idle_of_level (hd : s.pport.coil.driving = false) (h : (levelRequest l s).1 ≠ 0) :
    driveAt l s = (startCoil l s).2 := by
  rw [driveAt, if_neg (by simp [hd]), startCoil_of_level h]

end

/-! ### CHARGING, TOPPED and faults -/

/-- The pen found at an entry to CHARGING, where it was not present (R147). -/
theorem findPen_eq (s : State) : findPen s = { s with
    charge := { s.charge with
      penPresent := true
      counters := { s.charge.counters with sessions :=
        if s.charge.penPresent then s.charge.counters.sessions else satInc s.charge.counters.sessions } }
    deliveries := s.deliveries ++ if s.charge.penPresent then [] else [.event .penFound] } := by
  cases h : s.charge.penPresent with
  | false =>
    simp only [findPen, h, Bool.false_eq_true, if_false]
    rfl
  | true =>
    simp only [findPen, h, if_true, List.append_nil]
    rw [← h]

/-- The session, its timers and the pen's presence are no part of the charge target (R140). -/
theorem enterCharging_eq (s : State) : enterCharging s = driveAt (chargeTarget s)
    (findPen (enterSession .charging { silence := some s.charge.params.penSilence } s)) := by
  rw [enterCharging, findPen_eq]
  rfl

theorem enterTopped_eq (s : State) : enterTopped s = { stopCoil s with
    charge := { s.charge with
      session := .topped, timers := { topUp := some s.charge.params.topUp }, faultCount := 0
      counters := { s.charge.counters with topOffs := satInc s.charge.counters.topOffs } }
    deliveries := (stopCoil s).deliveries ++ [.event .chargeDone, .wakeSource .chargeDone] } := by
  have hcharge : (stopCoil s).charge = s.charge := by simp
  rw [enterTopped, ← hcharge]
  generalize stopCoil s = v
  rfl

/-- The state a fault leaves in a session state, with the timers, counters and deliveries of that state (R152). -/
abbrev faultedState (x : Session) (timers : ChargeTimers) (k : ChargeCounters) (ds : List Delivery) (s : State) :
    State :=
  { stopCoil s with
    charge := { s.charge with
      session := x, timers := timers, faultCount := s.charge.faultCount + 1
      lastFault := if s.charge.pen.error then .error else .temperature
      counters := k }
    deliveries := (stopCoil s).deliveries ++ ds }

/-- The first two faults lead to COOLDOWN (R152). -/
theorem enterFault_of_few (h : s.charge.faultCount + 1 < 3) : enterFault s =
    faultedState .cooldown { cooldown := some s.charge.params.cooldown }
      { s.charge.counters with faults := satInc s.charge.counters.faults } [.event .chargeFault] s := by
  have hcharge : (stopCoil s).charge = s.charge := by simp
  have hfew : ¬ Config.faultLimit ≤ (stopCoil s).charge.faultCount + 1 := by rw [hcharge]; exact Nat.not_le.2 h
  rw [enterFault, if_neg hfew, faultedState, ← hcharge]
  generalize stopCoil s = v
  rfl

/-- The third fault leads to LOCKOUT, which is reported after the fault (R152). -/
theorem enterFault_of_limit (h : 3 ≤ s.charge.faultCount + 1) : enterFault s =
    faultedState .lockout {}
      { s.charge.counters with
        faults := satInc s.charge.counters.faults, lockouts := satInc s.charge.counters.lockouts }
      [.event .chargeFault, .event .chargeLockout] s := by
  have hcharge : (stopCoil s).charge = s.charge := by simp
  have hlimit : Config.faultLimit ≤ (stopCoil s).charge.faultCount + 1 := by rw [hcharge]; exact h
  rw [enterFault, if_pos hlimit, faultedState, ← hcharge]
  simp only [deliver, post, countCharge, enterSession, State.setDeliveries, State.setCharge, List.append_assoc,
    List.cons_append, List.nil_append]

end

/-! ### The statements on moves and timers -/

/-- Settles O47: each move by what it writes beside the coil's stop, and the drive by the coil and the level the Rail
Allocator returns. -/
theorem sessionMoves : Obligations.SessionMoves := by
  intro s v n faulted k
  refine ⟨enterFault_of_few, enterFault_of_limit, enterTopped_eq s, enterHold_eq s, ?charging, ?drive⟩
  case charging =>
    intro begun found
    rw [enterCharging_eq, findPen_eq]
    rfl
  case drive =>
    intro l r d
    exact ⟨driveAt_of_buffered,
      fun hd h => ⟨fun hr => (driveAt_of_other hd h).trans (changeLevel_of_zero hr),
        fun hr => (driveAt_of_other hd h).trans (changeLevel_of_level hr)⟩,
      fun hd => ⟨driveAt_of_idle_of_zero hd, driveAt_of_idle_of_level hd⟩⟩

/-- Settles O45: an expiry that is due runs; what it does goes by the probe target, or by the pen's presence. -/
theorem sessionTimerExpiries : Obligations.SessionTimerExpiries := by
  intro s at_ scan again starved probing pinged removed
  have hstart : (startCoil 1 s).2.charge = s.charge := by simp
  have hstop : (stopCoil s).charge = s.charge := by simp
  have hprobe : enterProbe (startCoil 1 s).2 = probing (startCoil 1 s).2 := by simp only [probing, ← hstart]; rfl
  have hremoved (v : State) : removePen v = removed v := rfl
  have hscan : enterScan (stopCoil s) = scan (stopCoil s) := by simp only [scan, ← hstop]; rfl
  refine ⟨fun hx htimer => ?ping, fun hx htimer => ?topUp, fun hx htimer => ?probe, fun hx htimer => ?silence,
    fun hx htimer => ?cooldown⟩
  case ping =>
    have hexec : exec .pingExpiry s = .next (bLookAfter s (pingExpired s)) :=
      congrArg Host.Outcome.next (if_pos ⟨hx, Timer.due_iff.2 htimer⟩)
    rw [hexec]
    refine ⟨fun h => ?_, fun h => ?_⟩
    · rw [pingExpired, if_pos h, bLookAfter_of_same (by simp) (by simp)]
      rfl
    · rw [pingExpired, if_neg h, startProbe_of_cap (cap_ne_zero_of_probeTarget h), hprobe]
      rfl
  case topUp =>
    have hexec : exec .topUpExpiry s = .next (bLookAfter s (topUpExpired s)) :=
      congrArg Host.Outcome.next (if_pos ⟨hx, Timer.due_iff.2 htimer⟩)
    rw [hexec]
    refine ⟨fun h => ?_, fun h => ?_⟩
    · rw [topUpExpired, if_pos h, bLookAfter_of_same (by simp) (by simp)]
      rfl
    · rw [topUpExpired, if_neg h, startProbe_of_cap (cap_ne_zero_of_probeTarget h), hprobe]
      rfl
  case probe =>
    intro unanswered
    have hexec : exec .probeWindowExpiry s = .next (bLookAfter s (probeExpired s)) :=
      congrArg Host.Outcome.next (if_pos ⟨hx, Timer.due_iff.2 htimer⟩)
    have hcount : countCharge (fun c => { c with unanswered := satInc c.unanswered }) (enterScan (stopCoil s))
        = unanswered := by rw [hscan]; rfl
    have hpresent : unanswered.charge.penPresent = s.charge.penPresent :=
      (congrArg Charge.penPresent hstop :)
    rw [hexec, probeExpired, hcount, hpresent, hremoved]
  case silence =>
    have hexec : exec .penSilenceExpiry s = .next (bLookAfter s (silenceExpired s)) :=
      congrArg Host.Outcome.next (if_pos ⟨hx, Timer.due_iff.2 htimer⟩)
    rw [hexec, silenceExpired, hscan, hremoved]
  case cooldown => exact congrArg Host.Outcome.next (if_pos ⟨hx, Timer.due_iff.2 htimer⟩)

end Sys2Proof.Machine
end

section
/-! PROOFS. Pen frames and cap changes at the Charge Controller, by session state (R141, R142, R146 to R151). -/

namespace Sys2Proof.Machine

/-! ### Pen frames -/

section
variable {s : State}

/-- What a pen frame leads to in PROBE and CHARGING alike: all but the outcome that charges (R147, R149). -/
theorem probeFrame_of_outcomes (s : State) :
    (penTests s = .fault → probeFrame s = enterFault s) ∧ (penTests s = .full → probeFrame s = enterTopped s)
      ∧ (penTests s = .noTarget → probeFrame s = enterHold s)
      ∧ (penTests s = .charge → probeFrame s = enterCharging s) := by
  refine ⟨fun h => ?_, fun h => ?_, fun h => ?_, fun h => ?_⟩ <;> rw [probeFrame, h]

theorem chargingFrame_of_charge (h : penTests s = .charge) : chargingFrame s = stayCharging s := by
  rw [chargingFrame, h]

/-- In CHARGING an outcome that does not charge leads where it leads from PROBE (R149). -/
theorem chargingFrame_of_not_charge (h : penTests s ≠ .charge) : chargingFrame s = probeFrame s := by
  rw [chargingFrame, probeFrame]
  cases ho : penTests s with
  | fault | full | noTarget => rfl
  | charge => exact absurd ho h

theorem toppedFrame_of_high (h : s.charge.params.resume ≤ s.charge.pen.battery) : toppedFrame s = s :=
  if_neg (Nat.not_lt.2 h)

theorem toppedFrame_of_full (hlow : s.charge.pen.battery < s.charge.params.resume) (h : penTests s = .full) :
    toppedFrame s = s := by
  rw [toppedFrame, if_pos hlow, h]

/-- Below the Resume Threshold an outcome but full leads where it leads from PROBE (R151). -/
theorem toppedFrame_of_not_full (hlow : s.charge.pen.battery < s.charge.params.resume) (h : penTests s ≠ .full) :
    toppedFrame s = probeFrame s := by
  rw [toppedFrame, if_pos hlow, probeFrame]
  cases ho : penTests s with
  | fault | noTarget | charge => rfl
  | full => exact absurd ho h

/-- CHARGING kept restarts Pen Silence, and leaves what the charge target is read from (R140, R149). -/
theorem stayCharging_eq (h : s.charge.session = .charging) : stayCharging s = driveAt (chargeTarget s)
    (s.setCharge { s.charge with timers := { silence := some s.charge.params.penSilence } }) := by
  have henter (timers : ChargeTimers) :
      enterSession .charging timers s = s.setCharge { s.charge with timers := timers } := by rw [enterSession, ← h]
  rw [stayCharging, henter]
  rfl

/-- The state with the Pen Record filled from a PEN payload (R142). -/
def penFilled (payload : List Byte) (s : State) : State :=
  s.setCharge { s.charge with pen := penOf payload s.time }

theorem consume_penFrame {payload : List Byte} (h : payload.length = 5) (s : State) :
    consume .penFrame .p payload s = takePenFrame payload s :=
  if_pos h

theorem takePenFrame_of_off (h : s.charge.session = .off) (payload : List Byte) : takePenFrame payload s =
    s.setCharge { s.charge with counters :=
      { s.charge.counters with ignoredFrames := satInc s.charge.counters.ignoredFrames } } :=
  if_pos h

/-- What a pen frame does in a session state once its record is filled (R147 to R151). -/
def filledFrame (x : Session) (t : State) : State :=
  match x with
  | .probe => probeFrame t
  | .charging => chargingFrame t
  | .topped => toppedFrame t
  | .hold => recheckHold t
  | _ => t

/-- Outside OFF the Pen Record is filled, and what follows goes by the session state (R142). -/
theorem takePenFrame_of_on {x : Session} (hx : s.charge.session = x) (hoff : x ≠ .off) (payload : List Byte) :
    takePenFrame payload s = filledFrame x (penFilled payload s) := by
  subst hx
  exact (if_neg hoff).trans rfl

end

/-- Settles O46: the frame is taken, its record filled, and each session state acts by the outcome of the pen tests or
by the charge target. -/
theorem penFrames : Obligations.PenFrames := by
  intro payload s hlength b pen t handed
  have htake : consume .penFrame .p payload s = takePenFrame payload s := consume_penFrame hlength s
  have hon {x : Session} (hx : s.charge.session = x) (hoff : x ≠ .off) :=
    htake.trans (takePenFrame_of_on hx hoff payload)
  obtain ⟨hfault, hfull, hnone, hcharge⟩ := probeFrame_of_outcomes t
  refine ⟨fun hx => htake.trans (takePenFrame_of_off hx payload), fun hx => ?filled, fun hx => ?tested,
    fun hx ho => ?probe, fun hx ho => ?charging, fun hx => ?topped, fun hx => ?hold⟩
  case filled =>
    rcases hx with hx | hx | hx <;> exact hon hx (by decide)
  case tested =>
    have hframe : penTests t ≠ .charge → consume .penFrame .p payload s = probeFrame t := by
      intro ho
      rcases hx with hx | hx
      · exact hon hx (by decide)
      · exact (hon hx (by decide)).trans (chargingFrame_of_not_charge ho)
    exact ⟨fun ho => (hframe (by simp [ho])).trans (hfault ho), fun ho => (hframe (by simp [ho])).trans (hfull ho),
      fun ho => (hframe (by simp [ho])).trans (hnone ho)⟩
  case probe => exact (hon hx (by decide)).trans (hcharge ho)
  case charging =>
    intro kept l r d
    have hl : l ≠ 0 := chargeTarget_ne_zero_of_penTests ho
    have hr : r.1 ≠ 0 := levelRequest_ne_zero (s := kept) hl (cap_ne_zero_of_chargeTarget (s := t) hl)
    have hframe : consume .penFrame .p payload s = driveAt l kept :=
      (hon hx (by decide)).trans ((chargingFrame_of_charge ho).trans (stayCharging_eq (s := t) hx))
    exact ⟨hr, fun hd h => hframe.trans (driveAt_of_buffered (s := kept) hd h),
      fun hd h => hframe.trans ((driveAt_of_other (s := kept) hd h).trans (changeLevel_of_level hr)),
      fun hd => hframe.trans (driveAt_of_idle_of_level (s := kept) hd hr)⟩
  case topped =>
    have hframe : consume .penFrame .p payload s = toppedFrame t := hon hx (by decide)
    refine ⟨fun h => hframe.trans (toppedFrame_of_high (s := t) h), fun hlow => ?_⟩
    have hprobe (ho : penTests t ≠ .full) : consume .penFrame .p payload s = probeFrame t :=
      hframe.trans (toppedFrame_of_not_full hlow ho)
    exact ⟨fun ho => (hprobe (by simp [ho])).trans (hfault ho), fun ho => hframe.trans (toppedFrame_of_full hlow ho),
      fun ho => (hprobe (by simp [ho])).trans (hnone ho), fun ho => (hprobe (by simp [ho])).trans (hcharge ho)⟩
  case hold =>
    have hframe : consume .penFrame .p payload s = recheckHold t := hon hx (by decide)
    exact ⟨fun h => hframe.trans (recheckHold_of_zero h), fun h =>
      ⟨congrArg Prod.fst (startCoil_one (cap_ne_zero_of_chargeTarget h)), hframe.trans (recheckHold_of_target h)⟩⟩

/-! ### Cap changes -/

section
variable {s : State}

/-- A probe whose target fell to 0 is aborted into SCAN (R141). -/
theorem takeCapChange_of_probe_of_zero (hx : s.charge.session = .probe) (h : probeTarget s = 0) : takeCapChange s =
    (stopCoil s).setCharge { s.charge with
      session := .scan, timers := { ping := some s.charge.params.pingInterval }
      counters := { s.charge.counters with aborted := satInc s.charge.counters.aborted } } := by
  have hcharge : (stopCoil s).charge = s.charge := by simp
  simp only [takeCapChange, hx, h, if_true]
  rw [← hcharge]
  rfl

theorem takeCapChange_of_probe_of_target (hx : s.charge.session = .probe) (h : probeTarget s ≠ 0) :
    takeCapChange s = s := by
  simp only [takeCapChange, hx, if_neg h]

theorem takeCapChange_of_charging (hx : s.charge.session = .charging) : takeCapChange s =
    if chargeTarget s = 0 then enterHold s else driveAt (chargeTarget s) s := by
  simp only [takeCapChange, hx]

theorem takeCapChange_of_hold (hx : s.charge.session = .hold) : takeCapChange s = recheckHold s := by
  simp only [takeCapChange, hx]

theorem takeCapChange_of_other (hprobe : s.charge.session ≠ .probe) (hcharging : s.charge.session ≠ .charging)
    (hhold : s.charge.session ≠ .hold) : takeCapChange s = s := by
  rw [takeCapChange]
  cases hx : s.charge.session with
  | off | scan | topped | fault | cooldown | lockout => rfl
  | probe => exact absurd hx hprobe
  | charging => exact absurd hx hcharging
  | hold => exact absurd hx hhold

/-- A cap change at the front of its route is taken, whatever it carries (R141). -/
theorem exec_capChange_of_front {e : CapEvent} {before after : List Delivery}
    (h : Front (.capChange e) before after s) : exec (.capChange e.cause) s =
      .next (bLookAfter s (takeCapChange (s.setDeliveries (before ++ after)))) :=
  congrArg Host.Outcome.next (taking_of_front (a := e) h rfl _)

end

/-- Settles O48: the cap change is taken by the session state, and the targets read nothing of the deliveries. -/
theorem capChanges : Obligations.CapChanges := by
  intro before after c e s hcause hfront u answer
  have hc : e.cause = c := by
    rcases hcause with ⟨rfl, x, rfl⟩ | ⟨rfl, rfl⟩ | ⟨rfl, rfl⟩ <;> rfl
  have hanswer {v : State} (hv : takeCapChange u = v) : answer v := by
    have hexec := exec_capChange_of_front hfront
    rwa [hc, hv] at hexec
  refine ⟨fun hx => ⟨fun h => hanswer (takeCapChange_of_probe_of_zero (s := u) hx h),
      fun h => hanswer (takeCapChange_of_probe_of_target (s := u) hx h)⟩, fun hx => ?charging, fun hx => ?hold,
    fun hprobe hcharging hhold => hanswer (takeCapChange_of_other (s := u) hprobe hcharging hhold)⟩
  case charging =>
    have htake := takeCapChange_of_charging (s := u) hx
    exact ⟨fun h => hanswer (htake.trans (if_pos h)), fun h => hanswer (htake.trans (if_neg h))⟩
  case hold =>
    have htake := takeCapChange_of_hold (s := u) hx
    exact ⟨fun h => hanswer (htake.trans (recheckHold_of_zero (s := u) h)), fun h =>
      ⟨congrArg Prod.fst (startCoil_one (cap_ne_zero_of_chargeTarget (s := u) h)),
        hanswer (htake.trans (recheckHold_of_target (s := u) h))⟩⟩

end Sys2Proof.Machine
end

section
/-! PROOFS. Wake sources: what a mask of occurrences does by the vote, the single bit of an edge source, and the wake
source handling of a posture change event (R164 to R166). -/

namespace Sys2Proof.Machine

/-! ### Masks of wake sources -/

/-- What shares no bit with a mask lies outside it. -/
theorem and_not_of_and_eq_zero {m b : BitVec 8} (h : m &&& b = 0) : b &&& ~~~m = b := by
  refine BitVec.eq_of_getLsbD_eq fun i hi => ?_
  have hbit : (m.getLsbD i && b.getLsbD i) = false := by simp [← BitVec.getLsbD_and, h]
  rw [BitVec.getLsbD_and, BitVec.getLsbD_not, decide_eq_true hi]
  cases hm : m.getLsbD i <;> simp_all

/-- A single bit that meets a mask lies in it. -/
theorem and_twoPow_of_ne_zero {m : BitVec 8} {i : Nat} (h : m &&& BitVec.twoPow 8 i ≠ 0) :
    m &&& BitVec.twoPow 8 i = BitVec.twoPow 8 i := by
  rw [BitVec.and_twoPow] at h ⊢
  split
  · rfl
  · next hi => exact absurd (if_neg hi) h

theorem and_not_of_and_eq_self {m b : BitVec 8} (h : m &&& b = b) : b &&& ~~~m = 0#8 := by
  rw [← h, BitVec.and_comm m b, BitVec.and_assoc, BitVec.and_not_self]
  exact BitVec.and_zero

theorem or_of_and_eq_self {m b : BitVec 8} (h : m &&& b = b) : m ||| b = m := by
  refine BitVec.eq_of_getLsbD_eq fun i _ => ?_
  have hbit : (m.getLsbD i && b.getLsbD i) = b.getLsbD i := by rw [← BitVec.getLsbD_and, h]
  rw [BitVec.getLsbD_or]
  cases hm : m.getLsbD i <;> simp_all

theorem satAdd_zero (c : Counter) : satAdd c 0 = c := Nat.min_eq_left (Nat.le_max_left c _)

theorem maskCount_zero : maskCount 0#8 = 0 := rfl

/-- An edge source is one source (R164). -/
theorem maskCount_edge (e : EdgeSource) : maskCount (BitVec.twoPow 8 (edgeIndex e)) = 1 := by
  cases e <;> rfl

theorem Power.sleeping_iff {p : Power} : p.sleeping = true ↔ p.vote = .asleep ∨ p.vote = .waking := by
  unfold sleeping
  cases p.vote <;> simp

theorem Power.sleeping_eq_false_iff {p : Power} :
    p.sleeping = false ↔ ¬ (p.vote = .asleep ∨ p.vote = .waking) := by
  rw [← Power.sleeping_iff, Bool.not_eq_true]

/-! ### Occurrences of sources -/

/-- The Power Policy Unit with the sources of a mask latched, the rises of disabled ones counted (R165). -/
def Power.raised (m : BitVec 8) (p : Power) : Power := { p with
  latches := p.latches ||| m
  counters := { p.counters with
    wakeSuppressed := satAdd p.counters.wakeSuppressed (maskCount (m &&& ~~~p.latches &&& ~~~p.enables)) } }

/-- The Power Policy Unit woken by the sources of a mask (R166). -/
def Power.woken (cause : BitVec 8) (p : Power) : Power := { p with
  vote := .waking, wakeLine := true, cause := cause
  counters := { p.counters with wakes := satInc p.counters.wakes } }

section
variable {m : BitVec 8} {s : State}

theorem raiseSources_of_not_sleeping (h : ¬ (s.power.vote = .asleep ∨ s.power.vote = .waking)) :
    raiseSources m s = s :=
  if_neg (mt Power.sleeping_iff.1 h)

/-- Sources latched without a wake: in WAKING, and in ASLEEP where no enabled one rises (R165). -/
theorem raiseSources_of_no_wake (h : s.power.vote = .waking
    ∨ s.power.vote = .asleep ∧ m &&& ~~~s.power.latches &&& s.power.enables = 0) :
    raiseSources m s = s.setPower (s.power.raised m) := by
  have hsleeping : s.power.sleeping = true := Power.sleeping_iff.2 (h.symm.imp_left And.left)
  have hnot : ¬ (s.power.vote = .asleep ∧ m &&& ~~~s.power.latches &&& s.power.enables ≠ 0) := by
    rintro ⟨hasleep, hrise⟩
    rcases h with hwaking | ⟨-, hzero⟩
    · exact nomatch hasleep.symm.trans hwaking
    · exact hrise hzero
  exact (if_pos hsleeping).trans (if_neg hnot)

/-- A rise of an enabled source in ASLEEP wakes the host (R166). -/
theorem raiseSources_of_wake (hasleep : s.power.vote = .asleep)
    (hrise : m &&& ~~~s.power.latches &&& s.power.enables ≠ 0) : raiseSources m s = { s with
      power := (s.power.raised m).woken (m &&& ~~~s.power.latches &&& s.power.enables)
      deliveries := s.deliveries ++ [.event .wake] } :=
  (if_pos (Power.sleeping_iff.2 (.inl hasleep))).trans (if_pos ⟨hasleep, hrise⟩)

end

/-! ### One edge source -/

section
variable {p : Power} {e : EdgeSource} {s : State}

theorem edgeOccurs_eq (e : EdgeSource) (s : State) :
    edgeOccurs e s = raiseSources (BitVec.twoPow 8 (edgeIndex e)) s :=
  congrArg (raiseSources · s) (BitVec.zero_or ..)

/-- A latch that is up does not rise again (R165). -/
theorem Power.raised_of_latched (h : p.latches &&& BitVec.twoPow 8 (edgeIndex e) ≠ 0) :
    p.raised (BitVec.twoPow 8 (edgeIndex e)) = p := by
  have hself := and_twoPow_of_ne_zero h
  simp only [raised, or_of_and_eq_self hself, and_not_of_and_eq_self hself, BitVec.zero_and, maskCount_zero,
    satAdd_zero]

/-- A rise of a disabled source is counted as suppressed (R166). -/
theorem Power.raised_of_disabled (hlatch : p.latches &&& BitVec.twoPow 8 (edgeIndex e) = 0)
    (henable : p.enables &&& BitVec.twoPow 8 (edgeIndex e) = 0) :
    p.raised (BitVec.twoPow 8 (edgeIndex e)) = { p with
      latches := p.latches ||| BitVec.twoPow 8 (edgeIndex e)
      counters := { p.counters with wakeSuppressed := satInc p.counters.wakeSuppressed } } := by
  simp only [raised, and_not_of_and_eq_zero hlatch, and_not_of_and_eq_zero henable, maskCount_edge, satInc]

/-- A rise of an enabled source is latched alone (R165). -/
theorem Power.raised_of_enabled (hlatch : p.latches &&& BitVec.twoPow 8 (edgeIndex e) = 0)
    (henable : p.enables &&& BitVec.twoPow 8 (edgeIndex e) ≠ 0) :
    p.raised (BitVec.twoPow 8 (edgeIndex e))
      = { p with latches := p.latches ||| BitVec.twoPow 8 (edgeIndex e) } := by
  simp only [raised, and_not_of_and_eq_zero hlatch, and_not_of_and_eq_self (and_twoPow_of_ne_zero henable),
    maskCount_zero, satAdd_zero]

/-- Where an edge source's latch is up, or the source is disabled, its occurrence wakes nobody. -/
theorem edge_wakes_none (h : p.latches &&& BitVec.twoPow 8 (edgeIndex e) ≠ 0
    ∨ p.enables &&& BitVec.twoPow 8 (edgeIndex e) = 0) :
    BitVec.twoPow 8 (edgeIndex e) &&& ~~~p.latches &&& p.enables = 0 := by
  rcases h with hlatch | henable
  · rw [and_not_of_and_eq_self (and_twoPow_of_ne_zero hlatch)]
    exact BitVec.zero_and
  · rw [BitVec.and_comm, ← BitVec.and_assoc, henable]
    exact BitVec.zero_and

/-- The occurrence of a source that wakes nobody latches it. -/
theorem edgeOccurs_of_no_wake (hvote : s.power.vote = .asleep ∨ s.power.vote = .waking)
    (h : s.power.latches &&& BitVec.twoPow 8 (edgeIndex e) ≠ 0
      ∨ s.power.enables &&& BitVec.twoPow 8 (edgeIndex e) = 0) :
    edgeOccurs e s = s.setPower (s.power.raised (BitVec.twoPow 8 (edgeIndex e))) :=
  (edgeOccurs_eq e s).trans
    (raiseSources_of_no_wake (hvote.symm.imp_right fun hasleep => ⟨hasleep, edge_wakes_none h⟩))

/-- An enabled source that occurs in ASLEEP with its latch down wakes the host, alone (R166). -/
theorem edgeOccurs_of_wake (hasleep : s.power.vote = .asleep)
    (hlatch : s.power.latches &&& BitVec.twoPow 8 (edgeIndex e) = 0)
    (henable : s.power.enables &&& BitVec.twoPow 8 (edgeIndex e) ≠ 0) : edgeOccurs e s = { s with
      power := { s.power with
        latches := s.power.latches ||| BitVec.twoPow 8 (edgeIndex e) }.woken (BitVec.twoPow 8 (edgeIndex e))
      deliveries := s.deliveries ++ [.event .wake] } := by
  have hrise : BitVec.twoPow 8 (edgeIndex e) &&& ~~~s.power.latches &&& s.power.enables
      = BitVec.twoPow 8 (edgeIndex e) := by
    rw [and_not_of_and_eq_zero hlatch, BitVec.and_comm, and_twoPow_of_ne_zero henable]
  have hne : BitVec.twoPow 8 (edgeIndex e) ≠ 0 := by cases e <;> decide
  rw [edgeOccurs_eq, raiseSources_of_wake hasleep (hrise.trans_ne hne), hrise, Power.raised_of_enabled hlatch henable]

end

/-! ### Posture change events -/

theorem lidOpenIn_eq_decide (new : Posture) : lidOpenIn new = decide (new ≠ .closed ∧ new ≠ .detached) := by
  cases new <;> rfl

theorem postureSources_eq (opens : Bool) : postureSources opens = if opens then 9 else 8 := by
  cases opens <;> rfl

theorem setBit_lidOpen_false (m : BitVec 8) : setBit m lidOpenIndex false = m &&& 0xFE := rfl

section
variable {new : Posture} {s : State}

theorem postureWake_of_not_sleeping (h : ¬ (s.power.vote = .asleep ∨ s.power.vote = .waking)) :
    postureWake new s = s.setPower { s.power with lidOpen := lidOpenIn new } := by
  have hsleeping : s.power.sleeping = false := Power.sleeping_eq_false_iff.2 h
  rw [postureWake, raiseSources_of_not_sleeping (by exact h)]
  simp [hsleeping]

theorem postureWake_of_sleeping (h : s.power.vote = .asleep ∨ s.power.vote = .waking) :
    postureWake new s = raiseSources (if !s.power.lidOpen && lidOpenIn new then 9 else 8) (s.setPower { s.power with
      lidOpen := lidOpenIn new
      latches := if s.power.lidOpen && !lidOpenIn new then s.power.latches &&& 0xFE else s.power.latches }) := by
  simp only [postureWake, postureSources_eq, setBit_lidOpen_false, Power.sleeping_iff.2 h, Bool.and_true]

end

/-- Settles O50: the delivery taken and the source's one bit raised, by the vote, the latch and the enable; then a
posture change by the vote, and a mask of sources by what it wakes. -/
theorem wakeSources : Obligations.WakeSources := by
  intro before after e s u bit asleep p latched
  refine ⟨fun h => ?edge, fun new => ?posture⟩
  case edge =>
    have hexec : exec (.wakeSourceEvent e) s = .next (edgeOccurs e u) := congrArg _ (takingOne_of_front h _)
    have hnone (hvote : asleep) (hquiet : p.latches &&& bit ≠ 0 ∨ p.enables &&& bit = 0) :
        edgeOccurs e u = u.setPower (p.raised bit) := edgeOccurs_of_no_wake (s := u) hvote hquiet
    rw [hexec]
    refine ⟨fun hvote => ?_, fun hvote hlatch => ?_, fun hvote hlatch henable => ?_,
      fun hwaking hlatch henable => ?_, fun hasleep hlatch henable => ?_⟩
    · rw [edgeOccurs_eq, raiseSources_of_not_sleeping (s := u) hvote]
    · rw [hnone hvote (.inl hlatch), Power.raised_of_latched hlatch]
      rfl
    · rw [hnone hvote (.inr henable), Power.raised_of_disabled hlatch henable]
    · rw [edgeOccurs_eq, raiseSources_of_no_wake (s := u) (.inl hwaking)]
      exact congrArg (fun q => Host.Outcome.next (u.setPower q)) (Power.raised_of_enabled hlatch henable)
    · rw [edgeOccurs_of_wake (s := u) hasleep hlatch henable]
      rfl
  case posture =>
    intro opens
    have hopens : lidOpenIn new = decide opens := lidOpenIn_eq_decide new
    refine ⟨fun hvote => ?_, fun hvote => ?_, fun m => ⟨raiseSources_of_not_sleeping, raiseSources_of_no_wake,
      raiseSources_of_wake⟩⟩
    · rw [postureWake_of_not_sleeping hvote, hopens]
    · intro fell raised
      rw [postureWake_of_sleeping hvote, hopens]
      simp [fell, raised, p]

end Sys2Proof.Machine
end

section
/-! PROOFS. The Power Policy Unit keeps the law of the sleep vote: each of its operations sets the vote with its reason,
its timers and WAKE, and the host power state with the vote (R155 to R166). -/

namespace Sys2Proof.Machine

/-! ### The law of the vote -/

/-- The law of the sleep vote, of the Power Policy Unit alone (R155, R156). -/
structure Power.Sound (p : Power) : Prop where
  wake : p.wakeLine = (p.vote == .waking)
  host : p.sleeping = (p.host != .active)
  reason : (p.reason != .none) = (p.vote == .pending || p.vote == .requested)
  delay : p.sleepDelay.isSome = (p.vote == .pending)
  idle : p.idle.isSome = true → p.vote = .awake

theorem voteLaw_iff {s : State} : VoteLaw s ↔ s.power.Sound :=
  ⟨fun ⟨hwake, hhost, hreason, hdelay, hidle⟩ => ⟨hwake, hhost, hreason, hdelay, hidle⟩,
    fun ⟨hwake, hhost, hreason, hdelay, hidle⟩ => ⟨hwake, hhost, hreason, hdelay, hidle⟩⟩

section
variable {p q : Power}

/-- The law reads the host power state, the vote, its reason, its two timers and WAKE. -/
theorem Power.Sound.congr (h : p.Sound) (hwake : q.wakeLine = p.wakeLine := by rfl) (hhost : q.host = p.host := by rfl)
    (hvote : q.vote = p.vote := by rfl) (hreason : q.reason = p.reason := by rfl)
    (hdelay : q.sleepDelay.isSome = p.sleepDelay.isSome := by rfl)
    (hidle : q.idle.isSome = p.idle.isSome := by rfl) : q.Sound := by
  obtain ⟨h1, h2, h3, h4, h5⟩ := h
  refine ⟨?_, ?_, ?_, ?_, ?_⟩
  · rw [hwake, hvote, h1]
  · rw [hhost, ← h2, Power.sleeping, Power.sleeping, hvote]
  · rw [hreason, hvote, h3]
  · rw [hdelay, hvote, h4]
  · rw [hidle, hvote]; exact h5

/-- Unless ASLEEP or WAKING the host is ACTIVE (R155). -/
theorem Power.Sound.host_active (h : p.Sound) (hv : ¬ (p.vote = .asleep ∨ p.vote = .waking)) : p.host = .active := by
  have hhost := h.host
  rw [Power.sleeping_eq_false_iff.2 hv] at hhost
  simpa using hhost.symm

/-- Unless WAKING the WAKE line is deasserted (R156). -/
theorem Power.Sound.wake_deasserted (h : p.Sound) (hv : p.vote ≠ .waking) : p.wakeLine = false :=
  h.wake.trans (by simpa using hv)

theorem Power.Sound.tick (h : p.Sound) : p.tick.Sound :=
  h.congr (hdelay := Timer.tick_isSome _) (hidle := Timer.tick_isSome _)

/-- AWAKE, or PENDING where the row asks for it, is entered with the host ACTIVE (R157). -/
theorem Power.awake_sound (hhost : p.host = .active) (row : PolicyRow) : (p.awake row).Sound := by
  unfold Power.awake
  split
  · exact ⟨rfl, by simp [Power.sleeping, hhost], rfl, rfl, nofun⟩
  · exact ⟨rfl, by simp [Power.sleeping, hhost], rfl, rfl, fun _ => rfl⟩

theorem Power.Sound.raised (h : p.Sound) (m : BitVec 8) : (p.raised m).Sound := h.congr

/-- WAKING is entered from ASLEEP, and the host stays as it was (R166). -/
theorem Power.Sound.woken (h : p.Sound) (hasleep : p.vote = .asleep) (cause : BitVec 8) : (p.woken cause).Sound where
  wake := rfl
  host := (Power.sleeping_iff.2 (.inr rfl)).trans ((Power.sleeping_iff.2 (.inl hasleep)).symm.trans h.host)
  reason := h.reason.trans (by rw [hasleep]; rfl)
  delay := h.delay.trans (by rw [hasleep]; rfl)
  idle hidle := nomatch (h.idle hidle).symm.trans hasleep

end

/-! ### Entries to AWAKE and ASLEEP -/

section
variable {s : State}

theorem enterAwake_sound (hhost : s.power.host = .active) (row : PolicyRow) : (enterAwake row s).power.Sound :=
  Power.awake_sound hhost row

theorem withdraw_sound (hhost : s.power.host = .active) (row : PolicyRow) : (withdraw row s).power.Sound := by
  rw [withdraw_eq]
  exact (Power.awake_sound hhost row).congr

theorem enterAsleep_sound (hhost : s.power.host ≠ .active) : (enterAsleep s).power.Sound := by
  rw [enterAsleep_eq]
  exact ⟨rfl, by simpa [Power.sleeping] using hhost, rfl, rfl, nofun⟩

theorem setHost_power (h : HostPower) (s : State) : (setHost h s).power = { s.power with host := h } := by
  rw [setHost_eq]
  rfl

theorem Power.Sound.hostReport (h : s.power.Sound) (x : HostPower) : (hostReport x s).power.Sound := by
  by_cases hx : x = .active
  · subst hx
    by_cases hv : s.power.vote ≠ .asleep ∧ s.power.vote ≠ .waking
    · rwa [hostReport_active_of_awake hv]
    · rw [hostReport_active_of_sleeping hv]
      exact enterAwake_sound (by rw [setHost_power]) _
  · by_cases hv : s.power.vote = .asleep
    · rw [hostReport_of_asleep hx hv, setHost_power]
      have hsleeping : Power.sleeping { s.power with host := x } = true := Power.sleeping_iff.2 (.inl hv)
      exact ⟨h.wake, hsleeping.trans (by simpa using hx), h.reason, h.delay, h.idle⟩
    · rw [hostReport_of_not_asleep hx hv]
      exact enterAsleep_sound (by rwa [setHost_power])

/-! ### Wake sources -/

theorem Power.Sound.raiseSources (h : s.power.Sound) (m : BitVec 8) : (raiseSources m s).power.Sound := by
  by_cases hv : s.power.vote = .asleep ∨ s.power.vote = .waking
  · by_cases hwake : s.power.vote = .asleep ∧ m &&& ~~~s.power.latches &&& s.power.enables ≠ 0
    · obtain ⟨hasleep, hrise⟩ := hwake
      rw [raiseSources_of_wake hasleep hrise]
      exact (h.raised m).woken hasleep _
    · rw [raiseSources_of_no_wake (hv.symm.imp_right fun hasleep => ⟨hasleep, by simpa [hasleep] using hwake⟩)]
      exact h.raised m
  · rwa [raiseSources_of_not_sleeping hv]

theorem Power.Sound.edgeOccurs (h : s.power.Sound) (e : EdgeSource) : (edgeOccurs e s).power.Sound := h.raiseSources _

theorem Power.Sound.postureWake (h : s.power.Sound) (new : Posture) : (postureWake new s).power.Sound := by
  have hset : (s.setPower { s.power with
      lidOpen := lidOpenIn new
      latches := if s.power.lidOpen && !lidOpenIn new && s.power.sleeping then setBit s.power.latches lidOpenIndex false
        else s.power.latches }).power.Sound := h.congr
  exact hset.raiseSources _

theorem Power.Sound.noteActivity (h : s.power.Sound) : (noteActivity s).power.Sound := h.congr

/-! ### Events of the vote -/

theorem Power.Sound.activity (h : s.power.Sound) : (activity s).power.Sound := by
  cases hv : s.power.vote with
  | awake =>
    rw [activity_of_awake hv]
    split
    · exact h.noteActivity
    · obtain ⟨hwake, hhost, hreason, hdelay, -⟩ := h.noteActivity
      exact ⟨hwake, hhost, hreason, hdelay, fun _ => hv⟩
  | pending =>
    by_cases hidle : s.power.reason = .idle
    · rw [activity_of_pending hv hidle]
      exact enterAwake_sound (h.noteActivity.host_active (by simp [Machine.noteActivity, hv])) _
    · rw [activity_of_not_idle (.inl hv) hidle]
      exact h.noteActivity
  | requested =>
    by_cases hidle : s.power.reason = .idle
    · rw [activity_of_requested hv hidle]
      exact withdraw_sound (h.noteActivity.host_active (by simp [Machine.noteActivity, hv])) _
    · rw [activity_of_not_idle (.inr hv) hidle]
      exact h.noteActivity
  | asleep =>
    rw [activity_of_sleeping (.inl hv)]
    exact h.noteActivity
  | waking =>
    rw [activity_of_sleeping (.inr hv)]
    exact h.noteActivity

theorem Power.Sound.powerPostureChanged (h : s.power.Sound) (new : Posture) (row : PolicyRow) :
    (powerPostureChanged new row s).power.Sound := by
  by_cases hv : s.power.vote = .asleep ∨ s.power.vote = .waking
  · rw [powerPostureChanged_of_sleeping hv]
    exact h.noteActivity.postureWake new
  · have hhost : (Machine.postureWake new (Machine.noteActivity s)).power.host = .active := by
      rw [postureWake_of_not_sleeping (by exact hv)]
      exact h.host_active hv
    by_cases hr : s.power.vote = .requested
    · rw [powerPostureChanged_of_requested hr]
      exact withdraw_sound hhost row
    · have hentering : s.power.vote = .awake ∨ s.power.vote = .pending := by
        cases hx : s.power.vote <;> simp_all
      rw [powerPostureChanged_of_entering hentering]
      exact enterAwake_sound hhost row

theorem endReason_sound (hhost : s.power.host = .active) (row : PolicyRow) : (endReason row s).power.Sound := by
  unfold endReason
  split
  · exact withdraw_sound hhost row
  · exact enterAwake_sound hhost row

theorem Power.Sound.policyClosed (h : s.power.Sound) (hhost : s.power.host = .active) (row : PolicyRow) :
    (policyClosed row s).power.Sound := by
  cases hd : row.sleepDelay with
  | none =>
    rw [policyClosed_of_none hd]
    exact endReason_sound hhost row
  | some d =>
    rw [policyClosed_of_delay hd]
    split
    · next hv => exact h.congr (hdelay := (h.delay.trans (by rw [hv]; rfl)).symm)
    · exact h

theorem Power.Sound.powerPolicyChanged (h : s.power.Sound) (row : PolicyRow) :
    (powerPolicyChanged row s).power.Sound := by
  by_cases hv : s.power.vote = .asleep ∨ s.power.vote = .waking
  · rwa [powerPolicyChanged_of_sleeping hv]
  · have hhost := h.host_active hv
    by_cases hawake : s.power.vote = .awake
    · rw [powerPolicyChanged_of_awake hawake]
      exact enterAwake_sound hhost row
    · have hreq : s.power.vote = .pending ∨ s.power.vote = .requested := by
        cases hx : s.power.vote <;> simp_all
      cases hreason : s.power.reason with
      | none =>
        have hheld := h.reason
        rcases hreq with hx | hx <;> simp [hreason, hx] at hheld
      | idle =>
        rw [powerPolicyChanged_of_idle hreq hreason]
        split
        · exact endReason_sound hhost row
        · exact h
      | closed =>
        rw [powerPolicyChanged_of_closed hreq hreason]
        exact h.policyClosed hhost row

/-- PENDING with reason IDLE is entered from AWAKE (R159). -/
theorem Power.Sound.idleExpired (h : s.power.Sound) (hv : s.power.vote = .awake) : (idleExpired s).power.Sound where
  wake := h.wake_deasserted (by simp [hv])
  host := by
    have hhost := h.host_active (by simp [hv])
    simp [Machine.idleExpired, Power.sleeping, hhost]
  reason := rfl
  delay := rfl
  idle := nofun

/-- REQUESTED is entered from PENDING, with the reason held (R162). -/
theorem Power.Sound.sleepDelayExpired (h : s.power.Sound) (hv : s.power.vote = .pending) :
    (sleepDelayExpired s).power.Sound where
  wake := h.wake_deasserted (by simp [hv])
  host := by
    have hhost := h.host_active (by simp [hv])
    simp [Machine.sleepDelayExpired, countPower, Power.sleeping, hhost]
  reason := h.reason.trans (by rw [hv]; rfl)
  delay := rfl
  idle hidle := nomatch (h.idle hidle).symm.trans hv

theorem Power.Sound.writeEnables (h : s.power.Sound) (mask : BitVec 8) : (writeEnables mask s).power.Sound := h.congr

end

end Sys2Proof.Machine
end

section
/-! PROOFS. The Management Unit keeps the law of its events: a flag set or cleared and an enable written recompute ATTN,
and a notice becomes owed only for a set flag (R32, R33, R173 to R175). -/

namespace Sys2Proof.Machine

/-! ### The law of the events -/

/-- The law of the Management Unit, a notice owed told by its cause (R33, R173). -/
structure Mgmt.Sound (m : Mgmt) : Prop where
  attn : m.attn = attnOf m.flags m.enables
  owed : ∀ c, hasCause m.owedNotices c = true → hasCause m.flags c = true

theorem owed_within_flags_iff {owed flags : BitVec 16} :
    owed &&& ~~~flags = 0 ↔ ∀ c, hasCause owed c = true → hasCause flags c = true := by
  rw [eq_zero_iff_no_cause]
  refine forall_congr' fun c => ?_
  simp [hasCause]

theorem eventLaw_iff {s : State} : EventLaw s ↔ s.mgmt.Sound :=
  ⟨fun ⟨hattn, howed⟩ => ⟨hattn, owed_within_flags_iff.1 howed⟩,
    fun ⟨hattn, howed⟩ => ⟨hattn, owed_within_flags_iff.2 howed⟩⟩

section
variable {m n : Mgmt} {c : EventCause}

/-- The law reads the flags, the enables, ATTN and the owed notices. -/
theorem Mgmt.Sound.congr (h : m.Sound) (hflags : n.flags = m.flags := by simp)
    (henables : n.enables = m.enables := by simp) (hattn : n.attn = m.attn := by simp)
    (howed : n.owedNotices = m.owedNotices := by simp) : n.Sound := by
  obtain ⟨h1, h2⟩ := h
  refine ⟨?_, ?_⟩
  · rw [hattn, hflags, henables, h1]
  · rw [howed, hflags]; exact h2

/-- With ATTN recomputed only the owed notices are left to meet the law. -/
theorem Mgmt.refreshAttn_sound (h : ∀ c, hasCause m.owedNotices c = true → hasCause m.flags c = true) :
    m.refreshAttn.Sound :=
  ⟨rfl, h⟩

/-- A notice made owed for a set flag. -/
theorem Mgmt.Sound.owe (h : m.Sound) (hc : hasCause m.flags c = true) :
    Mgmt.Sound { m with owedNotices := setCause m.owedNotices c true } := by
  refine ⟨h.attn, fun d hd => ?_⟩
  by_cases hdc : d = c
  · rwa [hdc]
  · exact h.owed d (by rwa [hasCause_setCause_other _ hdc] at hd)

/-- A notice owed no longer. -/
theorem Mgmt.Sound.settle (h : m.Sound) (c : EventCause) :
    Mgmt.Sound { m with owedNotices := setCause m.owedNotices c false } := by
  refine ⟨h.attn, fun d hd => ?_⟩
  by_cases hdc : d = c
  · rw [hdc, hasCause_setCause_same] at hd
    cases hd
  · exact h.owed d (by rwa [hasCause_setCause_other _ hdc] at hd)

theorem Mgmt.Sound.clearFlags (h : m.Sound) (mask : BitVec 16) : (m.clearFlags mask).Sound := by
  refine Mgmt.refreshAttn_sound fun c hc => ?_
  simp only [hasCause, BitVec.getLsbD_and, Bool.and_eq_true] at hc ⊢
  exact hc.imp_left (h.owed c)

end

/-! ### Requests, emissions and events -/

section
variable {s : State} {c : EventCause}

theorem Mgmt.Sound.requestState (h : s.mgmt.Sound) : (requestState s).mgmt.Sound := h.congr

theorem Mgmt.Sound.placeNote (h : s.mgmt.Sound) (c : EventCause) : (placeNote c s).mgmt.Sound := h.congr

theorem Mgmt.Sound.requestNote (h : s.mgmt.Sound) (hc : hasCause s.mgmt.flags c = true) :
    (requestNote c s).mgmt.Sound := by
  cases hplace : s.placesAtOnce with
  | true =>
    rw [requestNote_of_placed hplace]
    exact h.placeNote c
  | false =>
    rw [requestNote_of_owing hplace]
    exact (h.owe hc).congr

theorem Mgmt.Sound.emitNotice (h : s.mgmt.Sound) (c : EventCause) : (emitNotice c s).mgmt.Sound :=
  Mgmt.Sound.placeNote (s := s.setMgmt _) (h.settle c) c

theorem Mgmt.Sound.emitNotices (h : s.mgmt.Sound) (cs : List EventCause) : (emitNotices cs s).mgmt.Sound := by
  induction cs generalizing s with
  | nil => exact h
  | cons c cs ih =>
    simp only [Machine.emitNotices]
    split
    · split
      · exact ih (h.emitNotice c)
      · exact h
    · exact ih h

theorem Mgmt.Sound.emitOwed (h : s.mgmt.Sound) : (emitOwed s).mgmt.Sound := by
  simp only [Machine.emitOwed]
  split
  · split
    · exact Mgmt.Sound.emitNotices (h.congr) _
    · exact h
  · exact h.emitNotices _

theorem Mgmt.Sound.flagged (h : s.mgmt.Sound) (c : EventCause) : (flagged c s).mgmt.Sound := by
  refine Mgmt.refreshAttn_sound fun d hd => ?_
  by_cases hdc : d = c
  · rw [hdc, hasCause_setCause_same]
  · rw [hasCause_setCause_other _ hdc]
    exact h.owed d hd

theorem hasCause_flagged (c : EventCause) (s : State) : hasCause (flagged c s).mgmt.flags c = true :=
  hasCause_setCause_same _ c true

theorem Mgmt.Sound.takeEvent (h : s.mgmt.Sound) (c : EventCause) : (takeEvent c s).mgmt.Sound := by
  simp only [Machine.takeEvent]
  split
  · exact (h.flagged c).requestNote (hasCause_flagged c s)
  · exact h.flagged c

theorem Mgmt.Sound.takeManagementEvent (h : s.mgmt.Sound) (e : ManagementEvent) :
    (takeManagementEvent e s).mgmt.Sound := by
  cases e with
  | cause c => exact h.takeEvent c
  | stateRequest => exact h.requestState

/-- A notice is announced only where its flag is set (R174). -/
theorem Mgmt.Sound.announce (h : s.mgmt.Sound) (fresh : BitVec 16) (cs : List EventCause) :
    (announce fresh cs s).mgmt.Sound := by
  induction cs generalizing s with
  | nil => exact h
  | cons c cs ih =>
    simp only [Machine.announce]
    split
    · next hc =>
      simp only [Bool.and_eq_true] at hc
      obtain ⟨⟨-, hflag⟩, -⟩ := hc
      exact ih (h.requestNote hflag)
    · exact ih h

theorem Mgmt.Sound.setEnables (h : s.mgmt.Sound) (mask : BitVec 16) : (setEnables mask s).mgmt.Sound :=
  Mgmt.Sound.announce (Mgmt.refreshAttn_sound (m := { s.mgmt with enables := mask }) h.owed) _ _

end

end Sys2Proof.Machine
end

section
/-! PROOFS. Every command keeps the law of the sleep vote and the law of the events: the Power Policy Unit's and the
Management Unit's own events, their commands and the resets reach the two blocks, and nothing else does (R155, R156,
R173). -/

namespace Sys2Proof.Machine

/-! ### Steps that keep both laws -/

/-- A step keeps the law of the sleep vote and the law of the events, each by itself. -/
structure VoteEventKept (s t : State) : Prop where
  vote : s.power.Sound → t.power.Sound
  event : s.mgmt.Sound → t.mgmt.Sound

section
variable {s t u : State}

@[refl] theorem VoteEventKept.refl (s : State) : VoteEventKept s s := ⟨id, id⟩

theorem VoteEventKept.trans (h : VoteEventKept s t) (h' : VoteEventKept t u) : VoteEventKept s u :=
  ⟨h'.vote ∘ h.vote, h'.event ∘ h.event⟩

/-- A step of another block. -/
theorem VoteEventKept.of_eq (hp : t.power = s.power := by simp) (hm : t.mgmt = s.mgmt := by simp) :
    VoteEventKept s t :=
  ⟨fun h => hp ▸ h, fun h => hm ▸ h⟩

/-- A step of the Power Policy Unit. -/
theorem VoteEventKept.of_power (h : s.power.Sound → t.power.Sound) (hm : t.mgmt = s.mgmt := by simp) :
    VoteEventKept s t :=
  ⟨h, fun h => hm ▸ h⟩

/-- A step of the Management Unit. -/
theorem VoteEventKept.of_mgmt (h : s.mgmt.Sound → t.mgmt.Sound) (hp : t.power = s.power := by simp) :
    VoteEventKept s t :=
  ⟨fun h => hp ▸ h, h⟩

/-- An event that acts only under a condition keeps the laws where its act does. -/
theorem VoteEventKept.guarded {p : Prop} [Decidable p] (h : p → VoteEventKept s t) :
    VoteEventKept s (if p then t else s) := by
  split
  · next hp => exact h hp
  · rfl

/-- A delivery taken keeps the laws where what is done with it does. -/
theorem VoteEventKept.taking {α : Type} {r : Block × Block} {sel : Delivery → Option α} {f : α → State → State}
    (hf : ∀ a t, VoteEventKept t (f a t)) : VoteEventKept s (taking r sel f s) := by
  rcases taking_cases r sel f s with he | ⟨a, ds, -, he⟩
  · rw [he]
  · rw [he]
    exact ⟨(hf a (s.setDeliveries ds)).vote, (hf a (s.setDeliveries ds)).event⟩

theorem VoteEventKept.takingOne {d : Delivery} {f : State → State} (hf : ∀ t, VoteEventKept t (f t)) :
    VoteEventKept s (takingOne d f s) :=
  .taking fun _ => hf

theorem VoteEventKept.sLook (h : VoteEventKept s t) : VoteEventKept s (sLook t) := h.trans .of_eq

theorem VoteEventKept.lookAfter (h : VoteEventKept s t) : VoteEventKept s (lookAfter s t) := h.trans .of_eq

end

/-! ### Classification and the ports -/

@[simp] theorem consume_mgmt (c : Consumer) (port : UpPort) (payload : List Byte) (s : State) :
    (consume c port payload s).mgmt = s.mgmt := by
  simp only [consume]
  split
  · cases c <;> simp [Consumer.take]
  · simp

@[simp] theorem act_mgmt (d : Decision) (port : UpPort) (f : Frame) (s : State) :
    (act d port f s).2.mgmt = s.mgmt := by
  simp only [act]; split <;> simp

@[simp] theorem classify_mgmt (port : UpPort) (f : Frame) (s : State) : (classify port f s).2.mgmt = s.mgmt := by
  simp [classify]

@[simp] theorem checkDeclared_mgmt (d : Descriptor) (f : Frame) (s : State) :
    (checkDeclared d f s).mgmt = s.mgmt := by
  simp only [checkDeclared]; (repeat' split) <;> simp

@[simp] theorem checkAttached_mgmt (f : Frame) (s : State) : (checkAttached f s).mgmt = s.mgmt := by
  simp only [checkAttached]; (repeat' split) <;> simp

@[simp] theorem takeBaseFrame_mgmt (f : Frame) (s : State) : (takeBaseFrame f s).mgmt = s.mgmt := by
  simp only [takeBaseFrame]; split <;> simp

@[simp] theorem receiveB_mgmt (unit : List Byte) (s : State) : (receiveB unit s).mgmt = s.mgmt := by
  simp only [receiveB]; (repeat' split) <;> simp

@[simp] theorem receiveL_mgmt (unit : List Byte) (s : State) : (receiveL unit s).mgmt = s.mgmt := by
  simp only [receiveL]; (repeat' split) <;> simp

@[simp] theorem receiveP_mgmt (unit : List Byte) (s : State) : (receiveP unit s).mgmt = s.mgmt := by
  simp only [receiveP]; (repeat' split) <;> simp

/-! ### Lines, transmitters and the other blocks -/

theorem VoteEventKept.presenceAsserted (s : State) : VoteEventKept s (presenceAsserted s) := by
  simp only [Machine.presenceAsserted]
  split
  · exact .takingOne fun t => .of_eq
  · exact .of_eq

theorem VoteEventKept.presenceReleased (s : State) : VoteEventKept s (presenceReleased s) := .guarded fun _ => .of_eq

theorem VoteEventKept.handshakeExpired (s : State) : VoteEventKept s (handshakeExpired s) := by
  simp only [Machine.handshakeExpired]
  split
  · exact .guarded fun _ => .of_eq
  · rfl

theorem VoteEventKept.hostFrameSent (s : State) : VoteEventKept s (hostFrameSent s) := by
  simp only [Machine.hostFrameSent]
  split
  · exact .of_eq
  · rfl

theorem VoteEventKept.lookWhereAsked (s : State) : VoteEventKept s (lookWhereAsked s) := .guarded fun _ => .of_eq

theorem VoteEventKept.tryRelease (o : RetryOccasion) (s : State) : VoteEventKept s (tryRelease o s) :=
  .guarded fun _ => .of_eq

theorem VoteEventKept.tryLift (o : RetryOccasion) (s : State) : VoteEventKept s (tryLift o s) :=
  .guarded fun _ => .of_eq

theorem VoteEventKept.admitPosture (s : State) : VoteEventKept s (admitPosture s) :=
  .of_eq (by simp [Machine.admitPosture]) (by simp [Machine.admitPosture])

theorem VoteEventKept.tearPosture (s : State) : VoteEventKept s (tearPosture s) :=
  .of_eq (by simp [Machine.tearPosture]) (by simp [Machine.tearPosture])

/-! ### The management commands -/

theorem VoteEventKept.cmdSetHostState (args : List Byte) (s : State) :
    VoteEventKept s (cmdSetHostState args s).state := by
  refine .of_power fun h => ?_
  simp only [Machine.cmdSetHostState]
  split
  · split
    · exact h
    · exact h.hostReport _
  · exact h

theorem VoteEventKept.cmdWriteWakeTable (args : List Byte) (s : State) :
    VoteEventKept s (cmdWriteWakeTable args s).state := by
  refine .of_power fun h => ?_
  simp only [Machine.cmdWriteWakeTable]
  split
  · exact h.writeEnables _
  · exact h

theorem VoteEventKept.cmdClearEvents (args : List Byte) (s : State) :
    VoteEventKept s (cmdClearEvents args s).state := by
  refine .of_mgmt fun h => ?_
  simp only [Machine.cmdClearEvents]
  split
  · exact h.clearFlags _
  · exact h

theorem VoteEventKept.cmdSetEventEnable (args : List Byte) (s : State) :
    VoteEventKept s (cmdSetEventEnable args s).state := by
  refine .of_mgmt fun h => ?_
  simp only [Machine.cmdSetEventEnable]
  split
  · exact h.setEnables _
  · exact h

/-- Of the counter groups two are the two blocks' own, and the laws read no counter (R167, R176). -/
theorem VoteEventKept.clearGroup (g : Fin 11) (s : State) : VoteEventKept s (clearGroup g s) := by
  simp only [Machine.clearGroup]
  split
  case h_10 => exact .of_power fun h => h.congr
  case h_11 => exact .of_mgmt fun h => h.congr
  all_goals exact .of_eq

theorem VoteEventKept.cmdReadCounters (args : List Byte) (s : State) :
    VoteEventKept s (cmdReadCounters args s).state := by
  simp only [Machine.cmdReadCounters]
  split
  case h_2 => rfl
  split
  · rfl
  split
  · rfl
  · exact .guarded (p := _ = true) fun _ => .clearGroup _ s

/-- Every command that a code names, SOFT_RESET aside, keeps the laws in its execution: all but five leave the two
blocks alone. -/
theorem VoteEventKept.commandOf {code : Nat} {run : List Byte → State → Answer} (hc : commandOf code = some run)
    (args : List Byte) (s : State) : VoteEventKept s (run args s).state := by
  unfold Machine.commandOf at hc
  split at hc <;> cases hc
  case h_26 => exact .cmdSetHostState args s
  case h_27 => exact .cmdWriteWakeTable args s
  case h_33 => exact .cmdClearEvents args s
  case h_34 => exact .cmdSetEventEnable args s
  case h_37 => exact .cmdReadCounters args s
  all_goals exact .of_eq

/-! ### Answers and the S-port -/

theorem VoteEventKept.complete (code : Byte) (i : BufIdx) (a : Answer) : VoteEventKept a.state (complete code i a) :=
  .of_mgmt (fun h => h.congr rfl rfl rfl rfl) rfl

/-- A command with its response place taken keeps the laws where its execution does. -/
theorem VoteEventKept.respond {code : Byte} {unit : List Byte} {run : State → Answer}
    (hrun : ∀ t, VoteEventKept t (run t).state) (s : State) : VoteEventKept s (respond code unit run s) := by
  rcases respond_cases code unit run s with ⟨-, i, p, -, he⟩ | he <;> rw [he]
  · have hplace : VoteEventKept s (s.setPool p) := .of_eq
    exact hplace.trans ((hrun _).trans (.complete code i _))
  · exact .of_eq

/-- After a soft reset the vote is AWAKE with the host ACTIVE, and no flag is set and no notice owed (R172). -/
theorem VoteEventKept.softResetState (s : State) : VoteEventKept s (softResetState s) where
  vote _ := ⟨rfl, rfl, rfl, rfl, nofun⟩
  event _ := ⟨by simp [Machine.softResetState, attnOf], fun c hc => by simp [Machine.softResetState, hasCause] at hc⟩

theorem VoteEventKept.runSoftReset (unit args : List Byte) (s : State) :
    VoteEventKept s (runSoftReset unit args s) := by
  simp only [Machine.runSoftReset]
  split
  · split
    · refine (VoteEventKept.softResetState s).trans ?_
      simp only [placeResetResponse]
      split
      · exact VoteEventKept.trans (t := (Machine.softResetState s).setPool _) .of_eq (.complete 2 _ (okay [] _))
      · rfl
    · exact .of_eq
  · exact .respond (fun _ => .refl _) s

theorem VoteEventKept.manage (unit payload : List Byte) (s : State) : VoteEventKept s (manage unit payload s) := by
  cases payload with
  | nil => exact .respond (fun _ => .refl _) s
  | cons code args =>
    simp only [Machine.manage]
    split
    · exact .runSoftReset unit args s
    · split
      · next run hrun => exact .respond (.commandOf hrun args) s
      · exact .respond (fun _ => .refl _) s

theorem VoteEventKept.placeDownstream (f : Frame) (s : State) : VoteEventKept s (placeDownstream f s) := by
  have hp := placeReceived_frame .qd f.raw s
  refine .of_eq ?_ ?_ <;> simp only [Machine.placeDownstream] <;> split <;> simp_all

theorem VoteEventKept.takeHostFrame (f : Frame) (s : State) : VoteEventKept s (takeHostFrame f s) := by
  have hbad : VoteEventKept s (badDest f s) := .of_eq (by simp [badDest]) (by simp [badDest])
  simp only [Machine.takeHostFrame]
  split
  · split
    · exact VoteEventKept.trans .of_eq (.manage _ _ _)
    · exact hbad
  · split
    · split
      · exact .placeDownstream f s
      · exact hbad
    · exact hbad

theorem VoteEventKept.receiveS (unit : List Byte) (s : State) : VoteEventKept s (receiveS unit s) := by
  simp only [Machine.receiveS]
  split
  · split
    · exact VoteEventKept.trans .of_eq (.takeHostFrame _ _)
    · exact .of_eq
  · exact .of_eq

/-- A management command given as a command of its own keeps the laws. -/
theorem VoteEventKept.mgmtEvent {code : Byte} {run : List Byte → State → Answer}
    (hc : Machine.commandOf code.toNat = some run) (channel : Chan) (args : List Byte) (s : State) :
    VoteEventKept s (mgmtEvent code channel args run s) :=
  (VoteEventKept.respond (.commandOf hc args) s).lookAfter

/-! ### Every command -/

/-- Every command keeps both laws, taken by the kind of its meaning. -/
theorem VoteEventKept.exec (c : Instr) (s : State) : ∃ t, exec c s = .next t ∧ VoteEventKept s t := by
  cases c with
  | powerOnReset =>
    exact ⟨_, rfl, fun _ => voteLaw_iff.1 voteLaw_reset, fun _ => eventLaw_iff.1 eventLaw_reset⟩
  | timeCountTick => exact ⟨_, rfl, .of_power (fun h => h.tick) rfl⟩
  -- Units at the four ports.
  | bPortUnitCompleted | lPortUnitCompleted | pPortUnitCompleted => exact ⟨_, rfl, .of_eq⟩
  | sPortUnitCompleted => exact ⟨_, rfl, (VoteEventKept.receiveS _ s).lookAfter⟩
  -- Lines and the ends of what the transmitters send.
  | hostReadyChange level => exact ⟨_, rfl, .of_eq (by simp [hostReady]) (by simp [hostReady])⟩
  | presenceAsserted => exact ⟨_, rfl, .presenceAsserted s⟩
  | presenceReleased => exact ⟨_, rfl, .presenceReleased s⟩
  | handshakeWaitExpiry => exact ⟨_, rfl, .handshakeExpired s⟩
  | sPortFrameEnd => exact ⟨_, rfl, .hostFrameSent s⟩
  | bPortSymbolReceived | bPortSymbolSent | partOriginatedFrameSent | downstreamFrameSent | drivePeriodEnd =>
    exact ⟨_, rfl, .of_eq⟩
  -- Timers, the vote's two first.
  | sleepDelayExpiry => exact ⟨_, rfl, .guarded fun ⟨hv, _⟩ => .of_power fun h => h.sleepDelayExpired hv⟩
  | idleTimerExpiry => exact ⟨_, rfl, .guarded fun ⟨hv, _⟩ => .of_power fun h => h.idleExpired hv⟩
  | identTimeoutExpiry => exact ⟨_, rfl, .guarded fun _ => VoteEventKept.trans .of_eq (.lookWhereAsked _)⟩
  | contactDebounceExpiry | aliveWindowExpiry | baseFreshnessExpiry | pingExpiry | probeWindowExpiry
  | penSilenceExpiry | topUpExpiry | cooldownExpiry =>
    exact ⟨_, rfl, .guarded fun _ => .of_eq⟩
  -- Deliveries taken by the Power Policy Unit and by the Management Unit.
  | powerPostureChange =>
    exact ⟨_, rfl, .taking fun (new, row) t => .of_power fun h => h.powerPostureChanged new row⟩
  | powerPolicyEvent => exact ⟨_, rfl, .taking fun row t => .of_power fun h => h.powerPolicyChanged row⟩
  | activityEvent => exact ⟨_, rfl, .takingOne fun t => .of_power fun h => h.activity⟩
  | wakeSourceEvent source => exact ⟨_, rfl, .takingOne fun t => .of_power fun h => h.edgeOccurs source⟩
  | owedFrameEmission =>
    exact ⟨_, rfl, .takingOne fun t => (VoteEventKept.of_mgmt fun h => h.emitOwed).sLook⟩
  | eventDelivery event =>
    exact ⟨_, rfl, .takingOne fun t => (VoteEventKept.of_mgmt fun h => h.takeManagementEvent event).sLook⟩
  -- Deliveries taken by the other blocks.
  | releaseRetry => exact ⟨_, rfl, .taking fun o t => (VoteEventKept.tryRelease o t).sLook⟩
  | liftRetry => exact ⟨_, rfl, .taking fun o t => (VoteEventKept.tryLift o t).sLook⟩
  | postureAdmission => exact ⟨_, rfl, .takingOne fun t => (VoteEventKept.admitPosture t).sLook⟩
  | postureTeardown => exact ⟨_, rfl, .takingOne fun t => (VoteEventKept.tearPosture t).sLook⟩
  | toggleAndHaltReset => exact ⟨_, rfl, .takingOne fun t => .of_eq rfl rfl⟩
  | admissionGrant => exact ⟨_, rfl, .takingOne fun t => .of_eq (by split <;> simp) (by split <;> simp)⟩
  | pendingItemRetry | inputGateTeardown | transmitterTeardown | railTeardown =>
    exact ⟨_, rfl, .takingOne fun t => .of_eq⟩
  | gateUpdate | capChange => exact ⟨_, rfl, .taking fun a t => .of_eq⟩
  -- Management commands.
  | softReset => exact ⟨_, rfl, (VoteEventKept.runSoftReset _ _ s).lookAfter⟩
  | getInfo | writeRoute | invalidateRoute | readRoute | setDefaultRoute | writePosture | invalidatePosture
  | readPostureEntry | writePolicy | writeAxisMap | writeAngleParams | readPostureRecord | setRotationLock
  | writeBaseClass | readBaseRecord | setLinkTiming | channelHalt | channelResume | setBudget | readBudget
  | writeDriveLevel | writeChargeCell | setChargeParams | chargeEnable | readChargeRecord | setHostState
  | writeWakeTable | readSleepRecord | setQueue | flushQueue | readQueues | readEvents | clearEvents
  | setEventEnable | readLog | clearLog | readCounters =>
    exact ⟨_, rfl, .mgmtEvent rfl _ _ s⟩

/-- Every step keeps both laws: it is the front command's effect, or the part idles. -/
theorem VoteEventKept.step {s t : State} (h : step s = .next t) : VoteEventKept s t := by
  simp only [Machine.step] at h
  split at h
  · cases h; rfl
  · next c rest _ =>
    obtain ⟨u, hu, hkept⟩ := VoteEventKept.exec c (s.setPending rest)
    obtain rfl := Host.Outcome.next.inj (hu.symm.trans h)
    exact ⟨hkept.vote, hkept.event⟩

/-- Settles O5, command by command: the Power Policy Unit moves the vote with WAKE and the host power state, the
Management Unit recomputes ATTN with every flag and enable. -/
theorem everyStepKeepsTheVoteAndEventLaws : Obligations.EveryStepKeepsTheVoteAndEventLaws := by
  intro s t hstep
  obtain ⟨hvote, hevent⟩ := VoteEventKept.step hstep
  exact ⟨fun h => voteLaw_iff.2 (hvote (voteLaw_iff.1 h)), fun h => eventLaw_iff.2 (hevent (eventLaw_iff.1 h))⟩

end Sys2Proof.Machine
end

section
/-! PROOFS. What every command leaves of the queue of commands and of the last reset byte, and from it the step of the
front command, GET_INFO and the last reset (R171, R172; assumption 15). -/

namespace Sys2Proof.Machine

/-! ### Steps that keep the queue and the last reset -/

/-- A step keeps the queue of commands that wait and the last reset byte. -/
structure QueueResetKept (s t : State) : Prop where
  pending : t.pending = s.pending
  lastReset : t.mgmt.lastReset = s.mgmt.lastReset

section
variable {s t u : State}

@[refl] theorem QueueResetKept.refl (s : State) : QueueResetKept s s := ⟨rfl, rfl⟩

theorem QueueResetKept.trans (h : QueueResetKept s t) (h' : QueueResetKept t u) : QueueResetKept s u :=
  ⟨h'.pending.trans h.pending, h'.lastReset.trans h.lastReset⟩

/-- A step of another block than the Management Unit. -/
theorem QueueResetKept.of_eq (hp : t.pending = s.pending := by simp) (hm : t.mgmt = s.mgmt := by simp) :
    QueueResetKept s t :=
  ⟨hp, hm ▸ rfl⟩

/-- An event that acts only under a condition keeps both where its act does. -/
theorem QueueResetKept.guarded {p : Prop} [Decidable p] (h : QueueResetKept s t) :
    QueueResetKept s (if p then t else s) := by
  split
  · exact h
  · rfl

/-- A delivery taken keeps both where what is done with it does. -/
theorem QueueResetKept.taking {α : Type} {r : Block × Block} {sel : Delivery → Option α} {f : α → State → State}
    (hf : ∀ a t, QueueResetKept t (f a t)) : QueueResetKept s (taking r sel f s) := by
  rcases taking_cases r sel f s with he | ⟨a, ds, -, he⟩ <;> rw [he]
  exact ⟨(hf a (s.setDeliveries ds)).pending, (hf a (s.setDeliveries ds)).lastReset⟩

theorem QueueResetKept.takingOne {d : Delivery} {f : State → State} (hf : ∀ t, QueueResetKept t (f t)) :
    QueueResetKept s (takingOne d f s) :=
  .taking fun _ => hf

theorem QueueResetKept.sLook (h : QueueResetKept s t) : QueueResetKept s (sLook t) := h.trans .of_eq

theorem QueueResetKept.lookAfter (h : QueueResetKept s t) : QueueResetKept s (lookAfter u t) := h.trans .of_eq

end

/-! ### Lines, transmitters and deliveries -/

theorem QueueResetKept.presenceAsserted (s : State) : QueueResetKept s (presenceAsserted s) := by
  simp only [Machine.presenceAsserted]
  split
  · exact .takingOne fun t => .of_eq
  · exact .of_eq

theorem QueueResetKept.handshakeExpired (s : State) : QueueResetKept s (handshakeExpired s) := by
  simp only [Machine.handshakeExpired]
  split
  · exact .guarded .of_eq
  · rfl

theorem QueueResetKept.hostFrameSent (s : State) : QueueResetKept s (hostFrameSent s) := by
  simp only [Machine.hostFrameSent]
  split
  · exact .of_eq
  · rfl

theorem QueueResetKept.identExpired (s : State) : QueueResetKept s (lookWhereAsked (identExpired s)) :=
  QueueResetKept.trans .of_eq (.guarded .of_eq)

theorem QueueResetKept.takeManagementEvent (e : ManagementEvent) (s : State) :
    QueueResetKept s (takeManagementEvent e s) := by
  refine ⟨by simp, ?_⟩
  cases e with
  | cause c => simp only [Machine.takeManagementEvent, takeEvent]; split <;> simp [Mgmt.refreshAttn]
  | stateRequest => simp [Machine.takeManagementEvent]

/-! ### Answers -/

theorem QueueResetKept.clearGroup (g : Fin 11) (s : State) : QueueResetKept s (clearGroup g s) := by
  refine ⟨by simp, ?_⟩
  simp only [Machine.clearGroup]
  split <;> simp

/-- Of the commands that a code names, SOFT_RESET aside, three act on the Management Unit; they leave the last reset
byte as it stands (R171, R175, R176). -/
theorem QueueResetKept.commandOf {code : Nat} {run : List Byte → State → Answer} (hc : commandOf code = some run)
    (args : List Byte) (s : State) : QueueResetKept s (run args s).state := by
  unfold Machine.commandOf at hc
  split at hc <;> cases hc
  case h_33 => exact ⟨by simp, by simp only [cmdClearEvents]; split <;> simp [Mgmt.clearFlags, Mgmt.refreshAttn]⟩
  case h_34 =>
    exact ⟨by simp, by simp only [cmdSetEventEnable]; split <;> simp [setEnables, Mgmt.refreshAttn]⟩
  case h_37 =>
    refine ⟨by simp, ?_⟩
    simp only [cmdReadCounters]
    (repeat' split) <;> simp [(QueueResetKept.clearGroup _ s).lastReset]
  all_goals exact .of_eq

theorem QueueResetKept.complete (code : Byte) (i : BufIdx) (a : Answer) :
    QueueResetKept a.state (complete code i a) :=
  ⟨rfl, rfl⟩

/-- A command with its response place taken keeps both where its execution does. -/
theorem QueueResetKept.respond {code : Byte} {unit : List Byte} {run : State → Answer}
    (hrun : ∀ t, QueueResetKept t (run t).state) (s : State) : QueueResetKept s (respond code unit run s) := by
  rcases respond_cases code unit run s with ⟨-, i, p, -, he⟩ | he <;> rw [he]
  · have hplace : QueueResetKept s (s.setPool p) := .of_eq
    exact hplace.trans ((hrun _).trans (.complete code i _))
  · exact .of_eq

theorem QueueResetKept.mgmtEvent {code : Byte} {run : List Byte → State → Answer}
    (hc : Machine.commandOf code.toNat = some run) (channel : Chan) (args : List Byte) (s : State) :
    QueueResetKept s (mgmtEvent code channel args run s) :=
  (QueueResetKept.respond (.commandOf hc args) s).lookAfter

/-! ### SOFT_RESET -/

/-- The response to a soft reset leaves the last reset byte as the reset set it (R172, step 4). -/
theorem QueueResetKept.placeResetResponse (s : State) : QueueResetKept s (placeResetResponse s) := by
  simp only [Machine.placeResetResponse]
  split
  · exact QueueResetKept.trans (t := s.setPool _) .of_eq (.complete 2 _ (okay [] _))
  · rfl

/-- A SOFT_RESET that is not executed, for its length or for want of room, keeps both (R30, R168). -/
theorem QueueResetKept.runSoftReset {s : State} {args : List Byte} (h : ¬ (s.pool.hasRoom = true ∧ args = []))
    (unit : List Byte) : QueueResetKept s (runSoftReset unit args s) := by
  cases args with
  | nil =>
    have hroom : s.pool.hasRoom ≠ true := fun hroom => h ⟨hroom, rfl⟩
    simp only [Machine.runSoftReset, hroom]
    exact .of_eq
  | cons arg args => exact .respond (fun _ => .refl _) s

/-- An executed SOFT_RESET keeps what the soft reset left. -/
theorem QueueResetKept.softResetState {s : State} (hroom : s.pool.hasRoom = true) (unit : List Byte) :
    QueueResetKept (Machine.softResetState s) (Machine.runSoftReset unit [] s) := by
  simp only [Machine.runSoftReset, hroom, if_true]
  exact .placeResetResponse _

/-! ### The S-port -/

theorem QueueResetKept.manage {s : State} {payload : List Byte} (h : ¬ (s.pool.hasRoom = true ∧ payload = [2]))
    (unit : List Byte) : QueueResetKept s (manage unit payload s) := by
  cases payload with
  | nil => exact .respond (fun _ => .refl _) s
  | cons code args =>
    simp only [Machine.manage]
    split
    · next hcode =>
      cases BitVec.eq_of_toNat_eq (x := code) (y := 2) hcode
      exact .runSoftReset (fun ⟨hroom, hargs⟩ => h ⟨hroom, by rw [hargs]⟩) unit
    · split
      · next run hrun => exact .respond (.commandOf hrun args) s
      · exact .respond (fun _ => .refl _) s

theorem QueueResetKept.placeDownstream (f : Frame) (s : State) : QueueResetKept s (placeDownstream f s) := by
  have hp := placeReceived_frame .qd f.raw s
  refine .of_eq ?_ ?_ <;> simp only [Machine.placeDownstream] <;> split <;> simp_all

theorem QueueResetKept.badDest (f : Frame) (s : State) : QueueResetKept s (badDest f s) :=
  .of_eq (by simp [Machine.badDest]) (by simp [Machine.badDest])

/-- A frame from the host carries a SOFT_RESET that its argument bytes let run (R19, R172). -/
def Frame.CarriesSoftReset (f : Frame) : Prop := f.dest = 0 ∧ f.kind = .mgmt ∧ f.payload = [2]

theorem QueueResetKept.takeHostFrame {f : Frame} {s : State}
    (h : ¬ (s.pool.hasRoom = true ∧ f.CarriesSoftReset)) : QueueResetKept s (takeHostFrame f s) := by
  simp only [Machine.takeHostFrame]
  split
  · next hdest =>
    split
    · next hkind =>
      refine QueueResetKept.trans (t := countS _ s) .of_eq (.manage ?_ _)
      rintro ⟨hroom, hpayload⟩
      exact h ⟨by simpa using hroom, hdest, hkind, hpayload⟩
    · exact .badDest f s
  · split
    · split
      · exact .placeDownstream f s
      · exact .badDest f s
    · exact .badDest f s

theorem QueueResetKept.receiveS {unit : List Byte} {s : State}
    (h : ∀ f, frameCheckPasses unit = true → headerCheck .s unit = some f →
      ¬ (s.pool.hasRoom = true ∧ f.CarriesSoftReset)) : QueueResetKept s (receiveS unit s) := by
  simp only [Machine.receiveS]
  split
  · next hcheck =>
    split
    · next f hheader =>
      refine QueueResetKept.trans .of_eq (.takeHostFrame ?_)
      simpa using h f hcheck hheader
    · exact .of_eq
  · exact .of_eq

/-- A SOFT_RESET through the S-port resets the state in which its frame was counted (R19, R172). -/
theorem QueueResetKept.softReset_of_receiveS {unit : List Byte} {s : State} {f : Frame}
    (hroom : s.pool.hasRoom = true) (hcheck : frameCheckPasses unit = true) (hheader : headerCheck .s unit = some f)
    (hf : f.CarriesSoftReset) :
    ∃ u, u.pending = s.pending ∧ QueueResetKept (Machine.softResetState u) (Machine.receiveS unit s) := by
  obtain ⟨hdest, hkind, hpayload⟩ := hf
  refine ⟨countS (fun k => { k with mgmtFrames := satInc k.mgmtFrames }) (stagedAtS unit s), rfl, ?_⟩
  rw [receiveS_of_frame hcheck hheader, takeHostFrame_of_mgmt hdest hkind, hpayload]
  exact QueueResetKept.softResetState (s := countS _ (stagedAtS unit s)) hroom f.raw

/-! ### Every command -/

/-- The command executes a soft reset: SOFT_RESET with room for its answer, as a command of its own or in a
management frame of the S-port (R19, R30, R172). -/
def SoftResets (c : Instr) (s : State) : Prop :=
  s.pool.hasRoom = true ∧ ((∃ channel, c = .softReset channel [])
    ∨ ∃ b0 rest f, c = .sPortUnitCompleted b0 rest ∧ frameCheckPasses (b0 :: rest) = true
      ∧ headerCheck .s (b0 :: rest) = some f ∧ f.CarriesSoftReset)

/-- A command that executes a soft reset keeps the queue, and the last reset byte tells of it. -/
theorem exec_of_softResets {c : Instr} {s : State} (h : SoftResets c s) :
    ∃ t, exec c s = .next t ∧ t.pending = s.pending ∧ t.mgmt.lastReset = .soft := by
  obtain ⟨hroom, ⟨channel, rfl⟩ | ⟨b0, rest, f, rfl, hcheck, hheader, hf⟩⟩ := h
  · have hkept := (QueueResetKept.softResetState hroom (mgmtUnit channel 2 [])).lookAfter (u := s)
    exact ⟨_, rfl, hkept.pending, hkept.lastReset⟩
  · obtain ⟨u, hu, hkept⟩ := QueueResetKept.softReset_of_receiveS hroom hcheck hheader hf
    have hlooked := hkept.lookAfter (u := s)
    exact ⟨_, rfl, hlooked.pending.trans hu, hlooked.lastReset⟩

/-- Every command that resets nothing, taken by the kind of its meaning, keeps the queue and the last reset byte. -/
theorem QueueResetKept.exec {c : Instr} {s : State} (hpower : c ≠ .powerOnReset) (hsoft : ¬ SoftResets c s) :
    ∃ t, exec c s = .next t ∧ QueueResetKept s t := by
  cases c with
  | powerOnReset => exact absurd rfl hpower
  | timeCountTick => exact ⟨_, rfl, rfl, rfl⟩
  -- Units at the four ports.
  | bPortUnitCompleted | lPortUnitCompleted | pPortUnitCompleted => exact ⟨_, rfl, .of_eq⟩
  | sPortUnitCompleted b0 rest =>
    refine ⟨_, rfl, (QueueResetKept.receiveS fun f hcheck hheader ⟨hroom, hf⟩ => hsoft ?_).lookAfter⟩
    exact ⟨hroom, .inr ⟨b0, rest, f, rfl, hcheck, hheader, hf⟩⟩
  -- Lines and the ends of what the transmitters send.
  | hostReadyChange level => exact ⟨_, rfl, .of_eq (by simp [hostReady]) (by simp [hostReady])⟩
  | presenceAsserted => exact ⟨_, rfl, .presenceAsserted s⟩
  | presenceReleased => exact ⟨_, rfl, .guarded .of_eq⟩
  | handshakeWaitExpiry => exact ⟨_, rfl, .handshakeExpired s⟩
  | sPortFrameEnd => exact ⟨_, rfl, .hostFrameSent s⟩
  | bPortSymbolReceived | bPortSymbolSent | partOriginatedFrameSent | downstreamFrameSent | drivePeriodEnd =>
    exact ⟨_, rfl, .of_eq⟩
  -- Timers.
  | identTimeoutExpiry => exact ⟨_, rfl, .guarded (.identExpired s)⟩
  | baseFreshnessExpiry | contactDebounceExpiry | aliveWindowExpiry | pingExpiry | probeWindowExpiry
  | penSilenceExpiry | topUpExpiry | cooldownExpiry | sleepDelayExpiry | idleTimerExpiry =>
    exact ⟨_, rfl, .guarded .of_eq⟩
  -- Deliveries.
  | owedFrameEmission => exact ⟨_, rfl, .takingOne fun t => ⟨by simp, by simp⟩⟩
  | eventDelivery event => exact ⟨_, rfl, .takingOne fun t => (QueueResetKept.takeManagementEvent event t).sLook⟩
  | releaseRetry | liftRetry => exact ⟨_, rfl, .taking fun o t => (QueueResetKept.guarded .of_eq).sLook⟩
  | postureAdmission =>
    exact ⟨_, rfl, .takingOne fun t => .of_eq (by simp [admitPosture]) (by simp [admitPosture])⟩
  | postureTeardown => exact ⟨_, rfl, .takingOne fun t => .of_eq (by simp [tearPosture]) (by simp [tearPosture])⟩
  | toggleAndHaltReset => exact ⟨_, rfl, .takingOne fun t => .of_eq rfl rfl⟩
  | admissionGrant => exact ⟨_, rfl, .takingOne fun t => .of_eq (by split <;> simp) (by split <;> simp)⟩
  | pendingItemRetry | inputGateTeardown | transmitterTeardown | railTeardown | activityEvent | wakeSourceEvent =>
    exact ⟨_, rfl, .takingOne fun t => .of_eq⟩
  | gateUpdate | capChange | powerPostureChange | powerPolicyEvent => exact ⟨_, rfl, .taking fun a t => .of_eq⟩
  -- Management commands.
  | softReset channel args =>
    refine ⟨_, rfl, (QueueResetKept.runSoftReset (fun ⟨hroom, hargs⟩ => hsoft ?_) _).lookAfter⟩
    exact ⟨hroom, .inl ⟨channel, by rw [hargs]⟩⟩
  | getInfo | writeRoute | invalidateRoute | readRoute | setDefaultRoute | writePosture | invalidatePosture
  | readPostureEntry | writePolicy | writeAxisMap | writeAngleParams | readPostureRecord | setRotationLock
  | writeBaseClass | readBaseRecord | setLinkTiming | channelHalt | channelResume | setBudget | readBudget
  | writeDriveLevel | writeChargeCell | setChargeParams | chargeEnable | readChargeRecord | setHostState
  | writeWakeTable | readSleepRecord | setQueue | flushQueue | readQueues | readEvents | clearEvents
  | setEventEnable | readLog | clearLog | readCounters =>
    exact ⟨_, rfl, .mgmtEvent rfl _ _ s⟩

/-! ### The statements -/

/-- No command acts on the queue of commands, the two resets included (assumption 16). -/
theorem exec_pending (c : Instr) (s : State) : ∃ t, exec c s = .next t ∧ t.pending = s.pending := by
  by_cases hpower : c = .powerOnReset
  · subst hpower
    exact ⟨powerOn s, rfl, rfl⟩
  by_cases hsoft : SoftResets c s
  · obtain ⟨t, ht, hpending, -⟩ := exec_of_softResets hsoft
    exact ⟨t, ht, hpending⟩
  · obtain ⟨t, ht, hkept⟩ := QueueResetKept.exec hpower hsoft
    exact ⟨t, ht, hkept.pending⟩

/-- Settles O1: the step takes the front command away before it runs it, and no command acts on the queue. -/
theorem stepRunsTheFrontCommand : Obligations.StepRunsTheFrontCommand := by
  refine ⟨fun c rest s => rfl, fun c s t hexec => ?effect, fun s hempty => ?idle⟩
  case effect =>
    obtain ⟨u, hu, hpending⟩ := exec_pending c s
    obtain rfl := Host.Outcome.next.inj (hu.symm.trans hexec)
    exact hpending
  case idle => simp only [step, hempty]

/-- The byte of the last reset (R171). -/
theorem byteNat_lastReset_code (r : LastReset) : byteNat r.code = if r = .powerOn then 0 else 1 := by
  cases r <;> rfl

/-- GET_INFO answers the identity, the Time Count low byte first, and the last reset (R171). -/
theorem cmdGetInfo_nil (s : State) : cmdGetInfo [] s =
    okay [0x48, 0xC4, 1, 48, 24, 8, 4, 8, 16, 8, 16, 14, 32, 16, s.time.setWidth 8,
      (s.time >>> (8 : Nat)).setWidth 8, if s.mgmt.lastReset = .powerOn then 0 else 1] s := by
  rw [← byteNat_lastReset_code]
  rfl

/-- Settles O53: GET_INFO by its bytes, and the last reset byte by whether the command resets. -/
theorem getInfoAndTheLastReset : Obligations.GetInfoAndTheLastReset := by
  refine ⟨fun channel s hroom => exec_of_okay hroom rfl fun p => cmdGetInfo_nil (s.setPool p),
    fun s => ⟨powerOn s, rfl, rfl⟩, fun c s => ?_⟩
  intro resets
  refine ⟨fun hkeeps => ?keeps, fun hresets hpower => ?soft⟩
  case keeps =>
    obtain ⟨t, ht, hkept⟩ := QueueResetKept.exec (fun hpower => hkeeps (.inl hpower)) fun hsoft => hkeeps (.inr hsoft)
    exact ⟨t, ht, hkept.lastReset⟩
  case soft =>
    have hsoft : SoftResets c s := hresets.resolve_left hpower
    obtain ⟨t, ht, -, hlast⟩ := exec_of_softResets hsoft
    exact ⟨t, ht, hlast⟩

end Sys2Proof.Machine
end
